-- ==== Sys2Proof/Word.lean ====
section
/-! DEFINITION. The plainest data of the part: bytes, the names of lanes, ports and kinds, slot and unit
numbers, and the fixed-size tables that hold one thing for each of them. -/

namespace Sys2Proof

/-- One byte of a link (R166). -/
abbrev Byte := BitVec 8

/-- A pay window with its head, escrow, cup and outlet (00_scope.md, Terms: Lane). -/
inductive Lane where
  | a
  | b
  deriving DecidableEq, Repr

/-- The other lane (00_scope.md, Denominations, units and lanes). -/
def Lane.other : Lane → Lane
  | .a => .b
  | .b => .a

/-- COIN or NOTE: the kind of a slot (R1), of a mechanism (R112) and of a cashbox (R13). -/
inductive Kind where
  | coin
  | note
  deriving DecidableEq, Repr

/-- The three links: lane ports A and B and the service port (00_scope.md, Parties and links). -/
inductive Port where
  | lpA
  | lpB
  | sp
  deriving DecidableEq, Repr

/-- The lane port of a lane. -/
def Lane.port : Lane → Port
  | .a => .lpA
  | .b => .lpB

/-- A lane port's own lane; the service port has none. -/
def Port.lane : Port → Option Lane
  | .lpA => some .a
  | .lpB => some .b
  | .sp => none

/-- A slot of the denomination table, 0 to 11 (R1). -/
abbrev Slot := Fin 12

/-- A unit: 0 to 7 for T0 to T7, 8 to 11 for D0 to D3 (R4, numbered as R168 codes them). -/
abbrev UnitId := Fin 12

/-- A tube belongs to the coin mechanism, a drum to the note mechanism (R6). -/
def unitKind (u : UnitId) : Kind := if u.val < 8 then .coin else .note

/-- A drum D0 to D3 by its own number. -/
abbrev Drum := Fin 4

/-- The unit number of a drum. -/
def Drum.unit (d : Drum) : UnitId := ⟨8 + d.val, by omega⟩

/-- The twelve units in ascending order, tubes before drums (R146). -/
def allUnits : List UnitId := [0, 1, 2, 3, 4, 5, 6, 7, 8, 9, 10, 11]

/-- The twelve slots in ascending order. -/
def allSlots : List Slot := [0, 1, 2, 3, 4, 5, 6, 7, 8, 9, 10, 11]

/-- A set of slots or of units, bit n for number n (R168). -/
abbrev Mask12 := BitVec 12

/-- The number of a count store record, 0 to 21 (R152). -/
abbrev RecordNo := Fin 22

/-- One value for each lane. -/
structure PerLane (α : Type) where
  a : α
  b : α
  deriving DecidableEq, Repr

def PerLane.get {α : Type} (t : PerLane α) : Lane → α
  | .a => t.a
  | .b => t.b

def PerLane.set {α : Type} (t : PerLane α) (l : Lane) (x : α) : PerLane α :=
  match l with
  | .a => { t with a := x }
  | .b => { t with b := x }

def PerLane.modify {α : Type} (t : PerLane α) (l : Lane) (f : α → α) : PerLane α := t.set l (f (t.get l))

def PerLane.map {α β : Type} (t : PerLane α) (f : α → β) : PerLane β := ⟨f t.a, f t.b⟩

/-- One value for each kind: mechanisms, arbiters, cashboxes. -/
structure PerKind (α : Type) where
  coin : α
  note : α
  deriving DecidableEq, Repr

def PerKind.get {α : Type} (t : PerKind α) : Kind → α
  | .coin => t.coin
  | .note => t.note

def PerKind.set {α : Type} (t : PerKind α) (k : Kind) (x : α) : PerKind α :=
  match k with
  | .coin => { t with coin := x }
  | .note => { t with note := x }

def PerKind.modify {α : Type} (t : PerKind α) (k : Kind) (f : α → α) : PerKind α := t.set k (f (t.get k))

def PerKind.map {α β : Type} (t : PerKind α) (f : α → β) : PerKind β := ⟨f t.coin, f t.note⟩

/-- One value for each port. -/
structure PerPort (α : Type) where
  lpA : α
  lpB : α
  sp : α
  deriving DecidableEq, Repr

def PerPort.get {α : Type} (t : PerPort α) : Port → α
  | .lpA => t.lpA
  | .lpB => t.lpB
  | .sp => t.sp

def PerPort.set {α : Type} (t : PerPort α) (p : Port) (x : α) : PerPort α :=
  match p with
  | .lpA => { t with lpA := x }
  | .lpB => { t with lpB := x }
  | .sp => { t with sp := x }

def PerPort.modify {α : Type} (t : PerPort α) (p : Port) (f : α → α) : PerPort α := t.set p (f (t.get p))

def PerPort.map {α β : Type} (t : PerPort α) (f : α → β) : PerPort β := ⟨f t.lpA, f t.lpB, f t.sp⟩

/-- One value for each of twelve slots or units. -/
structure Twelve (α : Type) where
  e0 : α
  e1 : α
  e2 : α
  e3 : α
  e4 : α
  e5 : α
  e6 : α
  e7 : α
  e8 : α
  e9 : α
  e10 : α
  e11 : α
  deriving DecidableEq, Repr

def Twelve.get {α : Type} (t : Twelve α) (i : Fin 12) : α :=
  match i with
  | 0 => t.e0
  | 1 => t.e1
  | 2 => t.e2
  | 3 => t.e3
  | 4 => t.e4
  | 5 => t.e5
  | 6 => t.e6
  | 7 => t.e7
  | 8 => t.e8
  | 9 => t.e9
  | 10 => t.e10
  | 11 => t.e11

def Twelve.set {α : Type} (t : Twelve α) (i : Fin 12) (x : α) : Twelve α :=
  match i with
  | 0 => { t with e0 := x }
  | 1 => { t with e1 := x }
  | 2 => { t with e2 := x }
  | 3 => { t with e3 := x }
  | 4 => { t with e4 := x }
  | 5 => { t with e5 := x }
  | 6 => { t with e6 := x }
  | 7 => { t with e7 := x }
  | 8 => { t with e8 := x }
  | 9 => { t with e9 := x }
  | 10 => { t with e10 := x }
  | 11 => { t with e11 := x }

def Twelve.modify {α : Type} (t : Twelve α) (i : Fin 12) (f : α → α) : Twelve α := t.set i (f (t.get i))

/-- The table whose entry at each number is the function's value. -/
def Twelve.tabulate {α : Type} (f : Fin 12 → α) : Twelve α :=
  ⟨f 0, f 1, f 2, f 3, f 4, f 5, f 6, f 7, f 8, f 9, f 10, f 11⟩

def Twelve.map {α β : Type} (t : Twelve α) (f : α → β) : Twelve β := Twelve.tabulate fun i => f (t.get i)

def Twelve.replicate {α : Type} (x : α) : Twelve α := Twelve.tabulate fun _ => x

def Twelve.toList {α : Type} (t : Twelve α) : List α :=
  [t.e0, t.e1, t.e2, t.e3, t.e4, t.e5, t.e6, t.e7, t.e8, t.e9, t.e10, t.e11]

/-- One value for each of eight audit counters. -/
structure Eight (α : Type) where
  e0 : α
  e1 : α
  e2 : α
  e3 : α
  e4 : α
  e5 : α
  e6 : α
  e7 : α
  deriving DecidableEq, Repr

def Eight.get {α : Type} (t : Eight α) (i : Fin 8) : α :=
  match i with
  | 0 => t.e0
  | 1 => t.e1
  | 2 => t.e2
  | 3 => t.e3
  | 4 => t.e4
  | 5 => t.e5
  | 6 => t.e6
  | 7 => t.e7

def Eight.tabulate {α : Type} (f : Fin 8 → α) : Eight α := ⟨f 0, f 1, f 2, f 3, f 4, f 5, f 6, f 7⟩

def Eight.set {α : Type} (t : Eight α) (i : Fin 8) (x : α) : Eight α :=
  match i with
  | 0 => { t with e0 := x }
  | 1 => { t with e1 := x }
  | 2 => { t with e2 := x }
  | 3 => { t with e3 := x }
  | 4 => { t with e4 := x }
  | 5 => { t with e5 := x }
  | 6 => { t with e6 := x }
  | 7 => { t with e7 := x }

def Eight.toList {α : Type} (t : Eight α) : List α := [t.e0, t.e1, t.e2, t.e3, t.e4, t.e5, t.e6, t.e7]

/-- The numbers of the audit counters in ascending order. -/
def allCounters : List (Fin 8) := [0, 1, 2, 3, 4, 5, 6, 7]

end Sys2Proof
end

