-- ==== Sys2Proof/Config.lean ====
section
/-! DEFINITION. What the spec fixes as numbers, and the free values: what the spec leaves open, as
constants without a body, so that nothing can be proved of them. -/

namespace Sys2Proof.Config

/-- The largest amount (00_scope.md, Amounts and quantities). -/
def maxAmount : Nat := 999999

/-- Where a cashbox count saturates (R13). -/
def maxBoxCount : Nat := 65535

/-- Sales that one order list may hold (R25). -/
def orderListRoom : Nat := 4

/-- Notes that an escrow stack may hold (R39). -/
def escrowRoom : Nat := 8

/-- Jobs that a lane job queue may hold (R90). -/
def laneQueueRoom : Nat := 16

/-- Jobs that the service job queue may hold (R90). -/
def serviceQueueRoom : Nat := 8

/-- Entries of a per-tag event list (R174). -/
def eventListRoom : Nat := 4

/-- BUSY frames that may wait (R169). -/
def busyRoom : Nat := 2

/-- Attempts of one ejection (R112, R118). -/
def maxAttempts : Nat := 3

/-- The eject timeout of an attempt in ms: 400 for the coin mechanism, 2,000 for the note mechanism (R112). -/
def ejectTimeout : Kind → Nat
  | .coin => 400
  | .note => 2000

/-- The longest escrow return in ms (R43). -/
def returnTimeout : Nat := 3000

/-- How long a record gathers changes before it may be written, in ms (R154). -/
def dirtyDelay : Nat := 200

/-- The longest pause between two bytes of a frame in ms (R166). -/
def interByteLimit : Nat := 10

/-- The link's speed in bits a second (R166). -/
def baud : Nat := 57600

/-- One past the largest counter value (R179). -/
def counterModulus : Nat := 4294967296

/-- FREE VALUE. What becomes of an amount whose exact value passes 999,999 where the spec states no
saturation: some amount of the range (logs 14 and 15). -/
opaque overflowAmount : Nat → Fin 1000000

/-- FREE VALUE. The two bytes that carry a count above 65,535 (log 14). -/
opaque overflowCount : Nat → BitVec 16

/-- FREE VALUE. The number of bytes of a time in the reply of READ_STORE (log 13). -/
opaque timeWidth : Nat

/-- The reply fields whose content the spec leaves open (log 16). -/
inductive OpenField where
  | absentRequested
  | absentMoved
  | absentEnd
  | idleRecord
  deriving DecidableEq, Repr

/-- FREE VALUE. The content of a field that the spec gives no value for (log 16). -/
opaque openField : OpenField → BitVec 16

end Sys2Proof.Config
end

