-- ==== Sys2Proof/Syntax.lean ====
section
/-! DEFINITION. The commands of the block: one constructor for each row of spec/opcode_table.json.

The operands of a request are the port whose frame it is and the parameters of section 9.4 in their order,
each as the number the frame carries (R168), so that every value a rule refuses with RANGE can be written.
`status` and `stop` carry a lane at the service port and none at a lane port (R172).
Slots of piece reports, mechanisms, lanes and sensors of the module's lines are given by their own types:
each is a separate line. -/

namespace Sys2Proof

/-- One piece or two pieces together, as a sensor tells them by the length of the passage (R115). -/
inductive Pieces where
  | one
  | two
  deriving DecidableEq, Repr

/-- The entry sensors: one at each drum, one at the note cashbox (R117). -/
inductive EntrySensor where
  | drum (d : Drum)
  | noteCashbox
  deriving DecidableEq, Repr

inductive Instr where
  -- requests of the lane ports
  | openSale (port : Port) (tag due : Nat)
  | tender (port : Port) (tag : Nat)
  | quote (port : Port) (tag : Nat)
  | pay (port : Port) (tag acceptShort : Nat)
  | cancel (port : Port) (tag : Nat)
  | release (port : Port) (tag : Nat)
  | status (port : Port) (lane : Option Nat) (tag : Nat)
  | stop (port : Port) (lane : Option Nat) (tag : Nat)
  | laneOpen (port : Port)
  | laneClose (port : Port)
  | floorHold (port : Port)
  | floorYield (port : Port)
  -- requests of the service port
  | lockUnit (port : Port) (unit : Nat)
  | unlockUnit (port : Port) (unit : Nat)
  | writeUnit (port : Port) (unit slot capacity highWater sweepTarget laneMask : Nat)
  | setDenom (port : Port) (slot value kind enabled accept recycle lowWater : Nat)
  | setFloor (port : Port) (lane slot count : Nat)
  | setLimits (port : Port) (setting value : Nat)
  | auditUnit (port : Port) (unit count : Nat)
  | emptyUnit (port : Port) (unit keep : Nat)
  | floatInBegin (port : Port) (lane : Nat)
  | floatInEnd (port : Port) (lane : Nat)
  | clearJam (port : Port) (unit : Nat)
  | clearFault (port : Port) (mechanism : Nat)
  | clearEscrow (port : Port) (lane action : Nat)
  | cashboxCleared (port : Port) (box : Nat)
  | restart (port : Port)
  | counterSet (port : Port) (counter event laneMask slotMask mode threshold invert : Nat)
  -- requests of every port
  | counterRead (port : Port) (counter : Nat)
  | readDenom (port : Port) (slot : Nat)
  | readUnit (port : Port) (unit : Nat)
  | readCashbox (port : Port) (box : Nat)
  | readReservations (port : Port)
  | readFloors (port : Port) (lane : Nat)
  | readQueue (port : Port) (place : Nat)
  | readMechanism (port : Port) (mechanism : Nat)
  | readService (port : Port)
  | readStore (port : Port)
  | readEvents (port : Port)
  | setEventMask (port : Port) (mask : Nat)
  -- events of a link
  | busyReply (port : Port) (command : Byte)
  | unknownReply (port : Port) (command : Byte)
  | frameDiscard (port : Port)
  | interByteTimeout (port : Port)
  | replySent (port : Port)
  -- reports of the module's lines
  | coinPieceReport (head : Lane) (slot : Slot)
  | notePieceReport (head : Lane) (slot : Slot)
  | exitSensorReport (mechanism : Kind) (pieces : Pieces)
  | entrySensorReport (sensor : EntrySensor) (pieces : Pieces)
  | ejectTimeout (mechanism : Kind)
  | faultSenseActive (mechanism : Kind) (level : Bool)
  | escrowEmptyReport (lane : Lane) (empty : Bool)
  | returnTimeout (lane : Lane)
  | cupCleared (lane : Lane)
  | outletCleared (lane : Lane)
  | holdTimerExpiry (lane : Lane) (tag : Nat)
  | planRequestTaken
  | maintenanceKeyChange (level : Bool)
  | pfwActive
  | pfwInactive
  | resetLine
  | powerOn
  | powerLoss
  | writeBegin
  | writeComplete
  | byteReceived (port : Port) (byte : Byte)
  deriving DecidableEq, Repr

end Sys2Proof
end

