-- ==== Sys2Proof/WellFormed.lean ====
section
/-! DEFINITION. Which terms of `Instr` a link or a line can carry: every parameter fits the bytes that R168
gives its field, the lane parameter of STATUS and STOP is there exactly at the service port (R172), and the
tag of a hold timer is a tag (R26). A well-formed request may still be refused: ranges are the rules' checks. -/

namespace Sys2Proof

/-- A value of a one-byte field. -/
def fits1 (n : Nat) : Bool := decide (n < 256)

/-- A value of a two-byte field. -/
def fits2 (n : Nat) : Bool := decide (n < 65536)

/-- A value of a three-byte field. -/
def fits3 (n : Nat) : Bool := decide (n < 16777216)

/-- The lane parameter stands exactly at the service port (R172). -/
def laneParamOk : Port → Option Nat → Bool
  | .sp, some l => fits1 l
  | .sp, none => false
  | .lpA, l => l.isNone
  | .lpB, l => l.isNone

def Instr.wellFormed : Instr → Bool
  | .openSale _ tag due => fits2 tag && fits3 due
  | .tender _ tag => fits2 tag
  | .quote _ tag => fits2 tag
  | .pay _ tag acceptShort => fits2 tag && fits1 acceptShort
  | .cancel _ tag => fits2 tag
  | .release _ tag => fits2 tag
  | .status p lane tag => laneParamOk p lane && fits2 tag
  | .stop p lane tag => laneParamOk p lane && fits2 tag
  | .laneOpen _ => true
  | .laneClose _ => true
  | .floorHold _ => true
  | .floorYield _ => true
  | .lockUnit _ unit => fits1 unit
  | .unlockUnit _ unit => fits1 unit
  | .writeUnit _ unit slot capacity highWater sweepTarget laneMask =>
    fits1 unit && fits1 slot && fits2 capacity && fits2 highWater && fits2 sweepTarget && fits1 laneMask
  | .setDenom _ slot value kind enabled accept recycle lowWater =>
    fits1 slot && fits3 value && fits1 kind && fits1 enabled && fits1 accept && fits1 recycle && fits2 lowWater
  | .setFloor _ lane slot count => fits1 lane && fits1 slot && fits2 count
  | .setLimits _ setting value => fits1 setting && fits2 value
  | .auditUnit _ unit count => fits1 unit && fits2 count
  | .emptyUnit _ unit keep => fits1 unit && fits2 keep
  | .floatInBegin _ lane => fits1 lane
  | .floatInEnd _ lane => fits1 lane
  | .clearJam _ unit => fits1 unit
  | .clearFault _ mechanism => fits1 mechanism
  | .clearEscrow _ lane action => fits1 lane && fits1 action
  | .cashboxCleared _ box => fits1 box
  | .restart _ => true
  | .counterSet _ counter event laneMask slotMask mode threshold invert =>
    fits1 counter && fits1 event && fits1 laneMask && fits2 slotMask && fits1 mode && fits1 threshold && fits1 invert
  | .counterRead _ counter => fits1 counter
  | .readDenom _ slot => fits1 slot
  | .readUnit _ unit => fits1 unit
  | .readCashbox _ box => fits1 box
  | .readReservations _ => true
  | .readFloors _ lane => fits1 lane
  | .readQueue _ place => fits1 place
  | .readMechanism _ mechanism => fits1 mechanism
  | .readService _ => true
  | .readStore _ => true
  | .readEvents _ => true
  | .setEventMask _ mask => fits2 mask
  | .busyReply _ _ => true
  | .unknownReply _ _ => true
  | .frameDiscard _ => true
  | .interByteTimeout _ => true
  | .replySent _ => true
  | .coinPieceReport _ _ => true
  | .notePieceReport _ _ => true
  | .exitSensorReport _ _ => true
  | .entrySensorReport _ _ => true
  | .ejectTimeout _ => true
  | .faultSenseActive _ _ => true
  | .escrowEmptyReport _ _ => true
  | .returnTimeout _ => true
  | .cupCleared _ => true
  | .outletCleared _ => true
  | .holdTimerExpiry _ tag => decide (1 ≤ tag) && fits2 tag
  | .planRequestTaken => true
  | .maintenanceKeyChange _ => true
  | .pfwActive => true
  | .pfwInactive => true
  | .resetLine => true
  | .powerOn => true
  | .powerLoss => true
  | .writeBegin => true
  | .writeComplete => true
  | .byteReceived _ _ => true

end Sys2Proof
end

