-- ==== Sys2Proof/Decode.lean ====
section
/-! DEFINITION. The part's own encodings: command bytes (section 9.4), parameter fields (R168), the check and
the frames (R167). The opcode table gives no row any bits, so `decodeTableWord` reads no command from a word;
what decodes requests is `decodeRequest`, over the bytes of a received frame, and `encodeRequest` writes them. -/

namespace Sys2Proof

/-- The commands of section 9.4. -/
inductive Command where
  | openSale | tender | quote | pay | cancel | release | status | stop
  | laneOpen | laneClose | floorHold | floorYield
  | lockUnit | unlockUnit | writeUnit | setDenom | setFloor | setLimits | auditUnit | emptyUnit
  | floatInBegin | floatInEnd | clearJam | clearFault | clearEscrow | cashboxCleared | restart | counterSet
  | counterRead | readDenom | readUnit | readCashbox | readReservations | readFloors | readQueue
  | readMechanism | readService | readStore | readEvents | setEventMask
  deriving DecidableEq, Repr

/-- The code column of section 9.4. -/
def Command.code : Command → Nat
  | .openSale => 1
  | .tender => 2
  | .quote => 3
  | .pay => 4
  | .cancel => 5
  | .release => 6
  | .status => 7
  | .stop => 8
  | .laneOpen => 9
  | .laneClose => 10
  | .floorHold => 11
  | .floorYield => 12
  | .lockUnit => 13
  | .unlockUnit => 14
  | .writeUnit => 15
  | .setDenom => 16
  | .setFloor => 17
  | .setLimits => 18
  | .auditUnit => 19
  | .emptyUnit => 20
  | .floatInBegin => 21
  | .floatInEnd => 22
  | .clearJam => 23
  | .clearFault => 24
  | .clearEscrow => 25
  | .cashboxCleared => 26
  | .restart => 27
  | .counterSet => 28
  | .counterRead => 29
  | .readDenom => 30
  | .readUnit => 31
  | .readCashbox => 32
  | .readReservations => 33
  | .readFloors => 34
  | .readQueue => 35
  | .readMechanism => 36
  | .readService => 37
  | .readStore => 38
  | .readEvents => 39
  | .setEventMask => 40

/-- The command byte of a command. -/
def Command.byte (c : Command) : Byte := BitVec.ofNat 8 c.code

/-- Every command, in the order of its code. -/
def allCommands : List Command :=
  [.openSale, .tender, .quote, .pay, .cancel, .release, .status, .stop, .laneOpen, .laneClose,
   .floorHold, .floorYield, .lockUnit, .unlockUnit, .writeUnit, .setDenom, .setFloor, .setLimits,
   .auditUnit, .emptyUnit, .floatInBegin, .floatInEnd, .clearJam, .clearFault, .clearEscrow,
   .cashboxCleared, .restart, .counterSet, .counterRead, .readDenom, .readUnit, .readCashbox,
   .readReservations, .readFloors, .readQueue, .readMechanism, .readService, .readStore,
   .readEvents, .setEventMask]

/-- The command that a command byte names, if any (R167). -/
def commandOfByte (b : Byte) : Option Command := allCommands.find? fun c => c.byte == b

/-- Which ports take a command: the ports column of section 9.4 (R172). -/
inductive Senders where
  | lanes
  | service
  | lanesAndService
  | every
  deriving DecidableEq, Repr

def Command.senders : Command → Senders
  | .openSale | .tender | .quote | .pay | .cancel | .release => .lanes
  | .status | .stop => .lanesAndService
  | .laneOpen | .laneClose | .floorHold | .floorYield => .lanes
  | .lockUnit | .unlockUnit | .writeUnit | .setDenom | .setFloor | .setLimits | .auditUnit | .emptyUnit => .service
  | .floatInBegin | .floatInEnd | .clearJam | .clearFault | .clearEscrow | .cashboxCleared | .restart => .service
  | .counterSet => .service
  | .counterRead | .readDenom | .readUnit | .readCashbox | .readReservations | .readFloors | .readQueue => .every
  | .readMechanism | .readService | .readStore | .readEvents | .setEventMask => .every

/-- Whether a port may send a command (R172). -/
def Command.permitted (c : Command) (p : Port) : Bool :=
  match c.senders with
  | .lanes => p.lane.isSome
  | .service => p.lane.isNone
  | .lanesAndService => true
  | .every => true

/-- The key column of section 9.4: the commands that need maintenance mode (R134, R159). -/
def Command.keyed : Command → Bool
  | .writeUnit | .setDenom | .auditUnit | .emptyUnit | .clearJam | .clearFault | .clearEscrow => true
  | .cashboxCleared | .restart => true
  | _ => false

/-! ### Bytes -/

/-- The bytes of a number, most significant first (R167). -/
def bigEndian : (width : Nat) → Nat → List Byte
  | 0, _ => []
  | n + 1, v => BitVec.ofNat 8 (v / 256 ^ n) :: bigEndian n v

/-- The number that bytes spell, most significant first (R167). -/
def ofBytes (bs : List Byte) : Nat := bs.foldl (fun acc b => acc * 256 + b.toNat) 0

/-- One bit of the CRC of R167: shift left, and where a one falls out, add the polynomial 1021. -/
def crcBit (c : BitVec 16) : BitVec 16 :=
  let shifted := c <<< 1
  if c.getLsbD 15 then shifted ^^^ 0x1021#16 else shifted

/-- One byte of the CRC, most significant bit first (R167). -/
def crcByte (c : BitVec 16) (b : Byte) : BitVec 16 :=
  let c0 := c ^^^ (b.setWidth 16 <<< 8)
  crcBit (crcBit (crcBit (crcBit (crcBit (crcBit (crcBit (crcBit c0)))))))

/-- The check of a frame: CRC-16, polynomial 1021, initial value FFFF, no final inversion (R167). -/
def crc16 (bs : List Byte) : BitVec 16 := bs.foldl crcByte 0xFFFF#16

/-- The two check bytes, most significant first (R167). -/
def checkBytes (bs : List Byte) : List Byte := bigEndian 2 (crc16 bs).toNat

/-- The request sync value (R167). -/
def requestSync : Byte := 0xA7#8

/-- The reply sync value (R167). -/
def replySync : Byte := 0x7A#8

/-! ### Parameters of requests -/

/-- The widths in bytes of the parameters that a command carries at a port, by R168 (log 12). -/
def Command.widths (c : Command) (p : Port) : List Nat :=
  match c with
  | .openSale => [2, 3]
  | .tender | .quote | .cancel | .release => [2]
  | .pay => [2, 1]
  | .status | .stop => if p.lane.isSome then [2] else [1, 2]
  | .laneOpen | .laneClose | .floorHold | .floorYield => []
  | .lockUnit | .unlockUnit => [1]
  | .writeUnit => [1, 1, 2, 2, 2, 1]
  | .setDenom => [1, 3, 1, 1, 1, 1, 2]
  | .setFloor => [1, 1, 2]
  | .setLimits => [1, 2]
  | .auditUnit | .emptyUnit => [1, 2]
  | .floatInBegin | .floatInEnd => [1]
  | .clearJam | .clearFault => [1]
  | .clearEscrow => [1, 1]
  | .cashboxCleared => [1]
  | .restart => []
  | .counterSet => [1, 1, 1, 2, 1, 1, 1]
  | .counterRead | .readDenom | .readUnit | .readCashbox | .readFloors | .readQueue | .readMechanism => [1]
  | .readReservations | .readService | .readStore | .readEvents => []
  | .setEventMask => [2]

/-- Cut parameter bytes into fields of the given widths; none when the length does not match (R168). -/
def splitFields : List Nat → List Byte → Option (List Nat)
  | [], [] => some []
  | [], _ :: _ => none
  | w :: ws, bs =>
    if bs.length < w then none
    else
      match splitFields ws (bs.drop w) with
      | some vs => some (ofBytes (bs.take w) :: vs)
      | none => none

/-- The request that a command and the values of its fields spell at a port. -/
def requestOf (p : Port) (c : Command) (vs : List Nat) : Option Instr :=
  match c, vs with
  | .openSale, [tag, due] => some (.openSale p tag due)
  | .tender, [tag] => some (.tender p tag)
  | .quote, [tag] => some (.quote p tag)
  | .pay, [tag, acceptShort] => some (.pay p tag acceptShort)
  | .cancel, [tag] => some (.cancel p tag)
  | .release, [tag] => some (.release p tag)
  | .status, [tag] => some (.status p none tag)
  | .status, [lane, tag] => some (.status p (some lane) tag)
  | .stop, [tag] => some (.stop p none tag)
  | .stop, [lane, tag] => some (.stop p (some lane) tag)
  | .laneOpen, [] => some (.laneOpen p)
  | .laneClose, [] => some (.laneClose p)
  | .floorHold, [] => some (.floorHold p)
  | .floorYield, [] => some (.floorYield p)
  | .lockUnit, [unit] => some (.lockUnit p unit)
  | .unlockUnit, [unit] => some (.unlockUnit p unit)
  | .writeUnit, [unit, slot, capacity, highWater, sweepTarget, laneMask] =>
    some (.writeUnit p unit slot capacity highWater sweepTarget laneMask)
  | .setDenom, [slot, value, kind, enabled, accept, recycle, lowWater] =>
    some (.setDenom p slot value kind enabled accept recycle lowWater)
  | .setFloor, [lane, slot, count] => some (.setFloor p lane slot count)
  | .setLimits, [setting, value] => some (.setLimits p setting value)
  | .auditUnit, [unit, count] => some (.auditUnit p unit count)
  | .emptyUnit, [unit, keep] => some (.emptyUnit p unit keep)
  | .floatInBegin, [lane] => some (.floatInBegin p lane)
  | .floatInEnd, [lane] => some (.floatInEnd p lane)
  | .clearJam, [unit] => some (.clearJam p unit)
  | .clearFault, [mechanism] => some (.clearFault p mechanism)
  | .clearEscrow, [lane, action] => some (.clearEscrow p lane action)
  | .cashboxCleared, [box] => some (.cashboxCleared p box)
  | .restart, [] => some (.restart p)
  | .counterSet, [counter, event, laneMask, slotMask, mode, threshold, invert] =>
    some (.counterSet p counter event laneMask slotMask mode threshold invert)
  | .counterRead, [counter] => some (.counterRead p counter)
  | .readDenom, [slot] => some (.readDenom p slot)
  | .readUnit, [unit] => some (.readUnit p unit)
  | .readCashbox, [box] => some (.readCashbox p box)
  | .readReservations, [] => some (.readReservations p)
  | .readFloors, [lane] => some (.readFloors p lane)
  | .readQueue, [place] => some (.readQueue p place)
  | .readMechanism, [mechanism] => some (.readMechanism p mechanism)
  | .readService, [] => some (.readService p)
  | .readStore, [] => some (.readStore p)
  | .readEvents, [] => some (.readEvents p)
  | .setEventMask, [mask] => some (.setEventMask p mask)
  | _, _ => none

/-- The request that a frame received at a port carries: none when the command byte names no command or the
parameters have another length than the command's (R167, R168). -/
def decodeRequest (p : Port) (command : Byte) (params : List Byte) : Option Instr :=
  match commandOfByte command with
  | none => none
  | some c =>
    match splitFields (c.widths p) params with
    | none => none
    | some vs => requestOf p c vs

/-- A request's port, command and field values; none for a command of the table that no frame carries. -/
def requestParts : Instr → Option (Port × Command × List Nat)
  | .openSale p tag due => some (p, .openSale, [tag, due])
  | .tender p tag => some (p, .tender, [tag])
  | .quote p tag => some (p, .quote, [tag])
  | .pay p tag acceptShort => some (p, .pay, [tag, acceptShort])
  | .cancel p tag => some (p, .cancel, [tag])
  | .release p tag => some (p, .release, [tag])
  | .status p none tag => some (p, .status, [tag])
  | .status p (some lane) tag => some (p, .status, [lane, tag])
  | .stop p none tag => some (p, .stop, [tag])
  | .stop p (some lane) tag => some (p, .stop, [lane, tag])
  | .laneOpen p => some (p, .laneOpen, [])
  | .laneClose p => some (p, .laneClose, [])
  | .floorHold p => some (p, .floorHold, [])
  | .floorYield p => some (p, .floorYield, [])
  | .lockUnit p unit => some (p, .lockUnit, [unit])
  | .unlockUnit p unit => some (p, .unlockUnit, [unit])
  | .writeUnit p unit slot capacity highWater sweepTarget laneMask =>
    some (p, .writeUnit, [unit, slot, capacity, highWater, sweepTarget, laneMask])
  | .setDenom p slot value kind enabled accept recycle lowWater =>
    some (p, .setDenom, [slot, value, kind, enabled, accept, recycle, lowWater])
  | .setFloor p lane slot count => some (p, .setFloor, [lane, slot, count])
  | .setLimits p setting value => some (p, .setLimits, [setting, value])
  | .auditUnit p unit count => some (p, .auditUnit, [unit, count])
  | .emptyUnit p unit keep => some (p, .emptyUnit, [unit, keep])
  | .floatInBegin p lane => some (p, .floatInBegin, [lane])
  | .floatInEnd p lane => some (p, .floatInEnd, [lane])
  | .clearJam p unit => some (p, .clearJam, [unit])
  | .clearFault p mechanism => some (p, .clearFault, [mechanism])
  | .clearEscrow p lane action => some (p, .clearEscrow, [lane, action])
  | .cashboxCleared p box => some (p, .cashboxCleared, [box])
  | .restart p => some (p, .restart, [])
  | .counterSet p counter event laneMask slotMask mode threshold invert =>
    some (p, .counterSet, [counter, event, laneMask, slotMask, mode, threshold, invert])
  | .counterRead p counter => some (p, .counterRead, [counter])
  | .readDenom p slot => some (p, .readDenom, [slot])
  | .readUnit p unit => some (p, .readUnit, [unit])
  | .readCashbox p box => some (p, .readCashbox, [box])
  | .readReservations p => some (p, .readReservations, [])
  | .readFloors p lane => some (p, .readFloors, [lane])
  | .readQueue p place => some (p, .readQueue, [place])
  | .readMechanism p mechanism => some (p, .readMechanism, [mechanism])
  | .readService p => some (p, .readService, [])
  | .readStore p => some (p, .readStore, [])
  | .readEvents p => some (p, .readEvents, [])
  | .setEventMask p mask => some (p, .setEventMask, [mask])
  | .busyReply _ _ => none
  | .unknownReply _ _ => none
  | .frameDiscard _ => none
  | .interByteTimeout _ => none
  | .replySent _ => none
  | .coinPieceReport _ _ => none
  | .notePieceReport _ _ => none
  | .exitSensorReport _ _ => none
  | .entrySensorReport _ _ => none
  | .ejectTimeout _ => none
  | .faultSenseActive _ _ => none
  | .escrowEmptyReport _ _ => none
  | .returnTimeout _ => none
  | .cupCleared _ => none
  | .outletCleared _ => none
  | .holdTimerExpiry _ _ => none
  | .planRequestTaken => none
  | .maintenanceKeyChange _ => none
  | .pfwActive => none
  | .pfwInactive => none
  | .resetLine => none
  | .powerOn => none
  | .powerLoss => none
  | .writeBegin => none
  | .writeComplete => none
  | .byteReceived _ _ => none

/-- The bytes of fields of given widths, one after the other. -/
def joinFields : List Nat → List Nat → List Byte
  | w :: ws, v :: vs => bigEndian w v ++ joinFields ws vs
  | _, _ => []

/-- The body of the request frame that carries a request: command byte, then parameters (R167). -/
def requestBody (i : Instr) : Option (List Byte) :=
  match requestParts i with
  | none => none
  | some (p, c, vs) => some (c.byte :: joinFields (c.widths p) vs)

/-- A frame around a body: sync, length, body, check over length and body (R167). -/
def frameAround (sync : Byte) (body : List Byte) : List Byte :=
  let counted := BitVec.ofNat 8 body.length :: body
  sync :: counted ++ checkBytes counted

/-- The whole request frame of a request (R167). -/
def encodeRequest (i : Instr) : Option (List Byte) := (requestBody i).map (frameAround requestSync)

/-- The command that a word spells by the table's bits. No row of the table has bits, so none. -/
def decodeTableWord (_nbits _w : Nat) : Option Instr := none

end Sys2Proof
end

