-- ==== Sys2Proof/Machine/State.lean ====
section
/-! DEFINITION. The state of the part as plain data, and the state right after reset. Each field names the
rule of spec/ that gives it. Derived views (FULL, level events, accept lines, attention lines, free counts,
the four sums) are computed in Machine/Flags.lean and Machine/Ops.lean, and stored nowhere. -/

namespace Sys2Proof.Machine

/-! ### Cash stores (01_cash_stores.md) -/

/-- A slot of the denomination table (R1). -/
structure Denom where
  value : Nat
  kind : Kind
  enabled : Bool
  accept : Bool
  recycle : Bool
  lowWater : Nat
  deriving DecidableEq, Repr

/-- The lanes that may be paid from a unit: A, B or both (R4). -/
inductive LaneMask where
  | onlyA
  | onlyB
  | both
  deriving DecidableEq, Repr

/-- The states of a unit (R8). -/
inductive UnitState where
  | active
  | lockPending
  | locked
  | jammed
  | uncertain
  | absent
  deriving DecidableEq, Repr

/-- A unit record (R4). -/
structure UnitRec where
  slot : Option Slot
  count : Nat
  committed : Nat
  capacity : Nat
  highWater : Nat
  sweepTarget : Nat
  mask : LaneMask
  state : UnitState
  deriving DecidableEq, Repr

/-- A cashbox record; its total is `Cashbox.total` (R13). -/
structure Cashbox where
  counts : Twelve Nat
  capacity : Nat
  deriving DecidableEq, Repr

/-- The settings of SET_LIMITS that no other record holds (R54, R72, R104, R141). -/
structure Limits where
  payout : Nat
  piece : Nat
  effort : Nat
  hold : Nat
  cup : Nat
  outlet : Nat
  deriving DecidableEq, Repr

/-- Where a routed piece goes: a unit, or the cashbox of its kind (R16, R18). -/
inductive Store where
  | unit (u : UnitId)
  | cashbox
  deriving DecidableEq, Repr

/-! ### Sales, lanes and escrow (02_sales_lanes_and_escrow.md) -/

/-- What a head credits pieces to (R33). -/
inductive Binding where
  | none
  | sale (tag : Nat)
  | floatIn
  deriving DecidableEq, Repr

/-- A lane record (R22) with the floor-blocked sale and the asked slots of R83. The need flag is set exactly
while `blockedSale` is not none (R83), so it is not stored twice. -/
structure LaneRec where
  opened : Bool
  holding : Bool
  binding : Binding
  stray : Nat
  cup : Nat
  outlet : Nat
  weight : Nat
  blockedSale : Option Nat
  asked : Mask12
  deriving DecidableEq, Repr

/-- The states of a sale (R31). -/
inductive SaleState where
  | waiting
  | tendering
  | tendered
  | planned
  | paying
  | refunding
  | settled
  | shortSettled
  | cancelled
  | stopped
  deriving DecidableEq, Repr

/-- The outcome of a search (R61). -/
inductive PlanOutcome where
  | exact
  | short
  deriving DecidableEq, Repr

/-- A plan: (slot, count) pairs in descending value (R60). -/
abbrev Plan := List (Slot × Nat)

/-- A sale record (R26). The lane is the order list it stands in, and the hold time remaining is read from the
timer of its reservation (R73). -/
structure Sale where
  tag : Nat
  state : SaleState
  due : Nat
  coinValue : Nat
  noteValue : Nat
  change : Option Nat
  planned : Option Nat
  plan : Option Plan
  outcome : Option PlanOutcome
  shortfall : Nat
  floorBlocked : Bool
  paid : Nat
  overpaid : Nat
  refund : Option Nat
  refundShortfall : Option Nat
  deriving DecidableEq, Repr

/-- Where a note's value went when it arrived (R39). -/
inductive Credit where
  | sale
  | stray
  | floatIn
  | nothing
  deriving DecidableEq, Repr

/-- A note on an escrow stack (R39). -/
structure EscrowEntry where
  slot : Slot
  credit : Credit
  inTransit : Bool
  deriving DecidableEq, Repr

/-- Whose notes a stack holds (R39, R41). -/
inductive EscrowOwner where
  | none
  | sale (tag : Nat)
  | stacking
  | floatIn
  | stray
  | orphan
  deriving DecidableEq, Repr

/-- The status of an escrow stack (R39); a return knows when its 3,000 ms end (R43). -/
inductive EscrowStatus where
  | idle
  | returning (ends : Nat)
  | fault
  deriving DecidableEq, Repr

/-- An escrow record (R39): entries bottom to top, and the level of its escrow-empty sensor (R43, R186). -/
structure Escrow where
  entries : List EscrowEntry
  owner : EscrowOwner
  status : EscrowStatus
  sensorEmpty : Bool
  deriving DecidableEq, Repr

/-! ### Plans and reservations (03_the_change_plan.md, 04_reservations_and_lane_floors.md) -/

/-- The kinds of a plan request (R48). -/
inductive RequestKind where
  | quote
  | refund
  | replan
  deriving DecidableEq, Repr

/-- An entry of the plan request list (R48). `shielded` is the shield rule: apply or ignore. -/
structure PlanReq where
  lane : Lane
  tag : Nat
  kind : RequestKind
  amount : Nat
  shielded : Bool
  deriving DecidableEq, Repr

/-- An entry of the reservation list (R70). The hold timer is held as the time at which it ends. -/
structure Reservation where
  lane : Lane
  tag : Nat
  counts : Plan
  ends : Nat
  deriving DecidableEq, Repr

/-! ### Jobs and mechanisms (05_payout_jobs_and_arbitration.md, 06_coin_and_note_mechanisms.md) -/

/-- Whose work a job is (R89). -/
inductive Origin where
  | sale (lane : Lane) (tag : Nat)
  | stackDown
  | sweep
  | empty
  deriving DecidableEq, Repr

/-- Where a job's pieces come from (R89). -/
inductive Source where
  | unit (u : UnitId)
  | escrow (l : Lane)
  deriving DecidableEq, Repr

/-- Where pieces go: the destinations of R89 and R112. -/
inductive Dest where
  | cup (l : Lane)
  | outlet (l : Lane)
  | cashbox (k : Kind)
  | drum (d : Drum)
  | routed
  deriving DecidableEq, Repr

/-- A job (R89). `serial` numbers jobs in the order of their creation (R122, R127). -/
structure Job where
  serial : Nat
  origin : Origin
  source : Source
  ordered : Nat
  done : Nat
  dest : Dest
  inFlight : Bool
  stopped : Bool
  deriving DecidableEq, Repr

/-- The turn state of an arbiter (R101). -/
structure Turn where
  holder : Lane
  allowance : Nat
  deriving DecidableEq, Repr

/-- Why a mechanism is in FAULT (R112). -/
inductive FaultCause where
  | faultSense
  | stackTimeout
  | stackDouble
  deriving DecidableEq, Repr

/-- The ejection in flight: the fields of R112 that are present in EJECTING only. `job` is the job's serial
number, `ends` the end of the attempt's timer. -/
structure Ejection where
  job : Nat
  source : Source
  dest : Dest
  attempt : Nat
  faultPending : Bool
  ends : Nat
  deriving DecidableEq, Repr

/-- The state of a mechanism with what is present in it only (R112). -/
inductive Phase where
  | ready
  | ejecting (e : Ejection)
  | fault (c : FaultCause)
  deriving DecidableEq, Repr

/-- A mechanism controller (R112) and its fault sense line (R130). -/
structure Mechanism where
  phase : Phase
  sense : Bool
  deriving DecidableEq, Repr

/-- The kinds of a transfer (R149). -/
inductive TransferKind where
  | sweep
  | empty
  deriving DecidableEq, Repr

/-- How a transfer ended (R149). -/
inductive TransferEnd where
  | running
  | complete
  | jam
  | restart
  deriving DecidableEq, Repr

/-- A transfer result (R149). -/
structure Transfer where
  kind : TransferKind
  requested : Nat
  moved : Nat
  ended : TransferEnd
  deriving DecidableEq, Repr

/-! ### Ports and events (09_ports_frames_and_events.md) -/

/-- The reply codes (R171). -/
inductive ReplyCode where
  | ok
  | busy
  | state
  | full
  | duplicate
  | noSale
  | underpaid
  | short
  | noPlan
  | laneClosed
  | notPermitted
  | range
  | queueFull
  | unknown
  deriving DecidableEq, Repr

/-- A field of reply data: how many bytes it takes and the number they carry (R168). -/
structure Field where
  width : Nat
  value : Nat
  deriving DecidableEq, Repr

/-- A reply frame (R167). `answers` tells the reply to the outstanding request from a BUSY frame (R169). -/
structure Frame where
  command : Byte
  code : ReplyCode
  data : List Field
  answers : Bool
  deriving DecidableEq, Repr

/-- The receiver of a port (R166) with the bytes it has kept. -/
inductive Receiver where
  | hunt
  | length
  | body (len : Nat) (kept : List Byte)
  | check (len : Nat) (kept : List Byte) (first : Option Byte)
  deriving DecidableEq, Repr

/-- A port unit (R166, R169, R170). `outstanding` is the command byte of the outstanding request. -/
structure PortUnit where
  receiver : Receiver
  lastByteAt : Nat
  outstanding : Option Byte
  sending : Option Frame
  sendEnds : Nat
  waiting : List Frame
  deriving DecidableEq, Repr

/-- The causes of a restart (R161). -/
inductive RestartCause where
  | powerOn
  | resetLine
  | pfwRecovery
  | restartCommand
  deriving DecidableEq, Repr

/-- The latched events and the mask of a port's event set (R173, R174, R177). Level events are computed. -/
structure EventSet where
  restarted : Option (RestartCause × BitVec 22)
  escrowFault : Option (Lane × Nat)
  withdrawn : List Nat
  expired : List Nat
  finished : List (Nat × SaleState)
  granted : Option Nat
  strayRise : Option Nat
  wrapped : Option (Fin 8)
  transferDone : Option (UnitId × TransferKind × Nat)
  mask : BitVec 16
  deriving DecidableEq, Repr

/-! ### Audit counters (10_audit_counters.md) -/

/-- The sample kinds (R180). -/
inductive SampleKind where
  | pieceIn
  | pieceToCashbox
  | pieceOut
  | planExact
  | planShort
  | planSteps
  | floorBlocked
  | reserveLost
  | jam
  | pause
  | turnWait
  | queueDepth
  | refused
  deriving DecidableEq, Repr

/-- The modes of a counter (R182). -/
inductive CounterMode where
  | count
  | occupancy
  | edge
  deriving DecidableEq, Repr

/-- The select of a counter (R179). Bit 0 of the lane mask is A, bit 1 B, bit 2 service (R184). -/
structure Select where
  event : SampleKind
  laneMask : BitVec 3
  slotMask : Mask12
  mode : CounterMode
  threshold : Nat
  invert : Bool
  deriving DecidableEq, Repr

/-- An audit counter (R179). -/
structure Counter where
  select : Select
  value : Nat
  edge : Bool
  deriving DecidableEq, Repr

/-! ### The count store (08_count_store_power_loss_and_restart.md) -/

/-- The settings of a unit that record 1 holds (R152). -/
structure UnitSettings where
  slot : Option Slot
  capacity : Nat
  highWater : Nat
  sweepTarget : Nat
  mask : LaneMask
  deriving DecidableEq, Repr

/-- The content of the limits record (R152). -/
structure LimitsImage where
  limits : Limits
  coinCapacity : Nat
  noteCapacity : Nat
  deriving DecidableEq, Repr

/-- The content of a unit record (R152). -/
structure UnitImage where
  count : Nat
  state : UnitState
  deriving DecidableEq, Repr

/-- The content of an escrow record (R152). -/
structure EscrowImage where
  slots : List Slot
  owner : EscrowOwner
  deriving DecidableEq, Repr

/-- The content of a record, taken from its source when a write begins (R152, R155). -/
inductive Image where
  | denoms (t : Twelve Denom)
  | settings (t : Twelve UnitSettings)
  | floors (t : PerLane (Twelve Nat))
  | limits (l : LimitsImage)
  | weights (w : PerLane Nat)
  | selects (t : Eight Select)
  | unit (u : UnitId) (i : UnitImage)
  | cashbox (k : Kind) (counts : Twelve Nat)
  | escrow (l : Lane) (i : EscrowImage)
  deriving DecidableEq, Repr

/-- What the memory of one record holds (R153): nothing ever written, a record whose check value matches, or
the remains of a write that was cut off. -/
inductive Cell (α : Type) where
  | blank
  | whole (content : α)
  | torn
  deriving DecidableEq, Repr

/-- The 22 records (R152). -/
structure CountStore where
  denoms : Cell (Twelve Denom)
  settings : Cell (Twelve UnitSettings)
  floors : Cell (PerLane (Twelve Nat))
  limits : Cell LimitsImage
  weights : Cell (PerLane Nat)
  selects : Cell (Eight Select)
  units : Twelve (Cell UnitImage)
  boxes : PerKind (Cell (Twelve Nat))
  escrows : PerLane (Cell EscrowImage)
  deriving DecidableEq, Repr

/-- The record writer (R155): the record in write is the one the image belongs to. -/
inductive Writer where
  | idle
  | writing (image : Image)
  deriving DecidableEq, Repr

/-! ### The state -/

/-- Everything the spec gives the part, the model's clock, and the queue of waiting commands. -/
@[ext]
structure State where
  /-- The commands that wait, first in first out. The model's own. -/
  pending : List Instr
  /-- The model's clock in ms (log 2). -/
  now : Nat
  /-- The supply is there and the restore has been taken (R156, R162). -/
  powered : Bool
  /-- The denomination table (R1). -/
  denoms : Twelve Denom
  /-- The unit records (R4). -/
  units : Twelve UnitRec
  /-- The cashbox records (R13). -/
  boxes : PerKind Cashbox
  /-- The settings of SET_LIMITS (R141). -/
  limits : Limits
  /-- The lane floors (R80). -/
  floors : PerLane (Twelve Nat)
  /-- The lane records (R22, R83). -/
  lanes : PerLane LaneRec
  /-- The order lists with their sale records, oldest first (R25, R26). -/
  sales : PerLane (List Sale)
  /-- The escrow stacks (R39). -/
  escrows : PerLane Escrow
  /-- The plan request list, head first (R48, R50). -/
  planReqs : List PlanReq
  /-- The reservation list, oldest first (R70). -/
  reservations : List Reservation
  /-- The lane job queues, head first (R90). -/
  laneJobs : PerLane (List Job)
  /-- The service job queue, oldest first (R90). -/
  serviceJobs : List Job
  /-- The stack-down positions, oldest first (R90). -/
  stackJobs : List Job
  /-- The serial number of the next job. The model's own (log 21). -/
  nextJob : Nat
  /-- The turn states of the two arbiters (R101). -/
  turns : PerKind Turn
  /-- The mechanism controllers (R112). -/
  mechs : PerKind Mechanism
  /-- A restart has left the controllers READY, and the first event after it tests their fault sense lines (R112, R163;
  log 11). -/
  retest : Bool
  /-- The float-in tallies (R143). -/
  tallies : PerLane (Twelve Nat)
  /-- The transfer results (R149). -/
  transfers : Twelve (Option Transfer)
  /-- The port units (R166, R169, R170). -/
  ports : PerPort PortUnit
  /-- The event sets (R173). -/
  events : PerPort EventSet
  /-- The audit counters (R179). -/
  counters : Eight Counter
  /-- The maintenance key switch line (R134). -/
  key : Bool
  /-- The power-fail warning line (R157). -/
  pfw : Bool
  /-- The warning is armed (R157, R158). -/
  armed : Bool
  /-- The dirty set: record numbers with the time each joined, in ascending order (R154). -/
  dirty : List (RecordNo × Nat)
  /-- The record writer (R155). -/
  writer : Writer
  /-- Its scan position (R155). -/
  scan : RecordNo
  /-- The non-volatile records (R152). -/
  store : CountStore
  /-- The cause of the last restart (R165). -/
  lastCause : RestartCause
  /-- The failed-record set of the last power-on, bit n for record n (R162, R165). -/
  lastFailed : BitVec 22
  /-- The coin path last set at each head (R16). -/
  coinPaths : PerLane (Option Store)
  deriving DecidableEq, Repr

/-- Why the machine stops with a fault. The spec gives the part no event that stops it (INVENTORY.md, Faults),
so there is no reason at all, and no command answers a fault. -/
inductive Fault where
  deriving DecidableEq, Repr

/-- Why a command has no meaning. -/
inductive Refusal where
  /-- Raised by `exec` for a row of the table that has no meaning yet; safe. No row is left so. -/
  | notModelled (mnemonic : String)
  deriving DecidableEq, Repr

/-- What a command answers. -/
abbrev Result := Host.Outcome State Fault Refusal

/-! ### Values at reset -/

/-- A slot of the default denomination table (R2). -/
def Denom.default : Denom :=
  { value := 1, kind := .coin, enabled := false, accept := false, recycle := false, lowWater := 0 }

/-- The default settings of a unit (R4). -/
def UnitSettings.default (u : UnitId) : UnitSettings :=
  match unitKind u with
  | .coin => { slot := none, capacity := 100, highWater := 80, sweepTarget := 60, mask := .both }
  | .note => { slot := none, capacity := 60, highWater := 48, sweepTarget := 36, mask := .both }

/-- A unit record with given settings and nothing committed (R12). -/
def UnitSettings.toUnit (x : UnitSettings) (count : Nat) (state : UnitState) : UnitRec :=
  { slot := x.slot, count := count, committed := 0, capacity := x.capacity, highWater := x.highWater,
    sweepTarget := x.sweepTarget, mask := x.mask, state := state }

/-- The default limits (R54, R72, R104). -/
def Limits.default : Limits := { payout := 10000, piece := 30, effort := 256, hold := 30, cup := 25, outlet := 10 }

/-- The default capacity of a cashbox (R13). -/
def defaultBoxCapacity : Kind → Nat
  | .coin => 1500
  | .note => 600

/-- The default weight of a lane (R22, R102). -/
def defaultWeight : Nat := 4

/-- The default select: an idle counter (R179). -/
def Select.default : Select :=
  { event := .pieceIn, laneMask := 0, slotMask := 0xFFF#12, mode := .count, threshold := 0, invert := false }

/-- A lane after a restart: CLOSED, HOLD, with its weight (R22, R83, R160, R163). -/
def LaneRec.closed (weight : Nat) : LaneRec :=
  { opened := false, holding := true, binding := .none, stray := 0, cup := 0, outlet := 0, weight := weight,
    blockedSale := none, asked := 0 }

/-- An event set with nothing pending and a clear mask (R178). -/
def EventSet.clear : EventSet :=
  { restarted := none, escrowFault := none, withdrawn := [], expired := [], finished := [], granted := none,
    strayRise := none, wrapped := none, transferDone := none, mask := 0 }

/-- The event set at the end of a restart (R161, R178). -/
def EventSet.afterRestart (cause : RestartCause) (failed : BitVec 22) : EventSet :=
  { EventSet.clear with restarted := some (cause, failed) }

/-- A port unit with nothing in reception, outstanding or being sent (R166, R169, R170). -/
def PortUnit.clear : PortUnit :=
  { receiver := .hunt, lastByteAt := 0, outstanding := none, sending := none, sendEnds := 0, waiting := [] }

/-- An empty escrow stack without an owner (R39). -/
def Escrow.empty : Escrow := { entries := [], owner := .none, status := .idle, sensorEmpty := false }

/-- A count store that has never been written (R153). -/
def CountStore.blank : CountStore :=
  { denoms := .blank, settings := .blank, floors := .blank, limits := .blank, weights := .blank, selects := .blank,
    units := Twelve.replicate .blank, boxes := ⟨.blank, .blank⟩, escrows := ⟨.blank, .blank⟩ }

/-- The machine right after reset: the end of a power-on restore with a blank count store (R162, R163; log 1). -/
def State.reset : State :=
  { pending := []
    now := 0
    powered := true
    denoms := Twelve.replicate Denom.default
    units := Twelve.tabulate fun u => (UnitSettings.default u).toUnit 0 .absent
    boxes := ⟨⟨Twelve.replicate 0, defaultBoxCapacity .coin⟩, ⟨Twelve.replicate 0, defaultBoxCapacity .note⟩⟩
    limits := Limits.default
    floors := ⟨Twelve.replicate 0, Twelve.replicate 0⟩
    lanes := ⟨LaneRec.closed defaultWeight, LaneRec.closed defaultWeight⟩
    sales := ⟨[], []⟩
    escrows := ⟨Escrow.empty, Escrow.empty⟩
    planReqs := []
    reservations := []
    laneJobs := ⟨[], []⟩
    serviceJobs := []
    stackJobs := []
    nextJob := 0
    turns := ⟨⟨.a, defaultWeight⟩, ⟨.a, defaultWeight⟩⟩
    mechs := ⟨⟨.ready, false⟩, ⟨.ready, false⟩⟩
    retest := true
    tallies := ⟨Twelve.replicate 0, Twelve.replicate 0⟩
    transfers := Twelve.replicate none
    ports := ⟨PortUnit.clear, PortUnit.clear, PortUnit.clear⟩
    events := ⟨EventSet.afterRestart .powerOn 0, EventSet.afterRestart .powerOn 0, EventSet.afterRestart .powerOn 0⟩
    counters := Eight.tabulate fun _ => { select := Select.default, value := 0, edge := false }
    key := false
    pfw := false
    armed := false
    dirty := []
    writer := .idle
    scan := 0
    store := CountStore.blank
    lastCause := .powerOn
    lastFailed := 0
    coinPaths := ⟨none, none⟩ }

end Sys2Proof.Machine
end

