-- ==== Sys2Proof/Machine/Operands.lean ====
section
/-! DEFINITION. The operand forms: what a parameter's number names (R168), none where it is out of range, and
the fields of reply data with the codes of R168 (choices of width and code that R168 leaves open: log 12). -/

namespace Sys2Proof.Machine

/-! ### Parameters -/

/-- A number 0 to 11 as a slot or a unit. -/
def twelveOf (n : Nat) : Option (Fin 12) := if h : n < 12 then some ⟨n, h⟩ else none

/-- A slot number (R168). -/
def slotOf (n : Nat) : Option Slot := twelveOf n

/-- A unit number of T0 to T7 and D0 to D3 (R168). -/
def unitOf (n : Nat) : Option UnitId := twelveOf n

/-- The slot parameter of WRITE_UNIT: a slot, or none as FF (R138, R168). The outer none is out of range. -/
def slotOrNoneOf (n : Nat) : Option (Option Slot) :=
  if n = 255 then some none
  else
    match slotOf n with
    | some d => some (some d)
    | none => none

/-- A lane: A 0, B 1 (R168). -/
def laneOf : Nat → Option Lane
  | 0 => some .a
  | 1 => some .b
  | _ => none

/-- A cashbox, a mechanism or a kind: coin 0, note 1 (R168). -/
def kindOf : Nat → Option Kind
  | 0 => some .coin
  | 1 => some .note
  | _ => none

/-- A yes/no field: 0 or 1 (R168). -/
def flagOf : Nat → Option Bool
  | 0 => some false
  | 1 => some true
  | _ => none

/-- The lane mask of a unit, in the order of R4: A 0, B 1, both 2 (R168). -/
def laneMaskOf : Nat → Option LaneMask
  | 0 => some .onlyA
  | 1 => some .onlyB
  | 2 => some .both
  | _ => none

/-- The action of CLEAR_ESCROW, in the order of R45. -/
inductive EscrowAction where
  | giveBack
  | keep
  deriving DecidableEq, Repr

def escrowActionOf : Nat → Option EscrowAction
  | 0 => some .giveBack
  | 1 => some .keep
  | _ => none

/-- A place of READ_QUEUE, in the order of R111. -/
inductive Place where
  | lane (l : Lane)
  | service
  | stackDown
  deriving DecidableEq, Repr

def placeOf : Nat → Option Place
  | 0 => some (.lane .a)
  | 1 => some (.lane .b)
  | 2 => some .service
  | 3 => some .stackDown
  | _ => none

/-- A setting of SET_LIMITS (R141). -/
inductive Setting where
  | payoutLimit
  | pieceLimit
  | effortLimit
  | holdTime
  | cupLimit
  | outletLimit
  | weight (l : Lane)
  | cashboxCapacity (k : Kind)
  deriving DecidableEq, Repr

/-- The code of a setting: the order of the table of R141 (R168). -/
def settingOf : Nat → Option Setting
  | 0 => some .payoutLimit
  | 1 => some .pieceLimit
  | 2 => some .effortLimit
  | 3 => some .holdTime
  | 4 => some .cupLimit
  | 5 => some .outletLimit
  | 6 => some (.weight .a)
  | 7 => some (.weight .b)
  | 8 => some (.cashboxCapacity .coin)
  | 9 => some (.cashboxCapacity .note)
  | _ => none

/-- The range of a setting (R141). -/
def Setting.inRange : Setting → Nat → Bool
  | .payoutLimit, v => decide (v ≤ 65535)
  | .pieceLimit, v => decide (1 ≤ v ∧ v ≤ 60)
  | .effortLimit, v => decide (16 ≤ v ∧ v ≤ 1024)
  | .holdTime, v => decide (5 ≤ v ∧ v ≤ 250)
  | .cupLimit, v => decide (1 ≤ v ∧ v ≤ 60)
  | .outletLimit, v => decide (1 ≤ v ∧ v ≤ 20)
  | .weight _, v => decide (1 ≤ v ∧ v ≤ 15)
  | .cashboxCapacity .coin, v => decide (1 ≤ v ∧ v ≤ 3000)
  | .cashboxCapacity .note, v => decide (1 ≤ v ∧ v ≤ 1000)

/-- A counter number (R184). -/
def counterOf (n : Nat) : Option (Fin 8) := if h : n < 8 then some ⟨n, h⟩ else none

/-- An event select (R184). -/
def sampleKindOf : Nat → Option SampleKind
  | 0 => some .pieceIn
  | 1 => some .pieceToCashbox
  | 2 => some .pieceOut
  | 3 => some .planExact
  | 4 => some .planShort
  | 5 => some .planSteps
  | 6 => some .floorBlocked
  | 7 => some .reserveLost
  | 8 => some .jam
  | 9 => some .pause
  | 10 => some .turnWait
  | 11 => some .queueDepth
  | 12 => some .refused
  | _ => none

/-- A counter mode (R184). -/
def counterModeOf : Nat → Option CounterMode
  | 0 => some .count
  | 1 => some .occupancy
  | 2 => some .edge
  | _ => none

/-- A counter's lane mask: no bit beyond A, B and service (R183). -/
def counterLanesOf (n : Nat) : Option (BitVec 3) := if n < 8 then some (BitVec.ofNat 3 n) else none

/-- A counter's slot mask: no bit beyond slot 11 (R183). -/
def counterSlotsOf (n : Nat) : Option Mask12 := if n < 4096 then some (BitVec.ofNat 12 n) else none

/-! ### Codes of enumerations -/

def laneCode : Lane → Nat
  | .a => 0
  | .b => 1

def kindCode : Kind → Nat
  | .coin => 0
  | .note => 1

def flagCode (b : Bool) : Nat := if b then 1 else 0

def laneMaskCode : LaneMask → Nat
  | .onlyA => 0
  | .onlyB => 1
  | .both => 2

/-- ACTIVE 0 to ABSENT 5 (R168). -/
def unitStateCode : UnitState → Nat
  | .active => 0
  | .lockPending => 1
  | .locked => 2
  | .jammed => 3
  | .uncertain => 4
  | .absent => 5

/-- WAITING 0 to STOPPED 9 (R168). -/
def saleStateCode : SaleState → Nat
  | .waiting => 0
  | .tendering => 1
  | .tendered => 2
  | .planned => 3
  | .paying => 4
  | .refunding => 5
  | .settled => 6
  | .shortSettled => 7
  | .cancelled => 8
  | .stopped => 9

/-- Absent 0, EXACT 1, SHORT 2 (R168). -/
def outcomeCode : Option PlanOutcome → Nat
  | none => 0
  | some .exact => 1
  | some .short => 2

/-- The order of R39: the owner sale, STRAY, FLOAT_IN, NONE. -/
def creditCode : Credit → Nat
  | .sale => 0
  | .stray => 1
  | .floatIn => 2
  | .nothing => 3

/-- The order of R39: IDLE, RETURNING, FAULT. -/
def escrowStatusCode : EscrowStatus → Nat
  | .idle => 0
  | .returning _ => 1
  | .fault => 2

/-- The order of R112 and R89: CUP_A, CUP_B, OUTLET_A, OUTLET_B, COIN_CASHBOX, NOTE_CASHBOX, then a drum D0 to
D3 for an ejection, or routed per note for a job. -/
def destCode : Dest → Nat
  | .cup .a => 0
  | .cup .b => 1
  | .outlet .a => 2
  | .outlet .b => 3
  | .cashbox .coin => 4
  | .cashbox .note => 5
  | .drum d => 6 + d.val
  | .routed => 6

/-- A unit number, or 12 and 13 for the escrows of lanes A and B (R168). -/
def sourceCode : Source → Nat
  | .unit u => u.val
  | .escrow .a => 12
  | .escrow .b => 13

/-- The order of R112, absent last. -/
def faultCauseCode : Option FaultCause → Nat
  | some .faultSense => 0
  | some .stackTimeout => 1
  | some .stackDouble => 2
  | none => 3

/-- The order of R112: READY, EJECTING, FAULT. -/
def phaseCode : Phase → Nat
  | .ready => 0
  | .ejecting _ => 1
  | .fault _ => 2

/-- The order of R149: SWEEP, EMPTY, absent. -/
def transferKindCode : Option TransferKind → Nat
  | some .sweep => 0
  | some .empty => 1
  | none => 2

/-- The order of R149: RUNNING, COMPLETE, JAM, RESTART. -/
def transferEndCode : TransferEnd → Nat
  | .running => 0
  | .complete => 1
  | .jam => 2
  | .restart => 3

/-- The order of R161: POWER_ON, RESET_LINE, PFW_RECOVERY, RESTART_COMMAND. -/
def restartCauseCode : RestartCause → Nat
  | .powerOn => 0
  | .resetLine => 1
  | .pfwRecovery => 2
  | .restartCommand => 3

/-- The value column of R171. -/
def replyCodeValue : ReplyCode → Nat
  | .ok => 0
  | .busy => 1
  | .state => 2
  | .full => 3
  | .duplicate => 4
  | .noSale => 5
  | .underpaid => 6
  | .short => 7
  | .noPlan => 8
  | .laneClosed => 9
  | .notPermitted => 10
  | .range => 11
  | .queueFull => 12
  | .unknown => 13

/-- The codes of R184. -/
def sampleKindCode : SampleKind → Nat
  | .pieceIn => 0
  | .pieceToCashbox => 1
  | .pieceOut => 2
  | .planExact => 3
  | .planShort => 4
  | .planSteps => 5
  | .floorBlocked => 6
  | .reserveLost => 7
  | .jam => 8
  | .pause => 9
  | .turnWait => 10
  | .queueDepth => 11
  | .refused => 12

/-- The codes of R184. -/
def counterModeCode : CounterMode → Nat
  | .count => 0
  | .occupancy => 1
  | .edge => 2

/-! ### Fields of reply data -/

/-- A one-byte field. -/
def byteField (n : Nat) : Field := ⟨1, n⟩

/-- A two-byte count; a count that two bytes cannot carry is a free value (log 14). -/
def countField (n : Nat) : Field := ⟨2, if n ≤ 65535 then n else (Config.overflowCount n).toNat⟩

/-- An amount; one above 999,999 is a free value of the range (log 14). -/
def amountField (n : Nat) : Field := ⟨3, if n ≤ Config.maxAmount then n else (Config.overflowAmount n).val⟩

/-- An amount or absent, FFFFFF (R168). -/
def optAmountField : Option Nat → Field
  | some n => amountField n
  | none => ⟨3, 0xFFFFFF⟩

/-- A tag, 0 for none (R168). -/
def tagField (n : Nat) : Field := ⟨2, n⟩

/-- A slot, FF for none (R168). -/
def slotField : Option Slot → Field
  | some d => ⟨1, d.val⟩
  | none => ⟨1, 0xFF⟩

/-- A slot mask or unit set (R168). -/
def maskField (m : Mask12) : Field := ⟨2, m.toNat⟩

/-- A yes/no field (R168). -/
def flagField (b : Bool) : Field := ⟨1, flagCode b⟩

/-- A set of record numbers in three bytes, bit n for record n (R173; log 12). -/
def recordSetField (m : BitVec 22) : Field := ⟨3, m.toNat⟩

/-- A four-byte value (R184). -/
def quadField (n : Nat) : Field := ⟨4, n⟩

/-- The time a dirty record has spent in the set (R165). No rule gives its encoding: that it counts whole milliseconds is
the model's choice (DESIGN CHOICE), and its width is free (log 13). -/
def timeField (n : Nat) : Field := ⟨Config.timeWidth, n⟩

/-- The hold time remaining, absent is 0 (R168). -/
def holdField : Option Nat → Field
  | some n => ⟨1, n⟩
  | none => ⟨1, 0⟩

/-- An intake binding: a kind byte and a tag (R168). -/
def bindingFields : Binding → List Field
  | .none => [byteField 0, tagField 0]
  | .sale t => [byteField 1, tagField t]
  | .floatIn => [byteField 3, tagField 0]

/-- An escrow owner: a kind byte and a tag (R168). -/
def ownerFields : EscrowOwner → List Field
  | .none => [byteField 0, tagField 0]
  | .sale t => [byteField 1, tagField t]
  | .stacking => [byteField 2, tagField 0]
  | .floatIn => [byteField 3, tagField 0]
  | .stray => [byteField 4, tagField 0]
  | .orphan => [byteField 5, tagField 0]

/-- A job origin: a kind byte, a lane byte and a tag (R168). -/
def originFields : Origin → List Field
  | .sale l t => [byteField 0, byteField (laneCode l), tagField t]
  | .stackDown => [byteField 1, byteField 0, tagField 0]
  | .sweep => [byteField 2, byteField 0, tagField 0]
  | .empty => [byteField 3, byteField 0, tagField 0]

/-- The mask that holds one slot. -/
def slotBit (d : Slot) : Mask12 := BitVec.ofNat 12 (2 ^ d.val)

/-- The mask of a list of slots. -/
def slotsMask (ds : List Slot) : Mask12 := ds.foldl (fun m d => m ||| slotBit d) 0

/-- The slots of a plan. -/
def planMask (p : Plan) : Mask12 := slotsMask (p.map Prod.fst)

/-- The count of a slot in a plan, 0 when the plan has no entry for it (R70). -/
def planCount (p : Plan) (d : Slot) : Nat :=
  match p.find? fun e => decide (e.1 = d) with
  | some e => e.2
  | none => 0

/-- Plan or reservation counts in their mask form; an absent plan is the mask FFFF alone (R168). -/
def countsFields : Option Plan → List Field
  | none => [⟨2, 0xFFFF⟩]
  | some p =>
    maskField (planMask p) :: (allSlots.filter fun d => (planMask p).getLsbD d.val).map fun d => byteField (planCount p d)

/-- A list: the number of its entries, then each entry (R168). -/
def listFields (entries : List (List Field)) : List Field := byteField entries.length :: entries.flatten

/-! ### Frames on the wire (R167) -/

/-- The bytes of reply data. -/
def dataBytes (data : List Field) : List Byte := (data.map fun f => bigEndian f.width f.value).flatten

/-- The whole reply frame on the wire (R167). -/
def Frame.wire (f : Frame) : List Byte :=
  frameAround replySync (f.command :: BitVec.ofNat 8 (replyCodeValue f.code) :: dataBytes f.data)

/-- The number of bytes of reply data. -/
def dataWidth (data : List Field) : Nat := (data.map Field.width).sum

/-- How long a frame takes to send, in ms rounded up: 10 bit times a byte (R169), six bytes around the data. -/
def Frame.sendTime (f : Frame) : Nat := ((6 + dataWidth f.data) * 10 * 1000 + (Config.baud - 1)) / Config.baud

end Sys2Proof.Machine
end

