-- ==== Sys2Proof/Machine/Flags.lean ====
section
/-! DEFINITION. Everything that is read off the state and stored nowhere: free counts, the four sums of R6, FULL,
pauses, reserved sums, need flags, routes, accept lines, level events, attention lines. -/

namespace Sys2Proof.Machine

/-! ### Stores -/

/-- The total of a cashbox: the sum of its counts, or 65,535 where that is larger (R13). -/
def Cashbox.total (b : Cashbox) : Nat := min Config.maxBoxCount b.counts.toList.sum

/-- FULL: the total is at or above the capacity (R14). -/
def State.boxFull (s : State) (k : Kind) : Bool := decide ((s.boxes.get k).capacity ≤ (s.boxes.get k).total)

/-- A unit's free count (R6). -/
def UnitRec.free (r : UnitRec) : Nat := r.count - r.committed

/-- The lane is in the mask (R4). -/
def LaneMask.has : LaneMask → Lane → Bool
  | .onlyA, .a => true
  | .onlyA, .b => false
  | .onlyB, .a => false
  | .onlyB, .b => true
  | .both, _ => true

/-- The mechanism is in FAULT (R112). -/
def Phase.isFault : Phase → Bool
  | .fault _ => true
  | .ready => false
  | .ejecting _ => false

/-- The mechanism of a kind is in FAULT. -/
def State.mechFault (s : State) (k : Kind) : Bool := (s.mechs.get k).phase.isFault

/-- The unit is assigned to the slot. -/
def State.unitOfSlot (s : State) (d : Slot) (u : UnitId) : Bool := decide ((s.units.get u).slot = some d)

/-- The unit is ACTIVE. -/
def State.unitActive (s : State) (u : UnitId) : Bool := decide ((s.units.get u).state = .active)

/-- The unit serves the lane: ACTIVE, the lane in its mask, its mechanism not in FAULT (R6). -/
def State.serves (s : State) (u : UnitId) (l : Lane) : Bool :=
  s.unitActive u && (s.units.get u).mask.has l && !s.mechFault (unitKind u)

/-- The sum of a quantity over the units that a test picks. -/
def State.sumUnits (s : State) (p : UnitId → Bool) (q : UnitRec → Nat) : Nat :=
  ((allUnits.filter p).map fun u => q (s.units.get u)).sum

/-- served(d, L) (R6). -/
def State.served (s : State) (d : Slot) (l : Lane) : Nat :=
  s.sumUnits (fun u => s.unitOfSlot d u && s.serves u l) UnitRec.free

/-- F(d) (R6). -/
def State.freeActive (s : State) (d : Slot) : Nat :=
  s.sumUnits (fun u => s.unitOfSlot d u && s.unitActive u) UnitRec.free

/-- backing(d) (R6). -/
def State.backing (s : State) (d : Slot) : Nat :=
  s.sumUnits (fun u => s.unitOfSlot d u && s.unitActive u && !s.mechFault (unitKind u)) UnitRec.free

/-- stock(d) (R6, R20). -/
def State.stock (s : State) (d : Slot) : Nat :=
  s.sumUnits (fun u => s.unitOfSlot d u && s.unitActive u) UnitRec.count

/-- The unit's slot is of the unit's kind in the denomination table (R4, R137). -/
def State.slotFitsUnit (s : State) (u : UnitId) : Bool :=
  match (s.units.get u).slot with
  | some d => decide ((s.denoms.get d).kind = unitKind u)
  | none => false

/-- The value of one piece of a slot (R1). -/
def State.slotValue (s : State) (d : Slot) : Nat := (s.denoms.get d).value

/-- The value of one piece of a unit's slot; a unit without a slot holds no pieces. -/
def State.unitValue (s : State) (u : UnitId) : Nat :=
  match (s.units.get u).slot with
  | some d => s.slotValue d
  | none => 0

/-- The slot set of a sample about a unit. -/
def State.unitSlotMask (s : State) (u : UnitId) : Mask12 :=
  match (s.units.get u).slot with
  | some d => slotBit d
  | none => 0

/-! ### Routing (R16, R18) -/

/-- Among the ACTIVE units of the kind and slot whose count is below a limit, the one with the lowest count, the
lower-numbered on equal counts. -/
def State.emptiest (s : State) (k : Kind) (d : Slot) (limit : UnitRec → Nat) : Option UnitId :=
  allUnits.foldl (fun best u =>
    if decide (unitKind u = k) && s.unitOfSlot d u && s.unitActive u &&
        decide ((s.units.get u).count < limit (s.units.get u)) then
      match best with
      | none => some u
      | some b => if (s.units.get u).count < (s.units.get b).count then some u else some b
    else best) none

/-- The route of a piece of a slot: the first step of R16 (coins) or R18 (notes) that yields a store. `floatIn`
is the FLOAT_IN form, whose step 1 compares with capacity. -/
def State.route (s : State) (k : Kind) (d : Slot) (floatIn : Bool) : Option Store :=
  let den := s.denoms.get d
  let box := if s.boxFull k then none else some Store.cashbox
  if den.enabled && decide (den.kind = k) && den.recycle then
    match s.emptiest k d (if floatIn then UnitRec.capacity else UnitRec.highWater) with
    | some u => some (.unit u)
    | none =>
      match box with
      | some b => some b
      | none => (s.emptiest k d UnitRec.capacity).map Store.unit
  else box

/-- The slot is enabled and of the kind (R17, R40). -/
def State.taken (s : State) (k : Kind) (d : Slot) : Bool :=
  (s.denoms.get d).enabled && decide ((s.denoms.get d).kind = k)

/-! ### Sales -/

/-- The sale with a tag in a lane's order list (R28). -/
def State.findSale (s : State) (l : Lane) (tag : Nat) : Option Sale :=
  (s.sales.get l).find? fun x => decide (x.tag = tag)

/-- The tendered amount (R26). -/
def Sale.tendered (x : Sale) : Nat := x.coinValue + x.noteValue

/-- The tender ceiling (R34). -/
def State.ceiling (s : State) (x : Sale) : Nat := min Config.maxAmount (x.due + s.limits.payout)

/-- A sale that has ended (R30). -/
def SaleState.finished : SaleState → Bool
  | .settled | .shortSettled | .cancelled | .stopped => true
  | _ => false

/-- The need flag: set exactly while the floor-blocked sale is not none (R83). -/
def LaneRec.need (r : LaneRec) : Bool := r.blockedSale.isSome

/-! ### Reservations (R70) -/

/-- The sum of the counts of a slot over entries. -/
def reservedIn (rs : List Reservation) (d : Slot) : Nat := (rs.map fun r => planCount r.counts d).sum

/-- reserved total(d). -/
def State.reservedTotal (s : State) (d : Slot) : Nat := reservedIn s.reservations d

/-- reserved_L(d). -/
def State.reservedLane (s : State) (l : Lane) (d : Slot) : Nat :=
  reservedIn (s.reservations.filter fun r => decide (r.lane = l)) d

/-- The reservation of a sale. -/
def State.reservationOf (s : State) (l : Lane) (tag : Nat) : Option Reservation :=
  s.reservations.find? fun r => decide (r.lane = l) && decide (r.tag = tag)

/-- The time left on a hold timer, in whole seconds rounded up, at least 1 (R73). -/
def secondsLeft (now ends : Nat) : Nat := max 1 ((ends - now + 999) / 1000)

/-- The hold time remaining of a sale (R73). -/
def State.holdRemaining (s : State) (l : Lane) (tag : Nat) : Option Nat :=
  (s.reservationOf l tag).map fun r => secondsLeft s.now r.ends

/-! ### Jobs -/

/-- The class of a job (R89). -/
def Origin.cls : Origin → Nat
  | .sale _ _ => 1
  | .stackDown => 0
  | .sweep => 2
  | .empty => 2

/-- The kind of a job: the kind of its source (R89). -/
def Source.kind : Source → Kind
  | .unit u => unitKind u
  | .escrow _ => .note

/-- The undone pieces of a job (R89). -/
def Job.undone (j : Job) : Nat := j.ordered - j.done

/-- The job is on the unit. -/
def Job.onUnit (j : Job) (u : UnitId) : Bool := decide (j.source = .unit u)

/-- A job of a live sale; the in-flight job of a STOPPED sale is no longer among its sale's jobs (R108; log 20). -/
def Job.ofSale (j : Job) (l : Lane) (tag : Nat) : Bool := decide (j.origin = .sale l tag) && !j.stopped

/-- The sale has a class 1 job queued or in flight (R109). -/
def State.hasJobs (s : State) (l : Lane) (tag : Nat) : Bool := (s.laneJobs.get l).any fun j => j.ofSale l tag

/-- The sale has a request in the plan request list (R109). -/
def State.hasRequest (s : State) (l : Lane) (tag : Nat) : Bool :=
  s.planReqs.any fun r => decide (r.lane = l) && decide (r.tag = tag)

/-- The escrow's class 0 job. -/
def State.stackJobOf (s : State) (l : Lane) : Option Job := s.stackJobs.find? fun j => decide (j.source = .escrow l)

/-- All jobs of the four places. -/
def State.allJobs (s : State) : List Job := s.laneJobs.a ++ s.laneJobs.b ++ s.serviceJobs ++ s.stackJobs

/-- The job with a serial number. -/
def State.findJob (s : State) (serial : Nat) : Option Job := s.allJobs.find? fun j => decide (j.serial = serial)

/-- The drum is the destination of a stack-down in flight (R138, R142). -/
def State.stackDownInto (s : State) (u : UnitId) : Bool :=
  match (s.mechs.get .note).phase with
  | .ejecting e =>
    match e.source, e.dest with
    | .escrow _, .drum d => decide (d.unit = u)
    | _, _ => false
  | .ready => false
  | .fault _ => false

/-- The cup is paused (R105). -/
def State.cupPaused (s : State) (l : Lane) : Bool := decide ((s.lanes.get l).cup = s.limits.cup)

/-- The outlet is paused (R105). -/
def State.outletPaused (s : State) (l : Lane) : Bool := decide ((s.lanes.get l).outlet = s.limits.outlet)

/-- The destination holds back grants (R98, R105). -/
def State.destPaused (s : State) : Dest → Bool
  | .cup l => s.cupPaused l
  | .outlet l => s.outletPaused l
  | .cashbox _ => false
  | .drum _ => false
  | .routed => false

/-! ### Accept lines (R19) -/

/-- The binding term and the ceiling term of R19. -/
def State.headOpen (s : State) (l : Lane) : Bool :=
  match (s.lanes.get l).binding with
  | .none => false
  | .floatIn => true
  | .sale tag =>
    match s.findSale l tag with
    | some x => decide (x.tendered < s.ceiling x)
    | none => false

/-- The accept line of a slot at a head (R19). -/
def State.acceptLine (s : State) (l : Lane) (d : Slot) : Bool :=
  let den := s.denoms.get d
  s.powered && s.headOpen l && den.enabled && den.accept &&
    (decide (den.kind = .coin) || decide ((s.escrows.get l).entries.length < Config.escrowRoom)) &&
    (s.route den.kind d (decide ((s.lanes.get l).binding = .floatIn))).isSome

/-- The return gate is open exactly during a return (R43). A note that the entrance does not take goes back through the
same gate (R17, R40); how the gate moves for it the spec does not say, and the model leaves the state and keeps the
gate closed: the model's choice (log 33). -/
def State.gateOpen (s : State) (l : Lane) : Bool :=
  match (s.escrows.get l).status with
  | .returning _ => s.powered
  | .idle => false
  | .fault => false

/-! ### The drives of the mechanisms (R114, R118, R120) -/

/-- What a mechanism is driven for: source and destination of the ejection in flight. None while the mechanism is not
EJECTING, where the spec gives the lines no position (log 24). -/
def State.drive (s : State) (k : Kind) : Option (Source × Dest) :=
  if s.powered then
    match (s.mechs.get k).phase with
    | .ejecting e => some (e.source, e.dest)
    | .ready => none
    | .fault _ => none
  else none

/-- The ejector drive. -/
def State.ejectorDrive (s : State) : Bool := (s.drive .coin).isSome

/-- The tube select. -/
def State.tubeSelect (s : State) : Option UnitId :=
  match s.drive .coin with
  | some (.unit u, _) => some u
  | some (.escrow _, _) => none
  | none => none

/-- The diverter position. -/
def State.diverter (s : State) : Option Dest := (s.drive .coin).map Prod.snd

/-- The transport drive. -/
def State.transportDrive (s : State) : Bool := (s.drive .note).isSome

/-- The source select of the transport. -/
def State.transportSource (s : State) : Option Source := (s.drive .note).map Prod.fst

/-- The destination select of the transport. -/
def State.transportDest (s : State) : Option Dest := (s.drive .note).map Prod.snd

/-! ### Level events (R175) -/

/-- LOW_STOCK holds for the slot (R20). -/
def State.lowStock (s : State) (d : Slot) : Bool :=
  (s.denoms.get d).enabled && decide (0 < (s.denoms.get d).lowWater) && decide (s.stock d < (s.denoms.get d).lowWater)

/-- The slots for which LOW_STOCK holds (R20). -/
def State.lowStockMask (s : State) : Mask12 := slotsMask (allSlots.filter fun d => s.lowStock d)

/-- The units in a state, as a set (R8). -/
def State.unitsIn (s : State) (st : UnitState) : Mask12 :=
  slotsMask (allUnits.filter fun u => decide ((s.units.get u).state = st))

/-- FLOOR_ASKED is pending at a lane's port (R85). -/
def State.floorAsked (s : State) (o : Lane) : Bool :=
  (s.lanes.get o.other).need && (s.lanes.get o).opened && (s.lanes.get o).holding

/-- The event kinds (R173). -/
inductive EventKind where
  | restarted
  | mechFault
  | unitJammed
  | escrowFault
  | planWithdrawn
  | planExpired
  | saleFinished
  | floorAsked
  | floorGranted
  | cupFull
  | outletFull
  | strayCredit
  | lowStock
  | cashboxFull
  | unitUncertain
  | counterWrap
  | transferDone
  deriving DecidableEq, Repr

/-- The code column of R173. -/
def EventKind.code : EventKind → Nat
  | .restarted => 1
  | .mechFault => 2
  | .unitJammed => 3
  | .escrowFault => 4
  | .planWithdrawn => 5
  | .planExpired => 6
  | .saleFinished => 7
  | .floorAsked => 8
  | .floorGranted => 9
  | .cupFull => 10
  | .outletFull => 11
  | .strayCredit => 12
  | .lowStock => 13
  | .cashboxFull => 14
  | .unitUncertain => 15
  | .counterWrap => 16
  | .transferDone => 17

/-- The kinds in ascending code (R173). -/
def allEventKinds : List EventKind :=
  [.restarted, .mechFault, .unitJammed, .escrowFault, .planWithdrawn, .planExpired, .saleFinished, .floorAsked,
   .floorGranted, .cupFull, .outletFull, .strayCredit, .lowStock, .cashboxFull, .unitUncertain, .counterWrap,
   .transferDone]

/-- Whether a kind is raised at a port: the ports column of R173. -/
def EventKind.raisedAt : EventKind → Port → Bool
  | .restarted, _ => true
  | .mechFault, _ => true
  | .unitJammed, _ => true
  | .escrowFault, _ => true
  | .planWithdrawn, p => p.lane.isSome
  | .planExpired, p => p.lane.isSome
  | .saleFinished, p => p.lane.isSome
  | .floorAsked, p => p.lane.isSome
  | .floorGranted, p => p.lane.isSome
  | .cupFull, p => p.lane.isSome
  | .outletFull, p => p.lane.isSome
  | .strayCredit, p => p.lane.isSome
  | .lowStock, _ => true
  | .cashboxFull, p => p.lane.isNone
  | .unitUncertain, p => p.lane.isNone
  | .counterWrap, p => p.lane.isNone
  | .transferDone, p => p.lane.isNone

/-- A lane port's condition on its own lane; the service port has none. -/
def atLane (p : Port) (f : Lane → Bool) : Bool :=
  match p.lane with
  | some l => f l
  | none => false

/-- The kind is pending at the port (R174, R175). -/
def State.pendingAt (s : State) (p : Port) (k : EventKind) : Bool :=
  let e := s.events.get p
  k.raisedAt p &&
    match k with
    | .restarted => e.restarted.isSome
    | .mechFault => s.mechFault .coin || s.mechFault .note
    | .unitJammed => decide (s.unitsIn .jammed ≠ 0)
    | .escrowFault => e.escrowFault.isSome
    | .planWithdrawn => !e.withdrawn.isEmpty
    | .planExpired => !e.expired.isEmpty
    | .saleFinished => !e.finished.isEmpty
    | .floorAsked => atLane p s.floorAsked
    | .floorGranted => e.granted.isSome
    | .cupFull => atLane p s.cupPaused
    | .outletFull => atLane p s.outletPaused
    | .strayCredit => e.strayRise.isSome
    | .lowStock => decide (s.lowStockMask ≠ 0)
    | .cashboxFull => s.boxFull .coin || s.boxFull .note
    | .unitUncertain => decide (s.unitsIn .uncertain ≠ 0)
    | .counterWrap => e.wrapped.isSome
    | .transferDone => e.transferDone.isSome

/-- The kind is masked at the port: bit k - 2 for kind k; RESTARTED has no bit (R177). -/
def EventSet.masked (e : EventSet) (k : EventKind) : Bool :=
  match k with
  | .restarted => false
  | k => e.mask.getLsbD (k.code - 2)

/-- The attention line of a port (R177). -/
def State.attention (s : State) (p : Port) : Bool :=
  s.powered && allEventKinds.any fun k => s.pendingAt p k && !(s.events.get p).masked k

/-! ### The count store -/

/-- The flush is complete (R157). -/
def State.flushComplete (s : State) : Bool := decide (s.writer = .idle) && s.dirty.isEmpty

/-- The record is eligible for writing: 200 ms in the dirty set, or at once while PFW is active (R154). -/
def State.eligible (s : State) (r : RecordNo) : Bool :=
  s.dirty.any fun e => decide (e.1 = r) && (s.pfw || decide (e.2 + Config.dirtyDelay ≤ s.now))

end Sys2Proof.Machine
end

