-- ==== Sys2Proof/Machine/Ops.lean ====
section
/-! DEFINITION. The named operations over the state that the events share: updates of one record, the dirty set,
samples, events raised, replies, credits, jobs, escrow owners. Each is a total function on State. -/

namespace Sys2Proof.Machine

/-! ### Updates of one record -/

def State.modUnit (s : State) (u : UnitId) (f : UnitRec → UnitRec) : State := { s with units := s.units.modify u f }
def State.modBox (s : State) (k : Kind) (f : Cashbox → Cashbox) : State := { s with boxes := s.boxes.modify k f }
def State.modLane (s : State) (l : Lane) (f : LaneRec → LaneRec) : State := { s with lanes := s.lanes.modify l f }
def State.modSales (s : State) (l : Lane) (f : List Sale → List Sale) : State := { s with sales := s.sales.modify l f }
def State.modEscrow (s : State) (l : Lane) (f : Escrow → Escrow) : State := { s with escrows := s.escrows.modify l f }
def State.modLaneJobs (s : State) (l : Lane) (f : List Job → List Job) : State :=
  { s with laneJobs := s.laneJobs.modify l f }
def State.modMech (s : State) (k : Kind) (f : Mechanism → Mechanism) : State := { s with mechs := s.mechs.modify k f }
def State.modTransfer (s : State) (u : UnitId) (f : Option Transfer → Option Transfer) : State :=
  { s with transfers := s.transfers.modify u f }
def State.modTally (s : State) (l : Lane) (f : Twelve Nat → Twelve Nat) : State :=
  { s with tallies := s.tallies.modify l f }
def State.modPort (s : State) (p : Port) (f : PortUnit → PortUnit) : State := { s with ports := s.ports.modify p f }
def State.modEvents (s : State) (p : Port) (f : EventSet → EventSet) : State := { s with events := s.events.modify p f }
def State.setTurn (s : State) (k : Kind) (t : Turn) : State := { s with turns := s.turns.set k t }

/-- A change to the sale with a tag in a lane's order list. -/
def State.modSale (s : State) (l : Lane) (tag : Nat) (f : Sale → Sale) : State :=
  s.modSales l fun xs => xs.map fun x => if x.tag = tag then f x else x

/-- The clock moves on to a time that has been reached, and never back (log 3). -/
def State.advanceTo (s : State) (t : Nat) : State := { s with now := max s.now t }

/-! ### The dirty set (R154) -/

def recDenoms : RecordNo := 0
def recSettings : RecordNo := 1
def recFloors : RecordNo := 2
def recLimits : RecordNo := 3
def recWeights : RecordNo := 4
def recSelects : RecordNo := 5

/-- Records 6 to 17 (R152). -/
def recUnit (u : UnitId) : RecordNo := ⟨6 + u.val, by omega⟩

/-- Records 18 and 19 (R152). -/
def recBox : Kind → RecordNo
  | .coin => 18
  | .note => 19

/-- Records 20 and 21 (R152). -/
def recEscrow : Lane → RecordNo
  | .a => 20
  | .b => 21

/-- A record joins the dirty set; one already there keeps its joining time (R154). -/
def insertDirty (r : RecordNo) (t : Nat) : List (RecordNo × Nat) → List (RecordNo × Nat)
  | [] => [(r, t)]
  | e :: es =>
    if r.val < e.1.val then (r, t) :: e :: es
    else if r.val = e.1.val then e :: es
    else e :: insertDirty r t es

def State.markDirty (s : State) (r : RecordNo) : State := { s with dirty := insertDirty r s.now s.dirty }

/-- Mark a record dirty where its source has changed. -/
def State.markIf (s : State) (changed : Bool) (r : RecordNo) : State := if changed then s.markDirty r else s

/-! ### Events raised (R173, R174) -/

/-- Append to a per-tag list of at most four, dropping the oldest (R174). -/
def pushLast {α : Type} (xs : List α) (x : α) : List α := (xs ++ [x]).drop ((xs ++ [x]).length - Config.eventListRoom)

def State.raiseWithdrawn (s : State) (l : Lane) (tag : Nat) : State :=
  s.modEvents l.port fun e => { e with withdrawn := pushLast e.withdrawn tag }

def State.raiseExpired (s : State) (l : Lane) (tag : Nat) : State :=
  s.modEvents l.port fun e => { e with expired := pushLast e.expired tag }

def State.raiseFinished (s : State) (l : Lane) (tag : Nat) (st : SaleState) : State :=
  s.modEvents l.port fun e => { e with finished := pushLast e.finished (tag, st) }

/-- ESCROW_FAULT at the lane's own port and at the service port (R44). -/
def State.raiseEscrowFault (s : State) (l : Lane) (tag : Nat) : State :=
  (s.modEvents l.port fun e => { e with escrowFault := some (l, tag) }).modEvents .sp fun e =>
    { e with escrowFault := some (l, tag) }

def State.raiseGranted (s : State) (l : Lane) (tag : Nat) : State :=
  s.modEvents l.port fun e => { e with granted := some tag }

def State.raiseStray (s : State) (l : Lane) (amount : Nat) : State :=
  s.modEvents l.port fun e => { e with strayRise := some amount }

def State.raiseWrapped (s : State) (n : Fin 8) : State := s.modEvents .sp fun e => { e with wrapped := some n }

def State.raiseTransferDone (s : State) (u : UnitId) (k : TransferKind) (moved : Nat) : State :=
  s.modEvents .sp fun e => { e with transferDone := some (u, k, moved) }

/-! ### Samples (10_audit_counters.md) -/

/-- The lane of a sample: a lane or service (R180). -/
inductive SampleLane where
  | lane (l : Lane)
  | service
  deriving DecidableEq, Repr

/-- The bit of a sample's lane in a counter's lane mask (R184). -/
def SampleLane.bit : SampleLane → Nat
  | .lane .a => 0
  | .lane .b => 1
  | .service => 2

/-- The lane of a port's samples (R170). -/
def sampleLaneOf (p : Port) : SampleLane :=
  match p.lane with
  | some l => .lane l
  | none => .service

/-- A sample; `slots` is none for a sample with no slot (R180). -/
structure Sample where
  kind : SampleKind
  lane : SampleLane
  slots : Option Mask12
  value : Nat
  deriving DecidableEq, Repr

/-- The slot test (R181). -/
def slotTest (mask : Mask12) : Option Mask12 → Bool
  | none => true
  | some m => if m = 0 then decide (mask = 0) else decide (m &&& mask ≠ 0)

/-- The counter takes the sample (R181). -/
def Counter.takes (c : Counter) (x : Sample) : Bool :=
  decide (x.kind = c.select.event) && c.select.laneMask.getLsbD x.lane.bit && slotTest c.select.slotMask x.slots

/-- The comparison of a sample (R182). -/
def Counter.compare (c : Counter) (x : Sample) : Bool :=
  if c.select.invert then decide (x.value < c.select.threshold) else decide (c.select.threshold ≤ x.value)

/-- How much a taken sample adds (R182). -/
def Counter.rise (c : Counter) (x : Sample) : Nat :=
  match c.select.mode with
  | .count => x.value
  | .occupancy => if c.compare x then 1 else 0
  | .edge => if c.compare x && !c.edge then 1 else 0

/-- A taken sample wraps the counter (R182). -/
def Counter.wraps (c : Counter) (x : Sample) : Bool := decide (Config.counterModulus ≤ c.value + c.rise x)

/-- The counter after a sample (R181, R182). -/
def Counter.after (c : Counter) (x : Sample) : Counter :=
  if c.takes x then { c with value := (c.value + c.rise x) % Config.counterModulus, edge := c.compare x } else c

/-- A sample is handed to the audit counters (R180). Where it wraps several, the highest number is the later
(log 23). -/
def State.sample (s : State) (x : Sample) : State :=
  let wrapped := (allCounters.filter fun n => (s.counters.get n).takes x && (s.counters.get n).wraps x).getLast?
  let s := { s with counters := Eight.tabulate fun n => (s.counters.get n).after x }
  match wrapped with
  | some n => s.raiseWrapped n
  | none => s

/-! ### Replies (R169, R170, R171) -/

/-- The transmitter takes a frame: it is sent at once, or waits (R169). -/
def State.pushFrame (s : State) (p : Port) (f : Frame) : State :=
  s.modPort p fun u =>
    match u.sending with
    | none => { u with sending := some f, sendEnds := s.now + f.sendTime }
    | some _ => { u with waiting := u.waiting ++ [f] }

/-- A reply frame with a code other than OK is seen as REFUSED (R170, R180). -/
def State.sampleRefused (s : State) (p : Port) : State :=
  s.sample { kind := .refused, lane := (sampleLaneOf p), slots := none, value := 1 }

/-- The OK reply to the outstanding request. -/
def State.answer (s : State) (p : Port) (c : Command) (data : List Field) : State :=
  s.pushFrame p { command := c.byte, code := .ok, data := data, answers := true }

/-- The reply to the outstanding request with a code other than OK; it carries no data (R167). -/
def State.refuseByte (s : State) (p : Port) (b : Byte) (code : ReplyCode) : State :=
  (s.pushFrame p { command := b, code := code, data := [], answers := true }).sampleRefused p

def State.refuse (s : State) (p : Port) (c : Command) (code : ReplyCode) : State := s.refuseByte p c.byte code

/-- How many BUSY frames of R170 step 1 wait (R169). -/
def PortUnit.busyWaiting (u : PortUnit) : Nat := (u.waiting.filter fun f => !f.answers).length

/-- R170 step 1: a BUSY reply, or the request is dropped where two BUSY frames wait (R169). -/
def State.busyFrame (s : State) (p : Port) (b : Byte) : State :=
  if (s.ports.get p).busyWaiting < Config.busyRoom then
    (s.pushFrame p { command := b, code := .busy, data := [], answers := false }).sampleRefused p
  else s

/-- The request becomes outstanding (R170). -/
def State.setOutstanding (s : State) (p : Port) (b : Byte) : State :=
  s.modPort p fun u => { u with outstanding := some b }

/-- The port has an outstanding request (R170). -/
def State.isOutstanding (s : State) (p : Port) : Bool := (s.ports.get p).outstanding.isSome

/-- R170 for a request whose frame has been received: BUSY, or UNKNOWN, or the owning block takes it. Without
supply nothing is received (R166). -/
def State.request (s : State) (p : Port) (c : Command) (body : State → State) : State :=
  if s.powered then
    if s.isOutstanding p then s.busyFrame p c.byte
    else if c.permitted p then body (s.setOutstanding p c.byte)
    else (s.setOutstanding p c.byte).refuse p c .unknown
  else s

/-- The first check of a keyed service command (R134). -/
def State.keyed (s : State) (p : Port) (c : Command) (body : State → State) : State :=
  if s.key then body s else s.refuse p c .notPermitted

/-- A lane command acts on the port's own lane (R172). -/
def State.laneRequest (s : State) (p : Port) (c : Command) (body : Lane → State → State) : State :=
  s.request p c fun s =>
    match p.lane with
    | some l => body l s
    | none => s.refuse p c .unknown

/-- A sale command at a lane port looks its tag up in the lane's order list (R28). -/
def State.saleRequest (s : State) (p : Port) (c : Command) (tag : Nat) (body : Lane → Sale → State → State) : State :=
  s.laneRequest p c fun l s =>
    match s.findSale l tag with
    | some x => body l x s
    | none => s.refuse p c .noSale

/-! ### Sales -/

/-- The change while the tender is open: present from the due on (R26, R35). -/
def Sale.withChange (x : Sale) : Sale :=
  { x with change := if x.due ≤ x.tendered then some (x.tendered - x.due) else none }

/-- The stray credit rises, saturating at 999,999; a rise raises STRAY_CREDIT (R38). -/
def State.addStray (s : State) (l : Lane) (v : Nat) : State :=
  let old := (s.lanes.get l).stray
  let new := min Config.maxAmount (old + v)
  if old < new then (s.modLane l fun r => { r with stray := new }).raiseStray l new else s

/-- A piece is credited to the sale of an open tender, saturating at 999,999 (R35). A binding that names no sale
(no run reaches one) makes the piece a stray piece (log 28). -/
def State.creditSale (s : State) (l : Lane) (tag : Nat) (k : Kind) (v : Nat) : State :=
  match s.findSale l tag with
  | none => s.addStray l v
  | some x =>
    let add := min v (Config.maxAmount - x.tendered)
    let s := s.modSale l tag fun x =>
      (match k with
        | .coin => { x with coinValue := x.coinValue + add }
        | .note => { x with noteValue := x.noteValue + add }).withChange
    if add < v then s.addStray l (v - add) else s

/-- A sale moves into a final state, and SALE_FINISHED is raised (R31). -/
def State.finishSale (s : State) (l : Lane) (tag : Nat) (st : SaleState) : State :=
  (s.modSale l tag fun x => { x with state := st }).raiseFinished l tag st

/-- The test of R109 for a PAYING sale and of R47 and R110 for a REFUNDING sale, in the events that can end it. -/
def State.settleTest (s : State) (l : Lane) (tag : Nat) : State :=
  match s.findSale l tag with
  | none => s
  | some x =>
    if s.hasJobs l tag || s.hasRequest l tag then s
    else
      match x.state with
      | .paying => s.finishSale l tag (if x.shortfall = 0 then .settled else .shortSettled)
      | .refunding => if (s.escrows.get l).owner = .sale tag then s else s.finishSale l tag .cancelled
      | _ => s

/-- The lane's need ends when its floor-blocked sale is the one named (R84). -/
def State.clearNeedOf (s : State) (l : Lane) (tag : Nat) : State :=
  if (s.lanes.get l).blockedSale = some tag then s.modLane l fun r => { r with blockedSale := none, asked := 0 } else s

/-- An amount that passes 999,999 with no rule to say what becomes of it is a free value of the range (log 15). -/
def boundAmount (v : Nat) : Nat := if v ≤ Config.maxAmount then v else (Config.overflowAmount v).val

/-- A saturating sum of amounts (R67, R116, R126). -/
def satAdd (a b : Nat) : Nat := min Config.maxAmount (a + b)

/-! ### The plan request list (R48 to R52) -/

/-- The order of the kinds in the list (R50). -/
def RequestKind.rank : RequestKind → Nat
  | .replan => 0
  | .refund => 1
  | .quote => 2

/-- A request goes to the tail of its own kind's group (R50). -/
def insertReq (r : PlanReq) : List PlanReq → List PlanReq
  | [] => [r]
  | x :: xs => if r.kind.rank < x.kind.rank then r :: x :: xs else x :: insertReq r xs

/-- The entry is the sale's. -/
def PlanReq.isOf (r : PlanReq) (l : Lane) (tag : Nat) : Bool := decide (r.lane = l) && decide (r.tag = tag)

/-- A request is placed (R49), or merged into the sale's pending entry (R51). -/
def State.placeRequest (s : State) (l : Lane) (tag : Nat) (kind : RequestKind) (amount : Nat) : State :=
  match s.planReqs.find? fun r => r.isOf l tag with
  | none =>
    let r : PlanReq :=
      { lane := l, tag := tag, kind := kind, amount := boundAmount amount, shielded := decide (kind = .quote) }
    { s with planReqs := insertReq r s.planReqs }
  | some e =>
    let merged := { e with amount := boundAmount (e.amount + amount) }
    if kind = .replan ∧ e.kind = .refund then
      { s with planReqs := insertReq { merged with kind := .replan } (s.planReqs.filter fun r => !r.isOf l tag) }
    else { s with planReqs := s.planReqs.map fun r => if r.isOf l tag then merged else r }

/-- The sale's entry leaves the list unplanned (R52). -/
def State.dropRequest (s : State) (l : Lane) (tag : Nat) : State :=
  { s with planReqs := s.planReqs.filter fun r => !r.isOf l tag }

/-! ### The reservation list (R70, R71) -/

/-- The sale's entry leaves the reservation list. -/
def State.dropReservation (s : State) (l : Lane) (tag : Nat) : State :=
  { s with reservations := s.reservations.filter fun r => !(decide (r.lane = l) && decide (r.tag = tag)) }

/-- A sale whose plan has lapsed is TENDERED, its plan and outcome absent (R74, R77). -/
def State.lapse (s : State) (l : Lane) (tag : Nat) : State :=
  (s.dropReservation l tag).modSale l tag fun x => { x with state := .tendered, plan := none, outcome := none }

/-- RESERVE_LOST (R180). -/
def State.sampleLost (s : State) (r : Reservation) : State :=
  s.sample { kind := .reserveLost, lane := .lane r.lane, slots := some (planMask r.counts), value := 1 }

/-! ### Units -/

/-- A unit enters a state; its record joins the dirty set (R4, R154). -/
def State.setUnitState (s : State) (u : UnitId) (st : UnitState) : State :=
  (s.modUnit u fun r => { r with state := st }).markDirty (recUnit u)

/-- R10: a LOCK_PENDING unit whose committed number is 0 is LOCKED. -/
def State.lockIfDone (s : State) (u : UnitId) : State :=
  if (s.units.get u).state = .lockPending ∧ (s.units.get u).committed = 0 then s.setUnitState u .locked else s

/-- Pieces that are no longer promised leave the committed number (R91). -/
def State.release (s : State) (u : UnitId) (n : Nat) : State :=
  (s.modUnit u fun r => { r with committed := r.committed - n }).lockIfDone u

/-- A piece enters a unit (R16, R128). -/
def State.countIn (s : State) (u : UnitId) : State :=
  (s.modUnit u fun r => { r with count := r.count + 1 }).markDirty (recUnit u)

/-- A piece of a job leaves its unit: count and committed fall together (R115). -/
def State.countOut (s : State) (u : UnitId) : State :=
  (s.modUnit u fun r => { r with count := r.count - 1, committed := r.committed - 1 }).markDirty (recUnit u)

/-- A piece enters a cashbox under its slot; a count at 65,535 stays (R13; log 32). -/
def State.boxIn (s : State) (k : Kind) (d : Slot) : State :=
  if ((s.boxes.get k).counts.get d) < Config.maxBoxCount then
    (s.modBox k fun b => { b with counts := b.counts.modify d (· + 1) }).markDirty (recBox k)
  else s

/-! ### Jobs -/

/-- A change to the job with a serial number, wherever it stands. -/
def State.modJob (s : State) (serial : Nat) (f : Job → Job) : State :=
  let g := fun (js : List Job) => js.map fun j => if j.serial = serial then f j else j
  { s with laneJobs := s.laneJobs.map g, serviceJobs := g s.serviceJobs, stackJobs := g s.stackJobs }

/-- The jobs that a test picks leave their places, and the jobs behind them close up (R90, R91). -/
def State.dropJobs (s : State) (p : Job → Bool) : State :=
  let g := fun (js : List Job) => js.filter fun j => !p j
  { s with laneJobs := s.laneJobs.map g, serviceJobs := g s.serviceJobs, stackJobs := g s.stackJobs }

/-- One job leaves its place. -/
def State.dropJob (s : State) (serial : Nat) : State := s.dropJobs fun j => decide (j.serial = serial)

/-- Several jobs leave one after the other, in the order of their creation: insertion by serial number. -/
def insertBySerial (j : Job) : List Job → List Job
  | [] => [j]
  | x :: xs => if j.serial < x.serial then j :: x :: xs else x :: insertBySerial j xs

def sortBySerial (js : List Job) : List Job := js.foldr insertBySerial []

/-- The transfer result of a unit starts (R149). -/
def State.startTransfer (s : State) (u : UnitId) (k : TransferKind) (requested : Nat) : State :=
  s.modTransfer u fun _ => some { kind := k, requested := requested, moved := 0, ended := .running }

/-- A piece of a transfer is detected at the cashbox (R149). R149 adds each piece, the extra one too, and gives the field
the range 0 to 400; that the extra piece of a transfer of 400 is added all the same, to 401, is the model's choice
(DESIGN CHOICE; log 38). -/
def State.transferMoved (s : State) (u : UnitId) : State :=
  s.modTransfer u fun t => t.map fun t => { t with moved := t.moved + 1 }

/-- A transfer ends COMPLETE or JAM, and TRANSFER_DONE is raised (R149). -/
def State.endTransfer (s : State) (u : UnitId) (e : TransferEnd) : State :=
  match s.transfers.get u with
  | none => s
  | some t => (s.modTransfer u fun _ => some { t with ended := e }).raiseTransferDone u t.kind t.moved

/-- A class 2 job is placed at the tail of the service job queue and commits its pieces (R147, R148). -/
def State.placeService (s : State) (u : UnitId) (k : TransferKind) (n : Nat) : State :=
  let j : Job :=
    { serial := s.nextJob
      origin := match k with
        | .sweep => .sweep
        | .empty => .empty
      source := .unit u, ordered := n, done := 0, dest := .cashbox (unitKind u), inFlight := false, stopped := false }
  ({ s with serviceJobs := s.serviceJobs ++ [j], nextJob := s.nextJob + 1 }.modUnit u fun r =>
    { r with committed := r.committed + n }).startTransfer u k n

/-- A class 0 job for a lane's escrow is queued in the stack-down positions (R41, R42), which hold at most one job for
an escrow (R90). -/
def State.placeStackDown (s : State) (l : Lane) : State :=
  let j : Job :=
    { serial := s.nextJob, origin := .stackDown, source := .escrow l, ordered := (s.escrows.get l).entries.length,
      done := 0, dest := .routed, inFlight := false, stopped := false }
  { s with
    stackJobs := (s.stackJobs.filter fun i => decide (i.source ≠ .escrow l)) ++ [j], nextJob := s.nextJob + 1 }

/-- A note pushed while the escrow's class 0 job exists raises its ordered count (R42). -/
def State.growStackDown (s : State) (l : Lane) : State :=
  { s with
    stackJobs := s.stackJobs.map fun j => if j.source = .escrow l then { j with ordered := j.ordered + 1 } else j }

/-! ### Escrow stacks (R39 to R43) -/

/-- The owner changes, and the escrow record joins the dirty set where it does (R39). -/
def State.setOwner (s : State) (l : Lane) (o : EscrowOwner) : State :=
  (s.modEscrow l fun e => { e with owner := o }).markIf (decide ((s.escrows.get l).owner ≠ o)) (recEscrow l)

def State.setEscrowStatus (s : State) (l : Lane) (st : EscrowStatus) : State :=
  s.modEscrow l fun e => { e with status := st }

/-- The value of the entries of a stack that a test picks, at the slots' present values. -/
def State.entriesValue (s : State) (l : Lane) (p : EscrowEntry → Bool) : Nat :=
  (((s.escrows.get l).entries.filter p).map fun e => s.slotValue e.slot).sum

/-- The return succeeds (R43). -/
def State.returnSucceeds (s : State) (l : Lane) : State :=
  let stray := s.entriesValue l fun e => decide (e.credit = .stray)
  let owner := (s.escrows.get l).owner
  let s := s.modLane l fun r => { r with stray := r.stray - stray }
  let s := s.modEscrow l fun e => { e with entries := [], owner := .none, status := .idle }
  let s := s.markDirty (recEscrow l)
  match owner with
  | .sale tag => s.settleTest l tag
  | _ => s

/-- The return begins: the gate opens; a sensor that already shows empty ends it at once (R43). -/
def State.beginReturn (s : State) (l : Lane) : State :=
  let s := s.setEscrowStatus l (.returning (s.now + Config.returnTimeout))
  if (s.escrows.get l).sensorEmpty then s.returnSucceeds l else s

/-- The return fails after its 3,000 ms (R43, R44). -/
def State.returnFails (s : State) (l : Lane) : State :=
  match (s.escrows.get l).owner with
  | .sale tag => (s.setEscrowStatus l .fault).raiseEscrowFault l tag
  | _ => (s.setEscrowStatus l .idle).raiseEscrowFault l 0

/-! ### The record writer (R152, R155) -/

/-- The settings of a unit. -/
def UnitRec.settings (r : UnitRec) : UnitSettings :=
  { slot := r.slot, capacity := r.capacity, highWater := r.highWater, sweepTarget := r.sweepTarget, mask := r.mask }

/-- The content of an escrow record: slots bottom to top, and the owner (R152). -/
def Escrow.image (e : Escrow) : EscrowImage := { slots := e.entries.map EscrowEntry.slot, owner := e.owner }

/-- The content of the limits record (R152). -/
def State.limitsImage (s : State) : LimitsImage :=
  { limits := s.limits, coinCapacity := s.boxes.coin.capacity, noteCapacity := s.boxes.note.capacity }

/-- The content of a record, from its source as it stands (R152, R155). -/
def State.image (s : State) (r : RecordNo) : Image :=
  if r.val = 0 then .denoms s.denoms
  else if r.val = 1 then .settings (s.units.map UnitRec.settings)
  else if r.val = 2 then .floors s.floors
  else if r.val = 3 then .limits s.limitsImage
  else if r.val = 4 then .weights (s.lanes.map LaneRec.weight)
  else if r.val = 5 then .selects (Eight.tabulate fun n => (s.counters.get n).select)
  else if h : 6 ≤ r.val ∧ r.val < 18 then
    let u : UnitId := ⟨r.val - 6, by omega⟩
    .unit u { count := (s.units.get u).count, state := (s.units.get u).state }
  else if r.val = 18 then .cashbox .coin s.boxes.coin.counts
  else if r.val = 19 then .cashbox .note s.boxes.note.counts
  else if r.val = 20 then .escrow .a s.escrows.a.image
  else .escrow .b s.escrows.b.image

/-- The record an image belongs to (R152). -/
def Image.record : Image → RecordNo
  | .denoms _ => recDenoms
  | .settings _ => recSettings
  | .floors _ => recFloors
  | .limits _ => recLimits
  | .weights _ => recWeights
  | .selects _ => recSelects
  | .unit u _ => recUnit u
  | .cashbox k _ => recBox k
  | .escrow l _ => recEscrow l

/-- A write is complete: the record holds its new content (R155). -/
def CountStore.put (c : CountStore) : Image → CountStore
  | .denoms t => { c with denoms := .whole t }
  | .settings t => { c with settings := .whole t }
  | .floors t => { c with floors := .whole t }
  | .limits l => { c with limits := .whole l }
  | .weights w => { c with weights := .whole w }
  | .selects t => { c with selects := .whole t }
  | .unit u i => { c with units := c.units.set u (.whole i) }
  | .cashbox k t => { c with boxes := c.boxes.set k (.whole t) }
  | .escrow l i => { c with escrows := c.escrows.set l (.whole i) }

/-- A write is cut off: the record's memory holds neither content whole (R156). -/
def CountStore.tear (c : CountStore) : Image → CountStore
  | .denoms _ => { c with denoms := .torn }
  | .settings _ => { c with settings := .torn }
  | .floors _ => { c with floors := .torn }
  | .limits _ => { c with limits := .torn }
  | .weights _ => { c with weights := .torn }
  | .selects _ => { c with selects := .torn }
  | .unit u _ => { c with units := c.units.set u .torn }
  | .cashbox k _ => { c with boxes := c.boxes.set k .torn }
  | .escrow l _ => { c with escrows := c.escrows.set l .torn }

/-- The records in ascending order. -/
def allRecords : List RecordNo :=
  [0, 1, 2, 3, 4, 5, 6, 7, 8, 9, 10, 11, 12, 13, 14, 15, 16, 17, 18, 19, 20, 21]

/-- The first eligible record at or after the scan position, going on from 21 to 0 (R155). -/
def State.nextRecord (s : State) : Option RecordNo :=
  match allRecords.find? fun r => decide (s.scan.val ≤ r.val) && s.eligible r with
  | some r => some r
  | none => allRecords.find? fun r => s.eligible r

/-- The writer, IDLE, begins the next write where a record is eligible (R155). -/
def State.startWrite (s : State) : State :=
  match s.writer with
  | .writing _ => s
  | .idle =>
    match s.nextRecord with
    | none => s
    | some r => { s with writer := .writing (s.image r), dirty := s.dirty.filter fun e => decide (e.1 ≠ r) }

/-- While PFW is active a record is eligible as soon as it is dirty, and the writer begins in that event
(R155, R157; log 8). -/
def State.flush (s : State) : State := if s.pfw then s.startWrite else s

end Sys2Proof.Machine
end

