-- ==== Sys2Proof/Machine/Float.lean ====
section
/-! DEFINITION. What follows a change within the same event: withdrawal (R76, R77), sweep checks (R146, R147), the
decisions of the two arbiters (R97 to R101), and the flush (R157). `conclude` runs them in that order. -/

namespace Sys2Proof.Machine

/-! ### Withdrawal (R76, R77) -/

/-- The slot's reserved total exceeds its backing (R76). -/
def State.overReserved (s : State) (d : Slot) : Bool := decide (s.backing d < s.reservedTotal d)

/-- Some slot is over-reserved. -/
def State.anyOverReserved (s : State) : Bool := allSlots.any fun d => s.overReserved d

/-- The entry's counts include an over-reserved slot. -/
def State.mustGo (s : State) (r : Reservation) : Bool :=
  r.counts.any fun e => decide (0 < e.2) && s.overReserved e.1

/-- A withdrawn sale (R77). -/
def State.withdrawOne (s : State) (r : Reservation) : State :=
  ((s.lapse r.lane r.tag).raiseWithdrawn r.lane r.tag).sampleLost r

/-- The walk of R76, over entries from the youngest: the state it leaves and the entries withdrawn. -/
def withdrawWalk : List Reservation → State → State × List Reservation
  | [], s => (s, [])
  | r :: rs, s =>
    if s.anyOverReserved then
      if s.mustGo r then
        let w := withdrawWalk rs (s.withdrawOne r)
        (w.1, r :: w.2)
      else withdrawWalk rs s
    else (s, [])

/-- The withdrawal rule, applied where the store table reports a fall of backing (R11, R76). -/
def State.withdraw (s : State) : State × List Reservation := withdrawWalk s.reservations.reverse s

/-! ### Sweep (R146, R147) -/

/-- A SWEEP or EMPTY job of the unit stands in the service job queue (R146, R148). -/
def State.hasServiceJob (s : State) (u : UnitId) : Bool := s.serviceJobs.any fun j => j.onUnit u

/-- The sweep amount (R147). -/
def State.sweepAmount (s : State) (u : UnitId) (d : Slot) : Nat :=
  let r := s.units.get u
  min (r.count - r.sweepTarget) (min r.free (s.freeActive d - s.reservedTotal d))

/-- A sweep check on a unit (R146, R147). -/
def State.sweepCheck (s : State) (u : UnitId) : State :=
  let r := s.units.get u
  if s.unitActive u && decide (r.highWater < r.count) && !s.hasServiceJob u then
    match r.slot with
    | none => s
    | some d =>
      let n := s.sweepAmount u d
      if 0 < n ∧ s.serviceJobs.length < Config.serviceQueueRoom then s.placeService u .sweep n else s
  else s

/-- The unit is due for a check: a piece was stored into it or it was unlocked, or it is an ACTIVE unit of a slot
whose reservation left (R146). -/
def State.sweepDue (s : State) (left : List Reservation) (stored : List UnitId) (u : UnitId) : Bool :=
  stored.contains u ||
    (s.unitActive u &&
      match (s.units.get u).slot with
      | some d => left.any fun r => r.counts.any fun e => decide (e.1 = d)
      | none => false)

/-- The checks of an event, in ascending unit order, each on the state the one before left (R146). -/
def State.sweepChecks (s : State) (left : List Reservation) (stored : List UnitId) : State :=
  allUnits.foldl (fun s u => if s.sweepDue left stored u then s.sweepCheck u else s) s

/-! ### Arbitration (R97 to R101) -/

/-- The top entry of a stack and its route for a stack-down (R18, R42, R98). -/
def State.topRoute (s : State) (l : Lane) : Option Store :=
  match (s.escrows.get l).entries.getLast? with
  | none => none
  | some e =>
    if e.inTransit then none else s.route .note e.slot (decide ((s.escrows.get l).owner = .floatIn))

/-- The job is eligible; that its mechanism is READY is asked at the decision (R98). -/
def State.eligibleJob (s : State) (j : Job) : Bool :=
  !j.inFlight && decide (j.done < j.ordered) &&
    match j.source with
    | .escrow l => (s.topRoute l).isSome
    | .unit u => decide ((s.units.get u).state ≠ .jammed) && !s.destPaused j.dest

/-- The first eligible job of a kind in a place, counted from its head (R99, R100). -/
def State.firstEligible (s : State) (k : Kind) (js : List Job) : Option Job :=
  js.find? fun j => decide (j.source.kind = k) && s.eligibleJob j

/-- The grant: the job is in flight and the controller starts the ejection at attempt 1 (R97, R114). -/
def State.startEjection (s : State) (k : Kind) (j : Job) (dest : Dest) : State :=
  let e : Ejection :=
    { job := j.serial, source := j.source, dest := dest, attempt := 1, faultPending := false,
      ends := s.now + Config.ejectTimeout k }
  (s.modJob j.serial fun j => { j with inFlight := true }).modMech k fun m => { m with phase := .ejecting e }

/-- The top entry of a stack is marked in transit (R42). -/
def markTop : List EscrowEntry → List EscrowEntry
  | [] => []
  | [e] => [{ e with inTransit := true }]
  | e :: es => e :: markTop es

/-- The drum of a unit, by its number among the drums; D0 for a tube, which no note route names. -/
def drumOf (u : UnitId) : Drum := if h : 8 ≤ u.val then ⟨u.val - 8, by omega⟩ else 0

/-- The destination of a stack-down by its route (R114). -/
def Store.noteDest : Store → Dest
  | .unit u => .drum (drumOf u)
  | .cashbox => .cashbox .note

/-- A class 0 grant (R97). -/
def State.grantStackDown (s : State) (j : Job) : State :=
  match j.source with
  | .unit _ => s
  | .escrow l =>
    match s.topRoute l with
    | none => s
    | some r => (s.startEjection .note j r.noteDest).modEscrow l fun e => { e with entries := markTop e.entries }

/-- The turn state after a class 1 grant to a lane (R101). -/
def State.turnAfter (s : State) (k : Kind) (granted : Lane) : Turn :=
  let t := s.turns.get k
  if t.holder = granted ∧ 0 < t.allowance then { t with allowance := t.allowance - 1 }
  else { holder := granted, allowance := (s.lanes.get granted).weight - 1 }

/-- A class 1 grant to a lane, with TURN_WAIT where the other lane had an eligible job (R101). -/
def State.grantLane (s : State) (k : Kind) (l : Lane) (j : Job) (otherWaits : Bool) : State :=
  let t := s.turnAfter k l
  let s := (s.startEjection k j j.dest).setTurn k t
  if otherWaits then s.sample { kind := .turnWait, lane := .lane l.other, slots := none, value := 1 } else s

/-- The class 1 decision: the lane and the job of the table of R101, if either lane has an eligible job. -/
def State.pickLane (s : State) (k : Kind) : Option (Lane × Job) :=
  let t := s.turns.get k
  let l := t.holder
  match s.firstEligible k (s.laneJobs.get l), s.firstEligible k (s.laneJobs.get l.other) with
  | some j, none => some (l, j)
  | none, some j => some (l.other, j)
  | some j, some j' => if 0 < t.allowance then some (l, j) else some (l.other, j')
  | none, none => none

/-- The first class that has an eligible job of the arbiter's kind (R99). -/
def State.grantFirst (s : State) (k : Kind) : State :=
  match s.firstEligible k s.stackJobs with
  | some j => s.grantStackDown j
  | none =>
    match s.pickLane k with
    | some (l, j) => s.grantLane k l j (s.firstEligible k (s.laneJobs.get l.other)).isSome
    | none =>
      match s.firstEligible k s.serviceJobs with
      | some j => s.startEjection k j j.dest
      | none => s

/-- An arbiter decides where its mechanism is READY and the warning is not active (R97). -/
def State.arbitrate (s : State) (k : Kind) : State :=
  if s.pfw then s
  else
    match (s.mechs.get k).phase with
    | .ready => s.grantFirst k
    | .ejecting _ => s
    | .fault _ => s

/-- What closes every event that changes state: both arbiters decide where R97 holds (log 7), and while PFW is
active the writer begins (log 8). -/
def State.settleEvent (s : State) : State := ((s.arbitrate .coin).arbitrate .note).flush

/-- The end of an event. `fall` says that the store table reports a fall of backing (R11); `left` are the
reservations that the event has removed, `stored` the units it calls for a check on (R146). -/
def State.conclude (s : State) (fall : Bool) (left : List Reservation) (stored : List UnitId) : State :=
  let w := if fall then s.withdraw else (s, [])
  (w.1.sweepChecks (left ++ w.2) stored).settleEvent

/-! ### The first event after a restart (R112, R163) -/

/-- A controller at that event: FAULT where it is READY and its fault sense line is active (R112). -/
def Mechanism.tested (m : Mechanism) : Mechanism :=
  match m.phase with
  | .ready => if m.sense then { m with phase := .fault .faultSense } else m
  | .ejecting _ => m
  | .fault _ => m

/-- The test of the lines that a restart has left to the first event after it. It is an event of its own that comes before
the effect of the row taken; a controller that enters FAULT is reported as a fall of backing (R112, R113; log 11). -/
def State.firstEvent (s : State) : State :=
  if s.powered && s.retest then
    let t := { s with retest := false, mechs := s.mechs.map Mechanism.tested }
    if t.mechs = s.mechs then t else t.conclude true [] []
  else s

end Sys2Proof.Machine
end

