-- ==== Sys2Proof/Machine/Search.lean ====
section
/-! DEFINITION. The plan search (R58 to R61), the usable counts (R55, R56), and the split of a plan over units
(R94). -/

namespace Sys2Proof.Machine

/-! ### The search -/

/-- What a search has done so far: steps taken, the best eligible leaf (counts from level 1 on, remainder), and
whether it has ended at an exact leaf or by effort (R58, R59). -/
structure Walk where
  steps : Nat
  best : Option (List Nat × Nat)
  ended : Bool
  deriving DecidableEq, Repr

/-- A leaf: passed over when its pieces exceed P; ends the search at remainder 0; kept only where its remainder is
strictly smaller than the best one's (R58). `counts` stands with the last level first. -/
def Walk.leaf (w : Walk) (pieceLimit : Nat) (counts : List Nat) (pieces remainder : Nat) : Walk :=
  if pieceLimit < pieces then w
  else if remainder = 0 then { w with best := some (counts.reverse, 0), ended := true }
  else
    match w.best with
    | none => { w with best := some (counts.reverse, remainder) }
    | some b => if remainder < b.2 then { w with best := some (counts.reverse, remainder) } else w

/-- One value tried at a level is one step; the step that would pass E is not taken (R59). -/
def Walk.tryCount (below : Nat → Walk → Walk) (effortLimit k : Nat) (w : Walk) : Walk :=
  if w.ended then w
  else if effortLimit ≤ w.steps then { w with ended := true }
  else below k { w with steps := w.steps + 1 }

/-- The values of a level from the largest down to 0 (R58). -/
def Walk.tryDown (below : Nat → Walk → Walk) (effortLimit : Nat) : Nat → Walk → Walk
  | 0, w => w.tryCount below effortLimit 0
  | k + 1, w => Walk.tryDown below effortLimit k (w.tryCount below effortLimit (k + 1))

/-- The walk from a level on: `levels` holds the value and the usable count of each level still to fill (R58). -/
def walkLevels (pieceLimit effortLimit : Nat) : List (Nat × Nat) → (remaining pieces : Nat) → List Nat → Walk → Walk
  | [], remaining, pieces, counts, w => w.leaf pieceLimit counts pieces remaining
  | (v, u) :: rest, remaining, pieces, counts, w =>
    Walk.tryDown
      (fun k w => walkLevels pieceLimit effortLimit rest (remaining - k * v) (pieces + k) (k :: counts) w)
      effortLimit (min (remaining / v) u) w

/-- The result of a search (R59, R60). -/
structure SearchResult where
  counts : List Nat
  remainder : Nat
  steps : Nat
  deriving DecidableEq, Repr

/-- A whole search; with no eligible leaf the result is the empty vector with remainder C (R59). -/
def search (levels : List (Nat × Nat)) (c pieceLimit effortLimit : Nat) : SearchResult :=
  let w := walkLevels pieceLimit effortLimit levels c 0 [] { steps := 0, best := none, ended := false }
  match w.best with
  | some b => { counts := b.1, remainder := b.2, steps := w.steps }
  | none => { counts := [], remainder := c, steps := w.steps }

/-! ### The inputs of a search -/

/-- Slots by descending value (R58). -/
def State.insertByValue (s : State) (d : Slot) : List Slot → List Slot
  | [] => [d]
  | x :: xs => if s.slotValue x < s.slotValue d then d :: x :: xs else x :: s.insertByValue d xs

/-- The walked slots: enabled, recycle set, in descending value (R58). -/
def State.walkedSlots (s : State) : List Slot :=
  (allSlots.filter fun d => (s.denoms.get d).enabled && (s.denoms.get d).recycle).foldr s.insertByValue []

/-- The shield H of a slot against a lane (R56). -/
def State.shield (s : State) (l : Lane) (d : Slot) (shielded : Bool) : Nat :=
  let o := s.lanes.get l.other
  if shielded && o.opened && o.holding then (s.floors.get l.other).get d - s.reservedLane l.other d else 0

/-- The term Q: reserved(d) of the PLANNED sales other than the request's (R55). -/
def State.reservedByOthers (s : State) (l : Lane) (tag : Nat) (d : Slot) : Nat :=
  reservedIn (s.reservations.filter fun r => !(decide (r.lane = l) && decide (r.tag = tag))) d

/-- The usable count U(d) (R55). -/
def State.usable (s : State) (l : Lane) (tag : Nat) (shielded : Bool) (d : Slot) : Nat :=
  s.served d l - s.reservedByOthers l tag d - s.shield l d shielded

/-- The planned amount C (R58). -/
def State.plannedAmount (s : State) (amount : Nat) : Nat := min amount s.limits.payout

/-- The search of a request (R58). -/
def State.searchFor (s : State) (l : Lane) (tag amount : Nat) (shielded : Bool) : SearchResult :=
  search (s.walkedSlots.map fun d => (s.slotValue d, s.usable l tag shielded d)) (s.plannedAmount amount)
    s.limits.piece s.limits.effort

/-- The plan of a result: the walked slots whose count is above 0 (R60). -/
def State.planOf (s : State) (r : SearchResult) : Plan := (s.walkedSlots.zip r.counts).filter fun e => decide (0 < e.2)

/-- The shortfall of a request (R61). -/
def State.shortfallOf (s : State) (amount : Nat) (r : SearchResult) : Nat :=
  amount - s.plannedAmount amount + r.remainder

/-- The asked slots: the walked slots whose shield was above 0 (R83). -/
def State.shieldedSlots (s : State) (l : Lane) (shielded : Bool) : List Slot :=
  s.walkedSlots.filter fun d => decide (0 < s.shield l d shielded)

/-! ### The split (R94) -/

/-- One job to be made: pieces of a slot from a unit. -/
structure Share where
  unit : UnitId
  slot : Slot
  pieces : Nat
  deriving DecidableEq, Repr

/-- Among the units of a slot that serve the lane with free count above 0, the one with the largest free count, the
lower-numbered on equal counts (R94 step 1). -/
def State.roomiest (s : State) (l : Lane) (d : Slot) : Option UnitId :=
  allUnits.foldl (fun best u =>
    if s.unitOfSlot d u && s.serves u l && decide (0 < (s.units.get u).free) then
      match best with
      | none => some u
      | some b => if (s.units.get b).free < (s.units.get u).free then some u else some b
    else best) none

/-- Commit pieces of a unit (R7, R94 step 2). -/
def State.commit (s : State) (u : UnitId) (n : Nat) : State := s.modUnit u fun r => { r with committed := r.committed + n }

/-- The shares of one entry, the pieces left unplaced, and the state with the shares committed (R94). Each round
uses up a unit or the pieces, so as many rounds as there are units are enough. -/
def splitEntry (l : Lane) (d : Slot) : (rounds : Nat) → (pieces : Nat) → State → List Share × Nat × State
  | 0, k, s => ([], k, s)
  | n + 1, k, s =>
    if k = 0 then ([], 0, s)
    else
      match s.roomiest l d with
      | none => ([], k, s)
      | some u =>
        let m := min (s.units.get u).free k
        let r := splitEntry l d n (k - m) (s.commit u m)
        ({ unit := u, slot := d, pieces := m } :: r.1, r.2)

/-- The shares of a plan, entry by entry, and the value left unplaced (R94, R95). -/
def splitPlan (l : Lane) : Plan → State → List Share × Nat
  | [], _ => ([], 0)
  | (d, k) :: rest, s =>
    let r := splitEntry l d allUnits.length k s
    let t := splitPlan l rest r.2.2
    (r.1 ++ t.1, r.2.1 * s.slotValue d + t.2)

/-- The destination of a lane's payout by the kind of the slot (R89). -/
def State.payDest (s : State) (l : Lane) (d : Slot) : Dest :=
  match (s.denoms.get d).kind with
  | .coin => .cup l
  | .note => .outlet l

/-- The jobs of shares, numbered from a serial on in the order they are made (R94). -/
def State.jobsOf (s : State) (l : Lane) (tag : Nat) : Nat → List Share → List Job
  | _, [] => []
  | n, x :: xs =>
    { serial := n, origin := .sale l tag, source := .unit x.unit, ordered := x.pieces, done := 0,
      dest := s.payDest l x.slot, inFlight := false, stopped := false } :: s.jobsOf l tag (n + 1) xs

/-- The pieces of all shares are committed. -/
def State.commitAll (s : State) (xs : List Share) : State := xs.foldl (fun s x => s.commit x.unit x.pieces) s

/-- The value of shares. -/
def State.sharesValue (s : State) (xs : List Share) : Nat := (xs.map fun x => x.pieces * s.slotValue x.slot).sum

/-- The shares become jobs, placed in the lane's queue by `place`, and their pieces are committed (R94). -/
def State.placeShares (s : State) (l : Lane) (tag : Nat) (xs : List Share) (place : List Job → List Job → List Job) :
    State :=
  let js := s.jobsOf l tag s.nextJob xs
  { ((s.commitAll xs).modLaneJobs l fun q => place q js) with nextJob := s.nextJob + xs.length }

/-- PAY and REFUND append at the tail (R90). -/
def atTail (q js : List Job) : List Job := q ++ js

/-- How many jobs of the queue stand up to and including the sale's last one. -/
def lastOf (l : Lane) (tag : Nat) (q : List Job) : Nat := q.length - (q.reverse.takeWhile fun j => !j.ofSale l tag).length

/-- REPLAN places directly behind the sale's last remaining job, or at the head (R124). -/
def behindLast (l : Lane) (tag : Nat) (q js : List Job) : List Job :=
  q.take (lastOf l tag q) ++ js ++ q.drop (lastOf l tag q)

end Sys2Proof.Machine
end

