-- ==== Sys2Proof/Machine/Sales.lean ====
section
/-! DEFINITION. The sale commands of the lane ports (02_sales_lanes_and_escrow.md; PAY and STOP:
05_payout_jobs_and_arbitration.md): OPEN_SALE, TENDER, QUOTE, PAY, CANCEL, RELEASE, STATUS, STOP. -/

namespace Sys2Proof.Machine

/-! ### OPEN_SALE (R27) -/

/-- The record that OPEN_SALE fills (R26). -/
def Sale.opened (tag due : Nat) : Sale :=
  { tag := tag, state := .waiting, due := due, coinValue := 0, noteValue := 0,
    change := if due = 0 then some 0 else none, planned := none, plan := none, outcome := none, shortfall := 0,
    floorBlocked := false, paid := 0, overpaid := 0, refund := none, refundShortfall := none }

/-- The range check of OPEN_SALE (R27). -/
def openSaleRange (tag due : Nat) : Bool := decide (1 ≤ tag ∧ tag ≤ 65535 ∧ due ≤ Config.maxAmount)

def takeOpenSale (p : Port) (tag due : Nat) (s : State) : State :=
  s.laneRequest p .openSale fun l s =>
    if !openSaleRange tag due then s.refuse p .openSale .range
    else if !(s.lanes.get l).opened then s.refuse p .openSale .laneClosed
    else if (s.findSale l tag).isSome then s.refuse p .openSale .duplicate
    else if Config.orderListRoom ≤ (s.sales.get l).length then s.refuse p .openSale .full
    else (s.modSales l (· ++ [Sale.opened tag due])).answer p .openSale []

def execOpenSale (p : Port) (tag due : Nat) (s : State) : Result := .next (takeOpenSale p tag due s.firstEvent)

/-! ### TENDER (R32) -/

/-- The stack needs the service station: its owner is ORPHAN or its status is FAULT (R32, R143). -/
def Escrow.needsService (e : Escrow) : Bool := decide (e.owner = .orphan) || decide (e.status = .fault)

/-- The intake and the stack are free: binding none, stack empty with owner none (R32, R143). -/
def State.intakeFree (s : State) (l : Lane) : Bool :=
  decide ((s.lanes.get l).binding = .none) && (s.escrows.get l).entries.isEmpty &&
    decide ((s.escrows.get l).owner = .none)

/-- What TENDER does when its checks pass (R32). -/
def State.openTender (s : State) (l : Lane) (tag : Nat) : State :=
  let stray := (s.lanes.get l).stray
  let s := s.modSale l tag fun x => { x with state := .tendering, coinValue := x.coinValue + stray }.withChange
  let s := s.modLane l fun r => { r with binding := .sale tag, stray := 0 }
  s.setOwner l (.sale tag)

def takeTender (p : Port) (tag : Nat) (s : State) : State :=
  s.saleRequest p .tender tag fun l x s =>
    if !(s.lanes.get l).opened then s.refuse p .tender .laneClosed
    else if x.state ≠ .waiting then s.refuse p .tender .state
    else if (s.escrows.get l).needsService then s.refuse p .tender .state
    else if !s.intakeFree l then s.refuse p .tender .busy
    else ((s.openTender l tag).answer p .tender []).flush

def execTender (p : Port) (tag : Nat) (s : State) : Result := .next (takeTender p tag s.firstEvent)

/-! ### QUOTE (R36) -/

/-- The intake unbinds (R33). -/
def State.unbind (s : State) (l : Lane) : State := s.modLane l fun r => { r with binding := .none }

/-- The tender closes: the intake unbinds, an empty stack loses its owner, the sale is TENDERED (R36). -/
def State.closeTender (s : State) (l : Lane) (tag : Nat) : State :=
  let s := s.unbind l
  let s := if (s.escrows.get l).entries.isEmpty then s.setOwner l .none else s
  s.modSale l tag fun x => { x with state := .tendered }

/-- The reservation that a command on a PLANNED sale removes, for the sweep checks of R146. -/
def State.leaving (s : State) (l : Lane) (tag : Nat) : List Reservation := (s.reservationOf l tag).toList

/-- What QUOTE does by the sale's state before its request is placed (R36). -/
def State.beforeQuote (s : State) (l : Lane) (x : Sale) : State :=
  match x.state with
  | .tendering => s.closeTender l x.tag
  | .planned => s.lapse l x.tag
  | _ => s

def takeQuote (p : Port) (tag : Nat) (s : State) : State :=
  s.saleRequest p .quote tag fun l x s =>
    if !(decide (x.state = .tendering) || decide (x.state = .tendered) || decide (x.state = .planned)) then
      s.refuse p .quote .state
    else if x.state = .tendering ∧ x.tendered < x.due then s.refuse p .quote .underpaid
    else
      let left := if x.state = .planned then s.leaving l tag else []
      (((s.beforeQuote l x).clearNeedOf l tag).placeRequest l tag .quote (x.change.getD 0)).conclude false left []

def execQuote (p : Port) (tag : Nat) (s : State) : Result := .next (takeQuote p tag s.firstEvent)

/-! ### PAY (R92 to R96) -/

/-- Steps 1 to 6 of R93 for a sale with a plan: the shares of the split and the value it leaves unplaced are given. -/
def State.payOut (s : State) (l : Lane) (tag : Nat) (shares : List Share) (unplaced : Nat) : State :=
  let s := s.dropReservation l tag
  let s := s.placeShares l tag shares atTail
  let s := s.modSale l tag fun x => { x with state := .paying }
  let s := if 0 < unplaced then s.placeRequest l tag .replan unplaced else s
  let s := if (s.escrows.get l).owner = .sale tag then (s.setOwner l .stacking).placeStackDown l else s
  s.clearNeedOf l tag

/-- The reply gives the number of jobs in one byte, as R168 does for the number of a list's entries: the model's choice
(log 12). -/
def takePay (p : Port) (tag acceptShort : Nat) (s : State) : State :=
  s.laneRequest p .pay fun l s =>
    match flagOf acceptShort with
    | none => s.refuse p .pay .range
    | some short =>
      match s.findSale l tag with
      | none => s.refuse p .pay .noSale
      | some x =>
        if x.state = .tendered then s.refuse p .pay .noPlan
        else if x.state ≠ .planned then s.refuse p .pay .state
        else if x.outcome ≠ some .exact ∧ short = false then s.refuse p .pay .short
        else
          let split := splitPlan l (x.plan.getD []) s
          if Config.laneQueueRoom < (s.laneJobs.get l).length + split.1.length then s.refuse p .pay .queueFull
          else
            let left := s.leaving l tag
            let s := s.answer p .pay [byteField split.1.length, amountField split.2]
            ((s.payOut l tag split.1 split.2).settleTest l tag).conclude true left []

def execPay (p : Port) (tag acceptShort : Nat) (s : State) : Result := .next (takePay p tag acceptShort s.firstEvent)

/-! ### CANCEL (R46) -/

/-- Step 1 of R46: the intake unbinds, or the reservation is removed. -/
def State.beforeCancel (s : State) (l : Lane) (x : Sale) : State :=
  match x.state with
  | .tendering => s.unbind l
  | .planned => s.lapse l x.tag
  | _ => s

/-- Step 4 of R46: an empty stack of the sale loses its owner, another is returned. -/
def State.returnStack (s : State) (l : Lane) (tag : Nat) : State :=
  if (s.escrows.get l).owner = .sale tag then
    if (s.escrows.get l).entries.isEmpty then s.setOwner l .none else s.beginReturn l
  else s

/-- Steps 1 to 5 of R46. -/
def State.cancelTendered (s : State) (l : Lane) (x : Sale) : State :=
  let s := s.beforeCancel l x
  let s := s.modSale l x.tag fun y =>
    { y with state := .refunding, refund := some x.coinValue, refundShortfall := some 0 }
  let s := if 0 < x.coinValue then s.placeRequest l x.tag .refund x.coinValue else s
  (s.returnStack l x.tag).settleTest l x.tag

def takeCancel (p : Port) (tag : Nat) (s : State) : State :=
  s.saleRequest p .cancel tag fun l x s =>
    match x.state with
    | .waiting => (s.finishSale l tag .cancelled).answer p .cancel []
    | .tendering | .tendered | .planned =>
      let left := if x.state = .planned then s.leaving l tag else []
      ((s.answer p .cancel []).cancelTendered l x).conclude false left []
    | _ => s.refuse p .cancel .state

def execCancel (p : Port) (tag : Nat) (s : State) : Result := .next (takeCancel p tag s.firstEvent)

/-! ### RELEASE (R30) -/

def takeRelease (p : Port) (tag : Nat) (s : State) : State :=
  s.saleRequest p .release tag fun l x s =>
    if x.state.finished then
      ((s.modSales l fun xs => xs.filter fun y => decide (y.tag ≠ tag)).clearNeedOf l tag).answer p .release []
    else s.refuse p .release .state

def execRelease (p : Port) (tag : Nat) (s : State) : Result := .next (takeRelease p tag s.firstEvent)

/-! ### STATUS (R29) -/

/-- The lane that STATUS and STOP name: the port's own, or the parameter's at the service port (R28, R172). None
where the lane is out of range or the parameters have the wrong length (R168). -/
def namedLane (p : Port) (lane : Option Nat) : Option Lane :=
  match p.lane, lane with
  | some l, none => some l
  | none, some n => laneOf n
  | some _, some _ => none
  | none, none => none

/-- The fields of a sale record, in the order of R26. -/
def State.saleFields (s : State) (l : Lane) (x : Sale) : List Field :=
  [tagField x.tag, byteField (laneCode l), byteField (saleStateCode x.state), amountField x.due,
    amountField x.coinValue, amountField x.noteValue, optAmountField x.change, optAmountField x.planned] ++
  countsFields x.plan ++
  [byteField (outcomeCode x.outcome), amountField x.shortfall, flagField x.floorBlocked, amountField x.paid,
    amountField x.overpaid, optAmountField x.refund, optAmountField x.refundShortfall,
    holdField (s.holdRemaining l x.tag)]

/-- The lane record of R22, the escrow record from top to bottom, the order list (R29). The weight is a setting of
SET_LIMITS and takes two bytes (R141, R168). -/
def State.laneFields (s : State) (l : Lane) : List Field :=
  let r := s.lanes.get l
  let e := s.escrows.get l
  [flagField r.opened, flagField (!r.holding), flagField r.need] ++ bindingFields r.binding ++
  [amountField r.stray, byteField r.cup, byteField r.outlet, countField r.weight] ++
  listFields (e.entries.reverse.map fun n =>
    [slotField (some n.slot), byteField (creditCode n.credit), flagField n.inTransit]) ++
  ownerFields e.owner ++ [byteField (escrowStatusCode e.status)] ++
  listFields ((s.sales.get l).map fun x => [tagField x.tag, byteField (saleStateCode x.state)])

def takeStatus (p : Port) (lane : Option Nat) (tag : Nat) (s : State) : State :=
  s.request p .status fun s =>
    match namedLane p lane with
    | none => s.refuse p .status .range
    | some l =>
      if tag = 0 then s.answer p .status (s.laneFields l)
      else
        match s.findSale l tag with
        | some x => s.answer p .status (s.saleFields l x)
        | none => s.refuse p .status .noSale

def execStatus (p : Port) (lane : Option Nat) (tag : Nat) (s : State) : Result := .next (takeStatus p lane tag s.firstEvent)

/-! ### STOP (R106, R107) -/

/-- The undone pieces of jobs are released from their units (R91). -/
def State.releaseJobs (s : State) (js : List Job) : State :=
  js.foldl (fun s j =>
    match j.source with
    | .unit u => s.release u j.undone
    | .escrow _ => s) s

/-- The sale's jobs that are not in flight leave and their pieces are released; the one in flight is marked (R107). -/
def State.stopJobs (s : State) (l : Lane) (tag : Nat) : State :=
  let mine := (s.laneJobs.get l).filter fun j => j.ofSale l tag
  let gone := mine.filter fun j => !j.inFlight
  let s := s.modLaneJobs l fun q =>
    (q.filter fun j => !(j.ofSale l tag && !j.inFlight)).map fun j => if j.ofSale l tag then { j with stopped := true } else j
  s.releaseJobs gone

/-- STOP of a REFUNDING sale leaves its stack ORPHAN; FAULT becomes IDLE, a return runs on (R41, R43, R107). -/
def State.orphanStack (s : State) (l : Lane) (x : Sale) : State :=
  if x.state = .refunding ∧ (s.escrows.get l).owner = .sale x.tag then
    let s := s.setOwner l .orphan
    match (s.escrows.get l).status with
    | .fault => s.setEscrowStatus l .idle
    | .idle => s
    | .returning _ => s
  else s

/-- What STOP does when its checks pass (R107). -/
def State.stopSale (s : State) (l : Lane) (x : Sale) : State :=
  let s := s.stopJobs l x.tag
  let s := s.dropRequest l x.tag
  let s := s.orphanStack l x
  s.finishSale l x.tag .stopped

def takeStop (p : Port) (lane : Option Nat) (tag : Nat) (s : State) : State :=
  s.request p .stop fun s =>
    match namedLane p lane with
    | none => s.refuse p .stop .range
    | some l =>
      match s.findSale l tag with
      | none => s.refuse p .stop .noSale
      | some x =>
        if x.state = .paying ∨ x.state = .refunding then
          ((s.answer p .stop []).stopSale l x).conclude false [] []
        else s.refuse p .stop .state

def execStop (p : Port) (lane : Option Nat) (tag : Nat) (s : State) : Result := .next (takeStop p lane tag s.firstEvent)

end Sys2Proof.Machine
end

