-- ==== Sys2Proof/Machine/Lanes.lean ====
section
/-! DEFINITION. The lane commands: LANE_OPEN, LANE_CLOSE (02_sales_lanes_and_escrow.md R23, R24), FLOOR_HOLD,
FLOOR_YIELD (04_reservations_and_lane_floors.md R81, R86). -/

namespace Sys2Proof.Machine

/-! ### LANE_OPEN (R23) -/

/-- A CLOSED lane opens: HOLD, with both delivery counts at 0 (R23). -/
def State.openLane (s : State) (l : Lane) : State :=
  s.modLane l fun r => { r with opened := true, holding := true, cup := 0, outlet := 0 }

def takeLaneOpen (p : Port) (s : State) : State :=
  s.laneRequest p .laneOpen fun l s =>
    if (s.lanes.get l).opened then s.answer p .laneOpen []
    else ((s.openLane l).answer p .laneOpen []).settleEvent

def execLaneOpen (p : Port) (s : State) : Result := .next (takeLaneOpen p s.firstEvent)

/-! ### LANE_CLOSE (R24, R87) -/

/-- A sale that keeps its lane from closing (R24). -/
def SaleState.open : SaleState → Bool
  | .tendering | .tendered | .planned | .paying | .refunding => true
  | _ => false

/-- The tags of the lane's WAITING sales, oldest first. -/
def State.waitingTags (s : State) (l : Lane) : List Nat :=
  ((s.sales.get l).filter fun x => decide (x.state = .waiting)).map Sale.tag

/-- Each WAITING sale of the lane becomes CANCELLED (R24). SALE_FINISHED is raised for them oldest first; the spec gives
no order, and this one is the model's choice (log 34). -/
def State.cancelWaiting (s : State) (l : Lane) : State :=
  (s.waitingTags l).foldl (fun s tag => s.finishSale l tag .cancelled) s

/-- FLOOR_GRANTED at a lane whose need flag is set, with its floor-blocked tag (R86). -/
def State.grantFloor (s : State) (l : Lane) : State :=
  match (s.lanes.get l).blockedSale with
  | some tag => s.raiseGranted l tag
  | none => s

/-- What LANE_CLOSE does to an OPEN lane (R24, R87). -/
def State.closeLane (s : State) (l : Lane) : State :=
  ((s.cancelWaiting l).modLane l fun r => { r with opened := false, blockedSale := none, asked := 0 }).grantFloor l.other

def takeLaneClose (p : Port) (s : State) : State :=
  s.laneRequest p .laneClose fun l s =>
    if (s.sales.get l).any fun x => x.state.open then s.refuse p .laneClose .state
    else if (s.lanes.get l).opened then (s.closeLane l).answer p .laneClose []
    else s.answer p .laneClose []

def execLaneClose (p : Port) (s : State) : Result := .next (takeLaneClose p s.firstEvent)

/-! ### FLOOR_HOLD and FLOOR_YIELD (R81, R86) -/

def takeFloorHold (p : Port) (s : State) : State :=
  s.laneRequest p .floorHold fun l s =>
    if (s.lanes.get l).opened then (s.modLane l fun r => { r with holding := true }).answer p .floorHold []
    else s.refuse p .floorHold .laneClosed

def execFloorHold (p : Port) (s : State) : Result := .next (takeFloorHold p s.firstEvent)

/-- An OPEN lane goes from HOLD to YIELD (R81, R86). -/
def State.yieldFloor (s : State) (l : Lane) : State :=
  if (s.lanes.get l).holding then (s.modLane l fun r => { r with holding := false }).grantFloor l.other else s

def takeFloorYield (p : Port) (s : State) : State :=
  s.laneRequest p .floorYield fun l s =>
    if (s.lanes.get l).opened then (s.yieldFloor l).answer p .floorYield []
    else s.refuse p .floorYield .laneClosed

def execFloorYield (p : Port) (s : State) : Result := .next (takeFloorYield p s.firstEvent)

end Sys2Proof.Machine
end

