-- ==== Sys2Proof/Machine/Service.lean ====
section
/-! DEFINITION. The service commands (07_float_service.md; CLEAR_JAM and CLEAR_FAULT:
06_coin_and_note_mechanisms.md; CLEAR_ESCROW: 02_sales_lanes_and_escrow.md; RESTART:
08_count_store_power_loss_and_restart.md; COUNTER_SET: 10_audit_counters.md). -/

namespace Sys2Proof.Machine

/-- A range check: the parameter's meaning, or RANGE (R134). -/
def State.ranged {α : Type} (s : State) (p : Port) (c : Command) (x : Option α) (body : α → State → State) : State :=
  match x with
  | some a => body a s
  | none => s.refuse p c .range

/-! ### LOCK_UNIT and UNLOCK_UNIT (R136, R137) -/

def takeLockUnit (p : Port) (unit : Nat) (s : State) : State :=
  s.request p .lockUnit fun s => s.ranged p .lockUnit (unitOf unit) fun u s =>
    match (s.units.get u).state with
    | .active =>
      let st := if 0 < (s.units.get u).committed then UnitState.lockPending else UnitState.locked
      ((s.setUnitState u st).answer p .lockUnit []).conclude true [] []
    | .lockPending => s.answer p .lockUnit []
    | .locked => s.answer p .lockUnit []
    | .jammed => s.refuse p .lockUnit .state
    | .uncertain => s.refuse p .lockUnit .state
    | .absent => s.refuse p .lockUnit .state

def execLockUnit (p : Port) (unit : Nat) (s : State) : Result := .next (takeLockUnit p unit s.firstEvent)

def takeUnlockUnit (p : Port) (unit : Nat) (s : State) : State :=
  s.request p .unlockUnit fun s => s.ranged p .unlockUnit (unitOf unit) fun u s =>
    if (s.units.get u).state ≠ .locked then s.refuse p .unlockUnit .state
    else if !s.slotFitsUnit u then s.refuse p .unlockUnit .state
    else ((s.setUnitState u .active).answer p .unlockUnit []).conclude false [] [u]

def execUnlockUnit (p : Port) (unit : Nat) (s : State) : Result := .next (takeUnlockUnit p unit s.firstEvent)

/-! ### WRITE_UNIT (R138) -/

/-- The largest capacity of a unit (R4). -/
def maxCapacity : Kind → Nat
  | .coin => 400
  | .note => 120

/-- The ranges of the settings of a unit (R4). -/
def UnitSettings.inRange (x : UnitSettings) (k : Kind) : Bool :=
  decide (1 ≤ x.capacity ∧ x.capacity ≤ maxCapacity k ∧ 1 ≤ x.highWater ∧ x.highWater ≤ x.capacity ∧
    x.sweepTarget < x.highWater)

/-- A slot, where one is given, is of the kind (R4). -/
def State.slotOfKind (s : State) (slot : Option Slot) (k : Kind) : Bool :=
  match slot with
  | some d => decide ((s.denoms.get d).kind = k)
  | none => true

/-- The range check of WRITE_UNIT on the settings, beside the unit itself (R138). -/
def State.writeUnitInRange (s : State) (u : UnitId) (x : UnitSettings) : Bool :=
  x.inRange (unitKind u) && s.slotOfKind x.slot (unitKind u) && decide ((s.units.get u).count ≤ x.capacity)

/-- The settings that the parameters of WRITE_UNIT spell, none where a code is out of range. -/
def settingsOf (slot capacity highWater sweepTarget laneMask : Nat) : Option UnitSettings :=
  match slotOrNoneOf slot, laneMaskOf laneMask with
  | some d, some m => some { slot := d, capacity := capacity, highWater := highWater, sweepTarget := sweepTarget, mask := m }
  | _, _ => none

/-- The unit may take another slot (R138, the fifth check). -/
def State.maySwitchSlot (s : State) (u : UnitId) : Bool :=
  let r := s.units.get u
  decide (r.committed = 0) && (decide (r.count = 0) || decide (r.state = .uncertain) || !s.slotFitsUnit u)

/-- The STATE checks of WRITE_UNIT (R138). -/
def State.writeUnitAllowed (s : State) (u : UnitId) (slot : Option Slot) : Bool :=
  let r := s.units.get u
  (decide (r.state = .locked) || decide (r.state = .absent) || decide (r.state = .uncertain)) &&
    !s.stackDownInto u && (decide (slot = r.slot) || s.maySwitchSlot u) && (slot.isSome || decide (r.count = 0))

/-- The state of a unit after WRITE_UNIT (R138). -/
def writtenState (before : UnitState) (slot : Option Slot) : UnitState :=
  match slot with
  | none => .absent
  | some _ => if before = .absent then .locked else before

/-- What WRITE_UNIT does when its checks pass (R138). -/
def State.writeSettings (s : State) (u : UnitId) (x : UnitSettings) : State :=
  let before := (s.units.get u).state
  let after := writtenState before x.slot
  let s := s.modUnit u fun r =>
    { r with slot := x.slot, capacity := x.capacity, highWater := x.highWater, sweepTarget := x.sweepTarget,
             mask := x.mask, state := after }
  (s.markDirty recSettings).markIf (decide (after ≠ before)) (recUnit u)

def takeWriteUnit (p : Port) (unit slot capacity highWater sweepTarget laneMask : Nat) (s : State) : State :=
  s.request p .writeUnit fun s => s.keyed p .writeUnit fun s => s.ranged p .writeUnit (unitOf unit) fun u s =>
    s.ranged p .writeUnit (settingsOf slot capacity highWater sweepTarget laneMask) fun x s =>
      if !s.writeUnitInRange u x then s.refuse p .writeUnit .range
      else if !s.writeUnitAllowed u x.slot then s.refuse p .writeUnit .state
      else ((s.writeSettings u x).answer p .writeUnit []).settleEvent

def execWriteUnit (p : Port) (unit slot capacity highWater sweepTarget laneMask : Nat) (s : State) : Result :=
  .next (takeWriteUnit p unit slot capacity highWater sweepTarget laneMask s.firstEvent)

/-! ### SET_DENOM (R139) -/

/-- The slot record that the parameters of SET_DENOM spell, none where a code is out of range. -/
def denomOf (value kind enabled accept recycle lowWater : Nat) : Option Denom :=
  match kindOf kind, flagOf enabled, flagOf accept, flagOf recycle with
  | some k, some e, some a, some r =>
    some { value := value, kind := k, enabled := e, accept := a, recycle := r, lowWater := lowWater }
  | _, _, _, _ => none

/-- The ranges of a slot record by itself (R1). -/
def Denom.inRange (x : Denom) : Bool := decide (1 ≤ x.value ∧ x.value ≤ 50000 ∧ x.lowWater ≤ 1000)

/-- Another enabled slot already has the value (R1, R139). -/
def State.valueTaken (s : State) (d : Slot) (value : Nat) : Bool :=
  allSlots.any fun e => decide (e ≠ d) && (s.denoms.get e).enabled && decide ((s.denoms.get e).value = value)

/-- The range check of SET_DENOM (R139). -/
def State.setDenomInRange (s : State) (d : Slot) (x : Denom) : Bool :=
  x.inRange && !(x.enabled && s.valueTaken d x.value)

/-- The STATE checks of SET_DENOM: both lanes CLOSED, and no unit on a slot whose kind changes (R139). -/
def State.setDenomAllowed (s : State) (d : Slot) (x : Denom) : Bool :=
  !s.lanes.a.opened && !s.lanes.b.opened &&
    (decide (x.kind = (s.denoms.get d).kind) || allUnits.all fun u => !s.unitOfSlot d u)

def takeSetDenom (p : Port) (slot value kind enabled accept recycle lowWater : Nat) (s : State) : State :=
  s.request p .setDenom fun s => s.keyed p .setDenom fun s => s.ranged p .setDenom (slotOf slot) fun d s =>
    s.ranged p .setDenom (denomOf value kind enabled accept recycle lowWater) fun x s =>
      if !s.setDenomInRange d x then s.refuse p .setDenom .range
      else if !s.setDenomAllowed d x then s.refuse p .setDenom .state
      else ((({ s with denoms := s.denoms.set d x }).markDirty recDenoms).answer p .setDenom []).settleEvent

def execSetDenom (p : Port) (slot value kind enabled accept recycle lowWater : Nat) (s : State) : Result :=
  .next (takeSetDenom p slot value kind enabled accept recycle lowWater s.firstEvent)

/-! ### SET_FLOOR (R140) -/

/-- A floor takes a count, and the floors record joins the dirty set (R80, R140). -/
def State.writeFloor (s : State) (l : Lane) (d : Slot) (count : Nat) : State :=
  ({ s with floors := s.floors.modify l fun t => t.set d count }).markDirty recFloors

def takeSetFloor (p : Port) (lane slot count : Nat) (s : State) : State :=
  s.request p .setFloor fun s => s.ranged p .setFloor (laneOf lane) fun l s =>
    s.ranged p .setFloor (slotOf slot) fun d s =>
      if 255 < count then s.refuse p .setFloor .range
      else ((s.writeFloor l d count).answer p .setFloor []).flush

def execSetFloor (p : Port) (lane slot count : Nat) (s : State) : Result := .next (takeSetFloor p lane slot count s.firstEvent)

/-! ### SET_LIMITS (R141, R104) -/

/-- The value that a setting holds (R141). -/
def State.settingValue (s : State) : Setting → Nat
  | .payoutLimit => s.limits.payout
  | .pieceLimit => s.limits.piece
  | .effortLimit => s.limits.effort
  | .holdTime => s.limits.hold
  | .cupLimit => s.limits.cup
  | .outletLimit => s.limits.outlet
  | .weight l => (s.lanes.get l).weight
  | .cashboxCapacity k => (s.boxes.get k).capacity

/-- The record of a setting (R141). -/
def Setting.record : Setting → RecordNo
  | .weight _ => recWeights
  | _ => recLimits

/-- PAUSE for a delivery place that a lowered limit paused: its slot set is empty (R180). -/
def State.samplePauseByLimit (s : State) (l : Lane) : State :=
  s.sample { kind := .pause, lane := .lane l, slots := some 0, value := 1 }

/-- The cup limit takes a value; a count at or above it becomes the limit (R104). -/
def State.writeCupLimit (s : State) (v : Nat) : State :=
  let lower := fun (t : State) (l : Lane) =>
    let paused := t.cupPaused l
    let w := t.modLane l fun r => { r with cup := min r.cup v }
    if decide ((w.lanes.get l).cup = v) && !paused then w.samplePauseByLimit l else w
  { lower (lower s .a) .b with limits := { s.limits with cup := v } }

/-- The outlet limit takes a value; a count at or above it becomes the limit (R104). -/
def State.writeOutletLimit (s : State) (v : Nat) : State :=
  let lower := fun (t : State) (l : Lane) =>
    let paused := t.outletPaused l
    let w := t.modLane l fun r => { r with outlet := min r.outlet v }
    if decide ((w.lanes.get l).outlet = v) && !paused then w.samplePauseByLimit l else w
  { lower (lower s .a) .b with limits := { s.limits with outlet := v } }

/-- A setting takes a value (R141). -/
def State.writeSetting (s : State) (x : Setting) (v : Nat) : State :=
  match x with
  | .payoutLimit => { s with limits := { s.limits with payout := v } }
  | .pieceLimit => { s with limits := { s.limits with piece := v } }
  | .effortLimit => { s with limits := { s.limits with effort := v } }
  | .holdTime => { s with limits := { s.limits with hold := v } }
  | .cupLimit => s.writeCupLimit v
  | .outletLimit => s.writeOutletLimit v
  | .weight l => s.modLane l fun r => { r with weight := v }
  | .cashboxCapacity k => s.modBox k fun b => { b with capacity := v }

def takeSetLimits (p : Port) (setting value : Nat) (s : State) : State :=
  s.request p .setLimits fun s => s.ranged p .setLimits (settingOf setting) fun x s =>
    if !x.inRange value then s.refuse p .setLimits .range
    else if s.settingValue x = value then s.answer p .setLimits []
    else (((s.writeSetting x value).markDirty x.record).answer p .setLimits []).settleEvent

def execSetLimits (p : Port) (setting value : Nat) (s : State) : Result := .next (takeSetLimits p setting value s.firstEvent)

/-! ### AUDIT_UNIT (R142) -/

/-- The checks of AUDIT_UNIT on the unit's state (R142). -/
def State.auditAllowed (s : State) (u : UnitId) : Bool :=
  let r := s.units.get u
  (decide (r.state = .locked) || decide (r.state = .jammed) || decide (r.state = .uncertain)) &&
    !s.stackDownInto u && decide (r.committed = 0)

/-- The count becomes the audited one and the unit LOCKED (R142). -/
def State.audit (s : State) (u : UnitId) (count : Nat) : State :=
  (s.modUnit u fun r => { r with count := count, state := .locked }).markDirty (recUnit u)

def takeAuditUnit (p : Port) (unit count : Nat) (s : State) : State :=
  s.request p .auditUnit fun s => s.keyed p .auditUnit fun s => s.ranged p .auditUnit (unitOf unit) fun u s =>
    if (s.units.get u).capacity < count then s.refuse p .auditUnit .range
    else if !s.auditAllowed u then s.refuse p .auditUnit .state
    else ((s.audit u count).answer p .auditUnit [countField (s.units.get u).count, countField count]).flush

def execAuditUnit (p : Port) (unit count : Nat) (s : State) : Result := .next (takeAuditUnit p unit count s.firstEvent)

/-! ### EMPTY_UNIT (R148) -/

def takeEmptyUnit (p : Port) (unit keep : Nat) (s : State) : State :=
  s.request p .emptyUnit fun s => s.keyed p .emptyUnit fun s => s.ranged p .emptyUnit (unitOf unit) fun u s =>
    if (s.units.get u).count ≤ keep then s.refuse p .emptyUnit .range
    else if (s.units.get u).state ≠ .locked then s.refuse p .emptyUnit .state
    else if s.hasServiceJob u then s.refuse p .emptyUnit .state
    else if Config.serviceQueueRoom ≤ s.serviceJobs.length then s.refuse p .emptyUnit .queueFull
    else ((s.placeService u .empty ((s.units.get u).count - keep)).answer p .emptyUnit []).settleEvent

def execEmptyUnit (p : Port) (unit keep : Nat) (s : State) : Result := .next (takeEmptyUnit p unit keep s.firstEvent)

/-! ### FLOAT_IN_BEGIN and FLOAT_IN_END (R143, R145) -/

/-- What FLOAT_IN_BEGIN does when its checks pass (R143). -/
def State.beginFloatIn (s : State) (l : Lane) : State :=
  ((s.modLane l fun r => { r with binding := .floatIn }).setOwner l .floatIn).modTally l fun _ => Twelve.replicate 0

def takeFloatInBegin (p : Port) (lane : Nat) (s : State) : State :=
  s.request p .floatInBegin fun s => s.ranged p .floatInBegin (laneOf lane) fun l s =>
    if (s.escrows.get l).needsService then s.refuse p .floatInBegin .state
    else if !s.intakeFree l then s.refuse p .floatInBegin .busy
    else ((s.beginFloatIn l).answer p .floatInBegin []).flush

def execFloatInBegin (p : Port) (lane : Nat) (s : State) : Result := .next (takeFloatInBegin p lane s.firstEvent)

/-- The total value of a tally at the slots' present values, as R145 says. R139 says that a tally keeps the amounts its
pieces were credited with; after a SET_DENOM during float-in the two differ, and the model follows R145 (log 35). -/
def State.tallyValue (s : State) (l : Lane) : Nat :=
  (allSlots.map fun d => (s.tallies.get l).get d * s.slotValue d).sum

/-- The lane's tally: twelve counts and their value (R145). -/
def State.tallyFields (s : State) (l : Lane) : List Field :=
  (allSlots.map fun d => countField ((s.tallies.get l).get d)) ++ [amountField (s.tallyValue l)]

/-- What FLOAT_IN_END does when its check passes (R145). -/
def State.endFloatIn (s : State) (l : Lane) : State :=
  let s := s.unbind l
  if (s.escrows.get l).entries.isEmpty then s.setOwner l .none else s

def takeFloatInEnd (p : Port) (lane : Nat) (s : State) : State :=
  s.request p .floatInEnd fun s => s.ranged p .floatInEnd (laneOf lane) fun l s =>
    if (s.lanes.get l).binding ≠ .floatIn then s.refuse p .floatInEnd .state
    else ((s.endFloatIn l).answer p .floatInEnd (s.tallyFields l)).flush

def execFloatInEnd (p : Port) (lane : Nat) (s : State) : Result := .next (takeFloatInEnd p lane s.firstEvent)

/-! ### CLEAR_JAM and CLEAR_FAULT (R131, R132) -/

def takeClearJam (p : Port) (unit : Nat) (s : State) : State :=
  s.request p .clearJam fun s => s.keyed p .clearJam fun s => s.ranged p .clearJam (unitOf unit) fun u s =>
    if (s.units.get u).state = .jammed then ((s.setUnitState u .locked).answer p .clearJam []).flush
    else s.refuse p .clearJam .state

def execClearJam (p : Port) (unit : Nat) (s : State) : Result := .next (takeClearJam p unit s.firstEvent)

/-- The mechanism becomes READY; its fault cause goes with its FAULT (R131). -/
def State.makeReady (s : State) (k : Kind) : State := s.modMech k fun m => { m with phase := .ready }

def takeClearFault (p : Port) (mechanism : Nat) (s : State) : State :=
  s.request p .clearFault fun s => s.keyed p .clearFault fun s => s.ranged p .clearFault (kindOf mechanism) fun k s =>
    if !s.mechFault k then s.refuse p .clearFault .state
    else if (s.mechs.get k).sense then s.refuse p .clearFault .state
    else ((s.makeReady k).answer p .clearFault []).settleEvent

def execClearFault (p : Port) (mechanism : Nat) (s : State) : Result := .next (takeClearFault p mechanism s.firstEvent)

/-! ### CLEAR_ESCROW (R45) -/

/-- The escrow that CLEAR_ESCROW acts on: ORPHAN and IDLE, or FAULT (R45). -/
def Escrow.clearable (e : Escrow) : Bool :=
  (decide (e.owner = .orphan) && decide (e.status = .idle)) || decide (e.status = .fault)

/-- KEEP adds a value to the refund amount and to the requests of a REFUNDING owner sale (R45; log 19). -/
def State.keepForSale (s : State) (l : Lane) (tag v : Nat) : State :=
  let s := s.modSale l tag fun x => { x with refund := x.refund.map fun r => boundAmount (r + v) }
  let s := if 0 < v then s.placeRequest l tag .refund v else s
  s.settleTest l tag

/-- KEEP takes the stack from its owner and queues its stack-down; an empty stack has none to queue (R45). -/
def State.keepStack (s : State) (l : Lane) : State :=
  if (s.escrows.get l).entries.isEmpty then (s.setOwner l .none).setEscrowStatus l .idle
  else ((s.setOwner l .stacking).setEscrowStatus l .idle).placeStackDown l

/-- What CLEAR_ESCROW KEEP does (R45). -/
def State.keepEscrow (s : State) (l : Lane) : State :=
  let credited := s.entriesValue l fun e => decide (e.credit = .sale)
  match (s.escrows.get l).owner with
  | .sale tag => (s.keepStack l).keepForSale l tag credited
  | _ => s.keepStack l

def takeClearEscrow (p : Port) (lane action : Nat) (s : State) : State :=
  s.request p .clearEscrow fun s => s.keyed p .clearEscrow fun s => s.ranged p .clearEscrow (laneOf lane) fun l s =>
    s.ranged p .clearEscrow (escrowActionOf action) fun a s =>
      if !(s.escrows.get l).clearable then s.refuse p .clearEscrow .state
      else
        match a with
        | .giveBack => ((s.answer p .clearEscrow []).beginReturn l).settleEvent
        | .keep =>
          ((s.answer p .clearEscrow [amountField (s.entriesValue l fun _ => true)]).keepEscrow l).settleEvent

def execClearEscrow (p : Port) (lane action : Nat) (s : State) : Result := .next (takeClearEscrow p lane action s.firstEvent)

/-! ### CASHBOX_CLEARED (R150) -/

/-- A cashbox record: twelve counts and the total (R13, R150). -/
def Cashbox.countFields (b : Cashbox) : List Field := b.counts.toList.map countField ++ [countField b.total]

/-- Every count of the box becomes 0 (R150). -/
def State.clearBox (s : State) (k : Kind) : State :=
  (s.modBox k fun b => { b with counts := Twelve.replicate 0 }).markDirty (recBox k)

def takeCashboxCleared (p : Port) (box : Nat) (s : State) : State :=
  s.request p .cashboxCleared fun s => s.keyed p .cashboxCleared fun s =>
    s.ranged p .cashboxCleared (kindOf box) fun k s =>
      ((s.clearBox k).answer p .cashboxCleared (s.boxes.get k).countFields).settleEvent

def execCashboxCleared (p : Port) (box : Nat) (s : State) : Result := .next (takeCashboxCleared p box s.firstEvent)

/-! ### RESTART (R159) -/

/-- RESTART is answered; the warm reset follows when the reply has been sent (`takeReplySent`). -/
def takeRestart (p : Port) (s : State) : State :=
  s.request p .restart fun s => s.keyed p .restart fun s => s.answer p .restart []

def execRestart (p : Port) (s : State) : Result := .next (takeRestart p s.firstEvent)

/-! ### COUNTER_SET (R183) -/

/-- The select that the parameters of COUNTER_SET spell, none where one is out of range (R183). -/
def selectOf (event laneMask slotMask mode threshold invert : Nat) : Option Select :=
  match sampleKindOf event, counterLanesOf laneMask, counterSlotsOf slotMask, counterModeOf mode, flagOf invert with
  | some e, some lm, some sm, some m, some i =>
    if threshold ≤ 16 then
      some { event := e, laneMask := lm, slotMask := sm, mode := m, threshold := threshold, invert := i }
    else none
  | _, _, _, _, _ => none

/-- A counter starts afresh with a select (R183). -/
def State.startCounter (s : State) (n : Fin 8) (x : Select) : State :=
  ({ s with counters := s.counters.set n { select := x, value := 0, edge := false } }).markDirty recSelects

def takeCounterSet (p : Port) (counter event laneMask slotMask mode threshold invert : Nat) (s : State) : State :=
  s.request p .counterSet fun s => s.ranged p .counterSet (counterOf counter) fun n s =>
    s.ranged p .counterSet (selectOf event laneMask slotMask mode threshold invert) fun x s =>
      ((s.startCounter n x).answer p .counterSet [quadField (s.counters.get n).value]).flush

def execCounterSet (p : Port) (counter event laneMask slotMask mode threshold invert : Nat) (s : State) : Result :=
  .next (takeCounterSet p counter event laneMask slotMask mode threshold invert s.firstEvent)

end Sys2Proof.Machine
end

