-- ==== Sys2Proof/Machine/Reads.lean ====
section
/-! DEFINITION. The reads of every port, READ_EVENTS and SET_EVENT_MASK. Each is answered at once; the reads change
no state but the port's transmitter (R21, R79, R88, R111, R133, R151, R165, R184). Layouts that the spec leaves to
R168 follow the order of the rule (log 12). -/

namespace Sys2Proof.Machine

/-- A read: a range check, then the fields of the reply. -/
def State.reply {α : Type} (s : State) (p : Port) (c : Command) (x : Option α) (fields : State → α → List Field) : State :=
  s.request p c fun s => s.ranged p c x fun a s => s.answer p c (fields s a)

/-! ### COUNTER_READ (R184) -/

/-- A counter from event select to edge state: 12 bytes (R184). -/
def Counter.fields (c : Counter) : List Field :=
  [byteField (sampleKindCode c.select.event), byteField c.select.laneMask.toNat, maskField c.select.slotMask,
    byteField (counterModeCode c.select.mode), byteField c.select.threshold, flagField c.select.invert,
    quadField c.value, flagField c.edge]

def takeCounterRead (p : Port) (counter : Nat) (s : State) : State :=
  s.reply p .counterRead (counterOf counter) fun s n => (s.counters.get n).fields

def execCounterRead (p : Port) (counter : Nat) (s : State) : Result := .next (takeCounterRead p counter s.firstEvent)

/-! ### READ_DENOM, READ_UNIT, READ_CASHBOX (R21) -/

/-- The fields of a slot, in the order of R1. -/
def Denom.fields (x : Denom) : List Field :=
  [amountField x.value, byteField (kindCode x.kind), flagField x.enabled, flagField x.accept, flagField x.recycle,
    countField x.lowWater]

def takeReadDenom (p : Port) (slot : Nat) (s : State) : State :=
  s.reply p .readDenom (slotOf slot) fun s d => (s.denoms.get d).fields

def execReadDenom (p : Port) (slot : Nat) (s : State) : Result := .next (takeReadDenom p slot s.firstEvent)

/-- The lanes that a unit serves at this moment, bit 0 for A, bit 1 for B (R21). -/
def State.servedCode (s : State) (u : UnitId) : Nat := flagCode (s.serves u .a) + 2 * flagCode (s.serves u .b)

/-- The unit record in the order of R4, the free count, the lanes served (R21). -/
def State.unitFields (s : State) (u : UnitId) : List Field :=
  let r := s.units.get u
  [slotField r.slot, countField r.count, countField r.committed, countField r.capacity, countField r.highWater,
    countField r.sweepTarget, byteField (laneMaskCode r.mask), byteField (unitStateCode r.state), countField r.free,
    byteField (s.servedCode u)]

def takeReadUnit (p : Port) (unit : Nat) (s : State) : State :=
  s.reply p .readUnit (unitOf unit) fun s u => s.unitFields u

def execReadUnit (p : Port) (unit : Nat) (s : State) : Result := .next (takeReadUnit p unit s.firstEvent)

/-- The counts, the total, the capacity, FULL (R21). -/
def State.boxFields (s : State) (k : Kind) : List Field :=
  (s.boxes.get k).countFields ++ [countField (s.boxes.get k).capacity, flagField (s.boxFull k)]

def takeReadCashbox (p : Port) (box : Nat) (s : State) : State :=
  s.reply p .readCashbox (kindOf box) fun s k => s.boxFields k

def execReadCashbox (p : Port) (box : Nat) (s : State) : Result := .next (takeReadCashbox p box s.firstEvent)

/-! ### READ_RESERVATIONS (R79) -/

/-- An entry: tag, lane, hold time remaining, counts (R79). -/
def State.reservationFields (s : State) (r : Reservation) : List Field :=
  [tagField r.tag, byteField (laneCode r.lane), holdField (some (secondsLeft s.now r.ends))] ++
    countsFields (some r.counts)

/-- The sums of a slot: reserved total, reserved_A, reserved_B, backing (R79). -/
def State.slotSums (s : State) (d : Slot) : List Field :=
  [countField (s.reservedTotal d), countField (s.reservedLane .a d), countField (s.reservedLane .b d),
    countField (s.backing d)]

/-- The entries oldest first, then the sums of each slot (R79). -/
def State.reservationListFields (s : State) : List Field :=
  listFields (s.reservations.map s.reservationFields) ++ (allSlots.map s.slotSums).flatten

def takeReadReservations (p : Port) (s : State) : State :=
  s.reply p .readReservations (some ()) fun s _ => s.reservationListFields

def execReadReservations (p : Port) (s : State) : Result := .next (takeReadReservations p s.firstEvent)

/-! ### READ_FLOORS (R88) -/

/-- The 12 floors, lane state, floor state, need flag, floor-blocked tag, asked slots (R88). -/
def State.floorFields (s : State) (l : Lane) : List Field :=
  let r := s.lanes.get l
  ((s.floors.get l).toList.map countField) ++
    [flagField r.opened, flagField (!r.holding), flagField r.need, tagField (r.blockedSale.getD 0), maskField r.asked]

def takeReadFloors (p : Port) (lane : Nat) (s : State) : State :=
  s.reply p .readFloors (laneOf lane) fun s l => s.floorFields l

def execReadFloors (p : Port) (lane : Nat) (s : State) : Result := .next (takeReadFloors p lane s.firstEvent)

/-! ### READ_QUEUE (R111) -/

/-- A job: origin, class, unit, ordered, done, destination, in-flight mark, stopped mark (R111). -/
def Job.fields (j : Job) : List Field :=
  originFields j.origin ++
    [byteField j.origin.cls, byteField (sourceCode j.source), countField j.ordered, countField j.done,
      byteField (destCode j.dest), flagField j.inFlight, flagField j.stopped]

/-- The jobs of a place, head first (R90, R111). -/
def State.jobsAt (s : State) : Place → List Job
  | .lane l => s.laneJobs.get l
  | .service => s.serviceJobs
  | .stackDown => s.stackJobs

/-- The delivery counts of a lane queue's lane and their paused states (R111). -/
def State.deliveryFields (s : State) : Place → List Field
  | .lane l =>
    [byteField (s.lanes.get l).cup, byteField (s.lanes.get l).outlet, flagField (s.cupPaused l),
      flagField (s.outletPaused l)]
  | .service => []
  | .stackDown => []

/-- The turn states and the mechanisms' states (R111). An allowance takes one byte, the model's choice (log 12). -/
def State.turnFields (s : State) : List Field :=
  [byteField (laneCode s.turns.coin.holder), byteField s.turns.coin.allowance, byteField (laneCode s.turns.note.holder),
    byteField s.turns.note.allowance, byteField (phaseCode s.mechs.coin.phase), byteField (phaseCode s.mechs.note.phase)]

def State.queueFields (s : State) (x : Place) : List Field :=
  listFields ((s.jobsAt x).map Job.fields) ++ s.deliveryFields x ++ s.turnFields

def takeReadQueue (p : Port) (place : Nat) (s : State) : State :=
  s.reply p .readQueue (placeOf place) fun s x => s.queueFields x

def execReadQueue (p : Port) (place : Nat) (s : State) : Result := .next (takeReadQueue p place s.firstEvent)

/-! ### READ_MECHANISM (R133) -/

/-- The position of a job in a place, counted from 1 at the head; none where it is not there. -/
def positionIn (serial : Nat) (js : List Job) : Option Nat :=
  if js.any fun j => decide (j.serial = serial) then
    some ((js.takeWhile fun j => decide (j.serial ≠ serial)).length + 1)
  else none

/-- Place, position and origin of the job in flight (R133). A position takes one byte, the model's choice (log 12). -/
def State.jobPlaceFields (s : State) (serial : Nat) : List Field :=
  let at? := fun (code : Nat) (js : List Job) => (positionIn serial js).map fun n => [byteField code, byteField n]
  let place :=
    ((((at? 0 s.laneJobs.a).or (at? 1 s.laneJobs.b)).or (at? 2 s.serviceJobs)).or (at? 3 s.stackJobs)).getD []
  place ++
    match s.findJob serial with
    | some j => originFields j.origin
    | none => []

/-- State, with the cause in FAULT; the sense level; the ejection in EJECTING (R133). The attempt takes one byte, the
model's choice (log 12). -/
def State.mechanismFields (s : State) (k : Kind) : List Field :=
  let m := s.mechs.get k
  let sense := flagField m.sense
  match m.phase with
  | .ready => [byteField (phaseCode m.phase), sense]
  | .fault c => [byteField (phaseCode m.phase), byteField (faultCauseCode (some c)), sense]
  | .ejecting e =>
    [byteField (phaseCode m.phase), sense] ++ s.jobPlaceFields e.job ++
      [byteField (sourceCode e.source), byteField (destCode e.dest), byteField e.attempt, flagField e.faultPending]

def takeReadMechanism (p : Port) (mechanism : Nat) (s : State) : State :=
  s.reply p .readMechanism (kindOf mechanism) fun s k => s.mechanismFields k

def execReadMechanism (p : Port) (mechanism : Nat) (s : State) : Result := .next (takeReadMechanism p mechanism s.firstEvent)

/-! ### READ_SERVICE (R151) -/

/-- A transfer result in the order of R149; the fields of an absent one beyond its kind are free (log 16). -/
def transferFields : Option Transfer → List Field
  | some t =>
    [byteField (transferKindCode (some t.kind)), countField t.requested, countField t.moved,
      byteField (transferEndCode t.ended)]
  | none =>
    [byteField (transferKindCode none), ⟨2, (Config.openField .absentRequested).toNat⟩,
      ⟨2, (Config.openField .absentMoved).toNat⟩, ⟨1, ((Config.openField .absentEnd).setWidth 8).toNat⟩]

/-- A lane's intake binding and float-in tally (R151). -/
def State.intakeFields (s : State) (l : Lane) : List Field :=
  bindingFields (s.lanes.get l).binding ++ (s.tallies.get l).toList.map countField

/-- The key line, each lane's intake, the twelve transfer results (R151). -/
def State.serviceFields (s : State) : List Field :=
  [flagField s.key] ++ s.intakeFields .a ++ s.intakeFields .b ++ (s.transfers.toList.map transferFields).flatten

def takeReadService (p : Port) (s : State) : State :=
  s.reply p .readService (some ()) fun s _ => s.serviceFields

def execReadService (p : Port) (s : State) : Result := .next (takeReadService p s.firstEvent)

/-! ### READ_STORE (R165) -/

/-- The dirty set as a set of record numbers. -/
def dirtyMask (ds : List (RecordNo × Nat)) : BitVec 22 := ds.foldl (fun m e => m ||| BitVec.ofNat 22 (2 ^ e.1.val)) 0

/-- The writer's state and the record in write, free while the writer is IDLE (log 16). A record number takes one byte,
the model's choice (log 12). -/
def writerFields : Writer → List Field
  | .idle => [byteField 0, ⟨1, ((Config.openField .idleRecord).setWidth 8).toNat⟩]
  | .writing x => [byteField 1, byteField x.record.val]

/-- The fields of READ_STORE (R165). The scan position takes one byte, the model's choice (log 12). -/
def State.storeFields (s : State) : List Field :=
  [flagField s.pfw, flagField s.armed] ++ writerFields s.writer ++
    [byteField s.scan.val, recordSetField (dirtyMask s.dirty)] ++ (s.dirty.map fun e => timeField (s.now - e.2)) ++
    [flagField s.flushComplete, byteField (restartCauseCode s.lastCause), recordSetField s.lastFailed]

def takeReadStore (p : Port) (s : State) : State := s.reply p .readStore (some ()) fun s _ => s.storeFields

def execReadStore (p : Port) (s : State) : Result := .next (takeReadStore p s.firstEvent)

/-! ### READ_EVENTS (R176) -/

/-- The full boxes: coin, note or both, coded in that order (R14, R168; log 12). -/
def fullBoxesCode (coin note : Bool) : Nat := if coin then (if note then 2 else 0) else 1

/-- A mechanism's fault cause, absent while it is not in FAULT (R173). -/
def Phase.cause : Phase → Option FaultCause
  | .fault c => some c
  | .ready => none
  | .ejecting _ => none

/-- A lane port's fields of its own lane. -/
def ofLane (p : Port) (f : Lane → List Field) : List Field :=
  match p.lane with
  | some l => f l
  | none => []

/-- A latched kind's fields from its detail. -/
def ofDetail {α : Type} (x : Option α) (f : α → List Field) : List Field :=
  match x with
  | some a => f a
  | none => []

/-- The detail of a pending kind at a port (R173). -/
def State.eventDetail (s : State) (p : Port) (k : EventKind) : List Field :=
  let e := s.events.get p
  match k with
  | .restarted => ofDetail e.restarted fun x => [byteField (restartCauseCode x.1), recordSetField x.2]
  | .mechFault =>
    [byteField (faultCauseCode s.mechs.coin.phase.cause), byteField (faultCauseCode s.mechs.note.phase.cause)]
  | .unitJammed => [maskField (s.unitsIn .jammed)]
  | .escrowFault => ofDetail e.escrowFault fun x => [byteField (laneCode x.1), tagField x.2]
  | .planWithdrawn => listFields (e.withdrawn.map fun t => [tagField t])
  | .planExpired => listFields (e.expired.map fun t => [tagField t])
  | .saleFinished => listFields (e.finished.map fun x => [tagField x.1, byteField (saleStateCode x.2)])
  | .floorAsked => ofLane p fun l => [maskField (s.lanes.get l.other).asked]
  | .floorGranted => ofDetail e.granted fun t => [tagField t]
  | .cupFull => ofLane p fun l => [byteField (s.lanes.get l).cup, byteField s.limits.cup]
  | .outletFull => ofLane p fun l => [byteField (s.lanes.get l).outlet, byteField s.limits.outlet]
  | .strayCredit => ofDetail e.strayRise fun v => [amountField v]
  | .lowStock => [maskField s.lowStockMask]
  | .cashboxFull => [byteField (fullBoxesCode (s.boxFull .coin) (s.boxFull .note))]
  | .unitUncertain => [maskField (s.unitsIn .uncertain)]
  | .counterWrap => ofDetail e.wrapped fun n => [byteField n.val]
  | .transferDone =>
    ofDetail e.transferDone fun x => [byteField x.1.val, byteField (transferKindCode (some x.2.1)), countField x.2.2]

/-- The pending kinds of a port in ascending code. -/
def State.pendingKinds (s : State) (p : Port) : List EventKind := allEventKinds.filter fun k => s.pendingAt p k

/-- The pending bitmap: bit k - 1 for kind k, three bytes (R176). -/
def pendingBitmap (ks : List EventKind) : Nat := (ks.map fun k => 2 ^ (k.code - 1)).sum

/-- The reply of READ_EVENTS: mask, bitmap, then each pending kind with its detail (R176). -/
def State.eventFields (s : State) (p : Port) : List Field :=
  let ks := s.pendingKinds p
  [⟨2, (s.events.get p).mask.toNat⟩, ⟨3, pendingBitmap ks⟩] ++
    (ks.map fun k => byteField k.code :: s.eventDetail p k).flatten

/-- Every latched kind is cleared, with its detail or its list; the mask stays (R176). -/
def EventSet.cleared (e : EventSet) : EventSet := { EventSet.clear with mask := e.mask }

def takeReadEvents (p : Port) (s : State) : State :=
  s.request p .readEvents fun s => (s.answer p .readEvents (s.eventFields p)).modEvents p EventSet.cleared

def execReadEvents (p : Port) (s : State) : Result := .next (takeReadEvents p s.firstEvent)

/-! ### SET_EVENT_MASK (R177) -/

def takeSetEventMask (p : Port) (mask : Nat) (s : State) : State :=
  s.request p .setEventMask fun s =>
    if mask < 65536 then
      (s.modEvents p fun e => { e with mask := BitVec.ofNat 16 mask }).answer p .setEventMask [⟨2, mask⟩]
    else s.refuse p .setEventMask .range

def execSetEventMask (p : Port) (mask : Nat) (s : State) : Result := .next (takeSetEventMask p mask s.firstEvent)

end Sys2Proof.Machine
end

