-- ==== Sys2Proof/Machine/Reports.lean ====
section
/-! DEFINITION. The reports of the module's lines: piece reports (01_cash_stores.md, 02_sales_lanes_and_escrow.md,
07_float_service.md), sensors, timers and faults of the mechanisms (06_coin_and_note_mechanisms.md), escrow, cup,
outlet and key. Without supply the block takes no report; a line's level is seen when it starts (log 6). -/

namespace Sys2Proof.Machine

/-- An event of a block with supply. -/
def State.whenPowered (s : State) (body : State → State) : State := if s.powered then body s else s

/-! ### COIN_PIECE_REPORT (R16, R17, R35, R37, R144) -/

/-- The head is bound to FLOAT_IN. -/
def State.floatHead (s : State) (l : Lane) : Bool := decide ((s.lanes.get l).binding = .floatIn)

/-- Where a reported coin goes: its route, else the coin cashbox even when FULL (R16, R17). -/
def State.coinStore (s : State) (l : Lane) (d : Slot) : Store :=
  if s.taken .coin d then (s.route .coin d (s.floatHead l)).getD .cashbox else .cashbox

/-- PIECE_TO_CASHBOX (R180). -/
def State.sampleToCashbox (s : State) (x : SampleLane) (d : Slot) : State :=
  s.sample { kind := .pieceToCashbox, lane := x, slots := some (slotBit d), value := 1 }

/-- PIECE_IN (R180). -/
def State.samplePieceIn (s : State) (l : Lane) (d : Slot) : State :=
  s.sample { kind := .pieceIn, lane := .lane l, slots := some (slotBit d), value := 1 }

/-- A piece enters the chosen store and is counted there (R16, R17, R128). -/
def State.storePiece (s : State) (k : Kind) (l : Lane) (d : Slot) : Store → State
  | .unit u => s.countIn u
  | .cashbox => (s.boxIn k d).sampleToCashbox (.lane l) d

/-- The float-in tally of a slot rises by 1 (R144). -/
def State.tallyPiece (s : State) (l : Lane) (d : Slot) : State := s.modTally l fun t => t.modify d (· + 1)

/-- What a taken coin's value goes to, by the head's binding (R35, R37, R144). -/
def State.creditCoin (s : State) (l : Lane) (d : Slot) : State :=
  match (s.lanes.get l).binding with
  | .sale tag => s.creditSale l tag .coin (s.slotValue d)
  | .none => s.addStray l (s.slotValue d)
  | .floatIn => s.tallyPiece l d

/-- The unit that a stored piece calls for a sweep check on, none under float-in (R16, R144, R146). -/
def checkedUnit (floatIn : Bool) : Store → List UnitId
  | .unit u => if floatIn then [] else [u]
  | .cashbox => []

/-- A coin report, up to the closing of its event. -/
def State.takeCoin (s : State) (l : Lane) (d : Slot) : State :=
  let store := s.coinStore l d
  let s := { s with coinPaths := s.coinPaths.set l (some store) }
  let s := (s.samplePieceIn l d).storePiece .coin l d store
  if s.taken .coin d then s.creditCoin l d else s

def takeCoinPieceReport (l : Lane) (d : Slot) (s : State) : State :=
  s.whenPowered fun s => (s.takeCoin l d).conclude false [] (checkedUnit (s.floatHead l) (s.coinStore l d))

def execCoinPieceReport (l : Lane) (d : Slot) (s : State) : Result := .next (takeCoinPieceReport l d s.firstEvent)

/-! ### NOTE_PIECE_REPORT (R40, R144, R145) -/

/-- The entrance takes a note: the stack is not RETURNING and has room (R40). -/
def Escrow.takesNote (e : Escrow) : Bool :=
  (match e.status with
    | .returning _ => false
    | .idle => true
    | .fault => true) && decide (e.entries.length < Config.escrowRoom)

/-- A note goes on top of the stack; the sensor no longer shows empty (R40; log 10). -/
def State.pushNote (s : State) (l : Lane) (d : Slot) (c : Credit) : State :=
  (s.modEscrow l fun e =>
    { e with entries := e.entries ++ [{ slot := d, credit := c, inTransit := false }], sensorEmpty := false }).markDirty
    (recEscrow l)

/-- The note just pushed joins the escrow's class 0 job, or a new one is queued (R144). -/
def State.joinStackDown (s : State) (l : Lane) : State :=
  match s.stackJobOf l with
  | some _ => s.growStackDown l
  | none => s.placeStackDown l

/-- A pushed note by the head's binding and the stack's owner (R40, R144, R145). -/
def State.takeNote (s : State) (l : Lane) (d : Slot) : State :=
  let v := s.slotValue d
  match (s.lanes.get l).binding with
  | .sale tag => (s.pushNote l d .sale).creditSale l tag .note v
  | .floatIn => ((s.pushNote l d .floatIn).tallyPiece l d).joinStackDown l
  | .none =>
    if (s.escrows.get l).owner = .none then
      (((s.pushNote l d .stray).setOwner l .stray).placeStackDown l).addStray l v
    else ((s.pushNote l d .stray).growStackDown l).addStray l v

def takeNotePieceReport (l : Lane) (d : Slot) (s : State) : State :=
  s.whenPowered fun s =>
    if s.taken .note d && (s.escrows.get l).takesNote then ((s.samplePieceIn l d).takeNote l d).conclude false [] []
    else s

def execNotePieceReport (l : Lane) (d : Slot) (s : State) : Result := .next (takeNotePieceReport l d s.firstEvent)

/-! ### The end of an ejection (R115, R118, R130) -/

/-- The ejection in flight at a mechanism. -/
def State.ejection (s : State) (k : Kind) : Option Ejection :=
  match (s.mechs.get k).phase with
  | .ejecting e => some e
  | .ready => none
  | .fault _ => none

/-- The mechanism takes a state. -/
def State.setPhase (s : State) (k : Kind) (x : Phase) : State := s.modMech k fun m => { m with phase := x }

/-- The state after an ejection: FAULT with cause FAULT_SENSE where fault pending is set, else READY (R130). -/
def Ejection.after (e : Ejection) : Phase := if e.faultPending then .fault .faultSense else .ready

/-- The job's in-flight mark clears (R115). -/
def State.landJob (s : State) (serial : Nat) : State := s.modJob serial fun j => { j with inFlight := false }

/-- The ejection ends: the record is cleared and the mark with it (R115, R118). -/
def State.endEjection (s : State) (k : Kind) (e : Ejection) (x : Phase) : State := (s.setPhase k x).landJob e.job

/-- The lane of a job's samples: the sale's, or service (R180). -/
def Origin.sampleLane : Origin → SampleLane
  | .sale l _ => .lane l
  | .stackDown => .service
  | .sweep => .service
  | .empty => .service

/-- A STOPPED job leaves with its undone pieces released (R108). -/
def State.removeStopped (s : State) (j : Job) (u : UnitId) : State := (s.dropJob j.serial).release u j.undone

/-! ### EXIT_SENSOR_REPORT (R115 to R117, R125 to R127) -/

/-- PAUSE by a delivered piece (R105, R180). -/
def State.samplePause (s : State) (l : Lane) (slots : Mask12) : State :=
  s.sample { kind := .pause, lane := .lane l, slots := some slots, value := 1 }

/-- The count of a cup or outlet rises up to its limit; reaching it is a pause (R103, R105, R116). -/
def State.bump (s : State) (x : Dest) (slots : Mask12) : State :=
  match x with
  | .cup l =>
    if (s.lanes.get l).cup < s.limits.cup then
      let s := s.modLane l fun r => { r with cup := r.cup + 1 }
      if s.cupPaused l then s.samplePause l slots else s
    else s
  | .outlet l =>
    if (s.lanes.get l).outlet < s.limits.outlet then
      let s := s.modLane l fun r => { r with outlet := r.outlet + 1 }
      if s.outletPaused l then s.samplePause l slots else s
    else s
  | .cashbox _ => s
  | .drum _ => s
  | .routed => s

/-- The sale's paid and overpaid values rise: a PAYING or REFUNDING sale's, or for a stopped job the STOPPED sale's
(R116, R126; log 20). -/
def State.payPiece (s : State) (l : Lane) (tag : Nat) (stopped : Bool) (paid extra : Nat) : State :=
  s.modSale l tag fun x =>
    if (stopped && decide (x.state = .stopped)) ||
        (!stopped && (decide (x.state = .paying) || decide (x.state = .refunding))) then
      { x with paid := satAdd x.paid paid, overpaid := satAdd x.overpaid extra }
    else x

/-- A class 2 piece enters the cashbox of the unit's kind under the unit's slot, and counts as moved (R115, R149). -/
def State.moveToCashbox (s : State) (u : UnitId) : State :=
  match (s.units.get u).slot with
  | none => s.transferMoved u
  | some d => ((s.boxIn (unitKind u) d).transferMoved u).sampleToCashbox .service d

/-- A piece reaches its job's destination: `extra` is its value where it is an extra piece (R115, R116, R126). -/
def State.deliver (s : State) (j : Job) (u : UnitId) (extra : Nat) : State :=
  let s := s.sample { kind := .pieceOut, lane := j.origin.sampleLane, slots := some (s.unitSlotMask u), value := 1 }
  match j.origin with
  | .sale l tag => (s.bump j.dest (s.unitSlotMask u)).payPiece l tag j.stopped (s.unitValue u) extra
  | .stackDown => s
  | .sweep => s.moveToCashbox u
  | .empty => s.moveToCashbox u

/-- One piece of the job is detected (R115, R116). -/
def State.countPiece (s : State) (j : Job) (u : UnitId) : State :=
  ((s.countOut u).modJob j.serial fun j => { j with done := j.done + 1 }).deliver j u 0

/-- The extra piece of a double piece (R126). -/
def State.countExtra (s : State) (j : Job) (u : UnitId) : State :=
  ((s.modUnit u fun r => { r with count := r.count - 1 }).markDirty (recUnit u)).deliver j u (s.unitValue u)

/-- The jobs left in the queue of a class 1 or class 2 job. -/
def State.queueLength (s : State) : Origin → Nat
  | .sale l _ => (s.laneJobs.get l).length
  | .stackDown => s.stackJobs.length
  | .sweep => s.serviceJobs.length
  | .empty => s.serviceJobs.length

/-- QUEUE_DEPTH (R180). -/
def State.sampleDepth (s : State) (o : Origin) : State :=
  s.sample { kind := .queueDepth, lane := o.sampleLane, slots := none, value := s.queueLength o }

/-- A class 2 job's transfer ends with it (R149). -/
def State.endTransferOf (s : State) (j : Job) (u : UnitId) (x : TransferEnd) : State :=
  match j.origin with
  | .sale _ _ => s
  | .stackDown => s
  | .sweep => s.endTransfer u x
  | .empty => s.endTransfer u x

/-- The job completes and leaves its place, or leaves as a stopped one, or stays (R115, R108). `j` is the job with
its new done count. A job marked stopped whose last piece is detected matches two rows of R91; it leaves by completion, with
QUEUE_DEPTH: the model's choice (log 37). -/
def State.closeJob (s : State) (j : Job) (u : UnitId) : State :=
  if j.ordered ≤ j.done then ((s.dropJob j.serial).sampleDepth j.origin).endTransferOf j u .complete
  else if j.stopped then s.removeStopped j u
  else s

/-- The job on the unit that was created last (R127). -/
def State.lastJobOn (s : State) (u : UnitId) : Option Job := (sortBySerial (s.allJobs.filter fun j => j.onUnit u)).getLast?

/-- A job is shortened by one piece, after an extra piece left committed above count (R127). -/
def State.shortenJob (s : State) (j : Job) (u : UnitId) : State :=
  let s := (s.modJob j.serial fun j => { j with ordered := j.ordered - 1 }).release u 1
  let s :=
    match j.origin with
    | .sale l tag => s.placeRequest l tag .replan (s.unitValue u)
    | .stackDown => s
    | .sweep => s
    | .empty => s
  if j.ordered - 1 ≤ j.done then (s.dropJob j.serial).endTransferOf j u .complete else s

/-- R127, where it applies. -/
def State.shorten (s : State) (u : UnitId) : State :=
  if (s.units.get u).count < (s.units.get u).committed then
    match s.lastJobOn u with
    | some j => s.shortenJob j u
    | none => s
  else s

/-- The settlement test of a job's sale (R109, R110); a STOPPED sale has none (R108). -/
def State.settleJob (s : State) (j : Job) : State :=
  match j.origin with
  | .sale l tag => if j.stopped then s else s.settleTest l tag
  | .stackDown => s
  | .sweep => s
  | .empty => s

/-- The report of two pieces for a job with one undone piece brings an extra piece (R126). -/
def extraPiece (j : Job) (pieces : Pieces) : Bool := decide (pieces = .two) && decide (j.undone ≤ 1)

/-- The pieces of a report that count toward the job (R115, R125). -/
def ownPieces (j : Job) (pieces : Pieces) : Nat := if pieces = .two ∧ 2 ≤ j.undone then 2 else 1

/-- The pieces of a report are counted: the job's own, then the extra one (R115, R125, R126). -/
def State.countPieces (s : State) (j : Job) (u : UnitId) (pieces : Pieces) : State :=
  let s := s.countPiece j u
  let s := if ownPieces j pieces = 2 then s.countPiece j u else s
  if extraPiece j pieces then s.countExtra j u else s

/-- A detection for a class 1 or class 2 job, up to the closing of its event. -/
def State.detect (s : State) (k : Kind) (e : Ejection) (j : Job) (u : UnitId) (pieces : Pieces) : State :=
  let s := (s.countPieces j u pieces).endEjection k e e.after
  let s := (s.closeJob { j with done := j.done + ownPieces j pieces } u).lockIfDone u
  let s := if extraPiece j pieces then s.shorten u else s
  s.settleJob j

def takeExitSensorReport (k : Kind) (pieces : Pieces) (s : State) : State :=
  s.whenPowered fun s =>
    match s.ejection k with
    | none => s
    | some e =>
      match e.source with
      | .escrow _ => s
      | .unit u =>
        match s.findJob e.job with
        | none => (s.endEjection k e e.after).conclude e.faultPending [] []
        | some j => (s.detect k e j u pieces).conclude (extraPiece j pieces || e.faultPending) [] []

def execExitSensorReport (k : Kind) (pieces : Pieces) (s : State) : Result := .next (takeExitSensorReport k pieces s.firstEvent)

/-! ### ENTRY_SENSOR_REPORT (R117, R128, R129) -/

/-- The sensor stands at the destination. -/
def sensorAt : EntrySensor → Dest → Bool
  | .drum d, .drum e => decide (d = e)
  | .noteCashbox, .cashbox .note => true
  | _, _ => false

/-- The store that a stack-down's destination is. -/
def Dest.store : Dest → Store
  | .drum d => .unit d.unit
  | .cup _ => .cashbox
  | .outlet _ => .cashbox
  | .cashbox _ => .cashbox
  | .routed => .cashbox

/-- The slot of the entry in transit. -/
def Escrow.movingSlot (e : Escrow) : Option Slot := (e.entries.find? EscrowEntry.inTransit).map EscrowEntry.slot

/-- The entry in transit leaves the stack (R42). -/
def State.popNote (s : State) (l : Lane) : State :=
  (s.modEscrow l fun e => { e with entries := e.entries.filter fun n => !n.inTransit }).markDirty (recEscrow l)

/-- The last entry has gone: the job completes, and the owner becomes none but for a float-in that goes on
(R42, R128, R144). -/
def State.closeStack (s : State) (l : Lane) (serial : Nat) : State :=
  if (s.escrows.get l).entries.isEmpty then
    let s := s.dropJob serial
    if (s.escrows.get l).owner = .floatIn ∧ s.floatHead l = true then s else s.setOwner l .none
  else s

/-- The mechanism after a stack-down's report: FAULT on fault pending or on two notes (R129, R130; log 18). -/
def Ejection.afterStack (e : Ejection) (pieces : Pieces) : Phase :=
  if e.faultPending then .fault .faultSense
  else
    match pieces with
    | .one => .ready
    | .two => .fault .stackDouble

/-- A note of a stack-down is detected at its destination (R128, R129). -/
def State.stackDetected (s : State) (e : Ejection) (l : Lane) (pieces : Pieces) : State :=
  let slot := (s.escrows.get l).movingSlot
  let s := s.popNote l
  let s :=
    match slot with
    | some d => s.storePiece .note l d e.dest.store
    | none => s
  let s := s.modJob e.job fun j => { j with done := j.done + 1 }
  (s.endEjection .note e (e.afterStack pieces)).closeStack l e.job

def takeEntrySensorReport (x : EntrySensor) (pieces : Pieces) (s : State) : State :=
  s.whenPowered fun s =>
    match s.ejection .note with
    | none => s
    | some e =>
      match e.source with
      | .unit _ => s
      | .escrow l =>
        if sensorAt x e.dest then
          (s.stackDetected e l pieces).conclude (e.afterStack pieces).isFault []
            (checkedUnit (decide ((s.escrows.get l).owner = EscrowOwner.floatIn)) e.dest.store)
        else s

def execEntrySensorReport (x : EntrySensor) (pieces : Pieces) (s : State) : Result :=
  .next (takeEntrySensorReport x pieces s.firstEvent)

/-! ### EJECT_TIMEOUT (R118, R121 to R123, R129) -/

/-- The in-transit marks of a stack clear (R42, R129). -/
def State.clearTransit (s : State) (l : Lane) : State :=
  s.modEscrow l fun e => { e with entries := e.entries.map fun n => { n with inTransit := false } }

/-- A retry: the attempt rises, and a new timer starts (R118). -/
def State.retry (s : State) (k : Kind) (e : Ejection) : State :=
  s.setPhase k (.ejecting { e with attempt := e.attempt + 1, ends := s.now + Config.ejectTimeout k })

/-- The live sale that a job is of. -/
def Job.liveSale (j : Job) : Option (Lane × Nat) :=
  match j.origin with
  | .sale l tag => if j.stopped then none else some (l, tag)
  | .stackDown => none
  | .sweep => none
  | .empty => none

/-- The job is a SWEEP or EMPTY job (R89). -/
def Job.isTransfer (j : Job) : Bool := decide (j.origin.cls = 2)

/-- The sales of removed jobs, in the order of their earliest ones; the jobs stand in the order of creation (R122). -/
def salesOf (gone : List Job) : List (Lane × Nat) := (gone.filterMap Job.liveSale).eraseDups

/-- The undone pieces of a sale's removed jobs (R122). -/
def undoneOf (gone : List Job) (l : Lane) (tag : Nat) : Nat := ((gone.filter fun j => j.ofSale l tag).map Job.undone).sum

/-- Class 1: the undone value of each sale's removed jobs is placed as one REPLAN request of the sale (R122). -/
def State.replanRemoved (s : State) (u : UnitId) (gone : List Job) : State :=
  (salesOf gone).foldl (fun s x => s.placeRequest x.1 x.2 .replan (undoneOf gone x.1 x.2 * s.unitValue u)) s

/-- Class 2: the transfer of a removed job ends early (R122). -/
def State.endRemoved (s : State) (u : UnitId) (gone : List Job) : State :=
  if gone.any Job.isTransfer then s.endTransfer u .jam else s

/-- The unit's third miss jams it (R121); a LOCKED unit stays (R123; log 29). -/
def UnitState.jams : UnitState → Bool
  | .active => true
  | .lockPending => true
  | .locked => false
  | .jammed => false
  | .uncertain => false
  | .absent => false

/-- JAM (R180). -/
def State.sampleJam (s : State) (j : Job) (u : UnitId) : State :=
  s.sample { kind := .jam, lane := j.origin.sampleLane, slots := some (s.unitSlotMask u), value := 1 }

/-- Every job on the unit leaves, in the order of creation, and nothing of the unit stays committed (R121 to R123). -/
def State.dismissJobs (s : State) (u : UnitId) : State :=
  let gone := sortBySerial (s.allJobs.filter fun j => j.onUnit u)
  let s := (s.dropJobs fun j => j.onUnit u).modUnit u fun r => { r with committed := 0 }
  (s.replanRemoved u gone).endRemoved u gone

/-- The third miss (R121, R123). -/
def State.thirdMiss (s : State) (k : Kind) (e : Ejection) (j : Job) (u : UnitId) : State :=
  let s := s.endEjection k e .ready
  let s := if (s.units.get u).state.jams then s.setUnitState u .jammed else s
  (s.dismissJobs u).sampleJam j u

/-- A miss of a stack-down (R129, R130). -/
def State.stackMiss (s : State) (e : Ejection) (l : Lane) : State :=
  (s.clearTransit l).endEjection .note e (.fault (if e.faultPending then .faultSense else .stackTimeout))

/-- A miss with fault pending or for a stopped job: no retry (R118, R130, R108). -/
def State.lastMiss (s : State) (k : Kind) (e : Ejection) (j : Job) (u : UnitId) : State :=
  let s := s.endEjection k e e.after
  if j.stopped then s.removeStopped j u else s

/-- A miss of an ejection from a unit (R118). -/
def State.unitMiss (s : State) (k : Kind) (e : Ejection) (u : UnitId) : State :=
  match s.findJob e.job with
  | none => (s.endEjection k e e.after).conclude e.faultPending [] []
  | some j =>
    if e.faultPending || j.stopped then (s.lastMiss k e j u).conclude e.faultPending [] []
    else if e.attempt < Config.maxAttempts then s.retry k e
    else (s.thirdMiss k e j u).conclude (s.units.get u).state.jams [] []

def takeEjectTimeout (k : Kind) (s : State) : State :=
  s.whenPowered fun s =>
    match s.ejection k with
    | none => s
    | some e =>
      match e.source with
      | .unit u => (s.advanceTo e.ends).unitMiss k e u
      | .escrow l => ((s.advanceTo e.ends).stackMiss e l).conclude true [] []

def execEjectTimeout (k : Kind) (s : State) : Result := .next (takeEjectTimeout k s.firstEvent)

/-! ### FAULT_SENSE_ACTIVE (R130) -/

/-- The line becomes active at a block with supply (R130). -/
def State.senseFault (s : State) (k : Kind) : State :=
  match (s.mechs.get k).phase with
  | .ready => (s.setPhase k (.fault .faultSense)).conclude true [] []
  | .ejecting e => s.setPhase k (.ejecting { e with faultPending := true })
  | .fault _ => s

def takeFaultSenseActive (k : Kind) (level : Bool) (s : State) : State :=
  let rises := level && !(s.mechs.get k).sense
  let t := s.modMech k fun m => { m with sense := level }
  if rises && s.powered then t.senseFault k else t

def execFaultSenseActive (k : Kind) (level : Bool) (s : State) : Result := .next (takeFaultSenseActive k level s.firstEvent)

/-! ### ESCROW_EMPTY_REPORT and RETURN_TIMEOUT (R43, R186) -/

def takeEscrowEmptyReport (l : Lane) (empty : Bool) (s : State) : State :=
  let t := s.modEscrow l fun e => { e with sensorEmpty := empty }
  if empty && s.powered then
    match (s.escrows.get l).status with
    | .returning _ => (t.returnSucceeds l).settleEvent
    | .idle => t
    | .fault => t
  else t

def execEscrowEmptyReport (l : Lane) (empty : Bool) (s : State) : Result := .next (takeEscrowEmptyReport l empty s.firstEvent)

def takeReturnTimeout (l : Lane) (s : State) : State :=
  s.whenPowered fun s =>
    match (s.escrows.get l).status with
    | .returning ends => (s.advanceTo ends).returnFails l
    | .idle => s
    | .fault => s

def execReturnTimeout (l : Lane) (s : State) : Result := .next (takeReturnTimeout l s.firstEvent)

/-! ### CUP_CLEARED and OUTLET_CLEARED (R103) -/

def takeCupCleared (l : Lane) (s : State) : State :=
  s.whenPowered fun s => (s.modLane l fun r => { r with cup := 0 }).settleEvent

def execCupCleared (l : Lane) (s : State) : Result := .next (takeCupCleared l s.firstEvent)

def takeOutletCleared (l : Lane) (s : State) : State :=
  s.whenPowered fun s => (s.modLane l fun r => { r with outlet := 0 }).settleEvent

def execOutletCleared (l : Lane) (s : State) : Result := .next (takeOutletCleared l s.firstEvent)

/-! ### MAINTENANCE_KEY_CHANGE (R134, R135) -/

def takeMaintenanceKeyChange (level : Bool) (s : State) : State := { s with key := level }

def execMaintenanceKeyChange (level : Bool) (s : State) : Result := .next (takeMaintenanceKeyChange level s.firstEvent)

end Sys2Proof.Machine
end

