-- ==== Sys2Proof/Machine/Planning.lean ====
section
/-! DEFINITION. The end of a hold timer (04_reservations_and_lane_floors.md R74) and the plan engine's event
(03_the_change_plan.md R53, R62 to R69; 06_coin_and_note_mechanisms.md R124). -/

namespace Sys2Proof.Machine

/-! ### HOLD_TIMER_EXPIRY (R74, R75) -/

/-- A hold timer ends: the sale's plan lapses, PLAN_EXPIRED and RESERVE_LOST (R74). -/
def State.expire (s : State) (r : Reservation) : State :=
  ((s.lapse r.lane r.tag).raiseExpired r.lane r.tag).sampleLost r

def takeHoldTimerExpiry (l : Lane) (tag : Nat) (s : State) : State :=
  s.whenPowered fun s =>
    match s.reservationOf l tag with
    | some r => ((s.advanceTo r.ends).expire r).conclude false [r] []
    | none => s

def execHoldTimerExpiry (l : Lane) (tag : Nat) (s : State) : Result := .next (takeHoldTimerExpiry l tag s.firstEvent)

/-! ### PLAN_REQUEST_TAKEN: what both kinds of completion share (R61, R69) -/

/-- The outcome of a shortfall (R61). -/
def outcomeOf (shortfall : Nat) : PlanOutcome := if shortfall = 0 then .exact else .short

/-- PLAN_EXACT or PLAN_SHORT (R69, R180). -/
def State.sampleOutcome (s : State) (l : Lane) (o : PlanOutcome) (plan : Plan) : State :=
  s.sample
    { kind := match o with
        | .exact => .planExact
        | .short => .planShort
      lane := .lane l, slots := some (planMask plan), value := 1 }

/-- PLAN_STEPS (R69, R180). -/
def State.sampleSteps (s : State) (l : Lane) (steps : Nat) : State :=
  s.sample { kind := .planSteps, lane := .lane l, slots := none, value := steps }

/-! ### QUOTE completion (R62 to R65) -/

/-- A second search is called for (R62). -/
def State.secondSearch (s : State) (r : PlanReq) (first : SearchResult) : Bool :=
  decide (0 < first.remainder) && decide (r.amount ≤ s.limits.payout) &&
    !(s.shieldedSlots r.lane r.shielded).isEmpty

/-- The second search, where one runs: the shield is lifted (R62). -/
def State.liftedSearch (s : State) (r : PlanReq) (first : SearchResult) : Option SearchResult :=
  if s.secondSearch r first then some (s.searchFor r.lane r.tag r.amount false) else none

/-- The QUOTE is floor-blocked: the second search ends at an exact leaf (R62). -/
def floorBlockedBy (second : Option SearchResult) : Bool :=
  match second with
  | some x => decide (x.remainder = 0)
  | none => false

/-- What the completion writes into the sale (R64). -/
def Sale.quoted (x : Sale) (planned : Nat) (plan : Plan) (shortfall : Nat) (blocked : Bool) : Sale :=
  { x with
    state := .planned, planned := some planned, plan := some plan, outcome := some (outcomeOf shortfall)
    shortfall := shortfall, floorBlocked := blocked }

/-- The fields of the reply to QUOTE (R65). -/
def quoteFields (x : Sale) (plan : Plan) (planned shortfall : Nat) (blocked : Bool) : List Field :=
  [tagField x.tag, byteField (outcomeCode (some (outcomeOf shortfall))), optAmountField x.change, amountField planned,
    amountField shortfall, flagField blocked] ++
  listFields (plan.map fun e => [slotField (some e.1), countField e.2])

/-- The lane's need is set for a floor-blocked sale (R63, R83). -/
def State.setNeed (s : State) (l : Lane) (tag : Nat) (asked : Mask12) : State :=
  s.modLane l fun r => { r with blockedSale := some tag, asked := asked }

/-- FLOOR_BLOCKED with the asked slots (R69, R180). -/
def State.sampleBlocked (s : State) (l : Lane) (asked : Mask12) : State :=
  s.sample { kind := .floorBlocked, lane := .lane l, slots := some asked, value := 1 }

/-- The reservation of a completed quote joins at the tail, with its hold timer (R64, R73). -/
def State.reserve (s : State) (l : Lane) (tag : Nat) (plan : Plan) : State :=
  { s with
    reservations := s.reservations ++ [{ lane := l, tag := tag, counts := plan, ends := s.now + s.limits.hold * 1000 }] }

/-- The completion of a QUOTE, with the inputs of both searches read from the state at the taking (R53, R64). -/
def State.completeQuote (s : State) (r : PlanReq) (x : Sale) : State :=
  let first := s.searchFor r.lane r.tag r.amount r.shielded
  let second := s.liftedSearch r first
  let plan := s.planOf first
  let planned := s.plannedAmount r.amount
  let shortfall := s.shortfallOf r.amount first
  let blocked := floorBlockedBy second
  let asked := slotsMask (s.shieldedSlots r.lane r.shielded)
  let s := s.modSale r.lane r.tag fun y => y.quoted planned plan shortfall blocked
  let s := s.reserve r.lane r.tag plan
  let s := (s.sampleOutcome r.lane (outcomeOf shortfall) plan).sampleSteps r.lane first.steps
  let s :=
    match second with
    | some y => s.sampleSteps r.lane y.steps
    | none => s
  let s := if blocked then (s.setNeed r.lane r.tag asked).sampleBlocked r.lane asked else s
  s.answer r.lane.port .quote (quoteFields x plan planned shortfall blocked)

/-! ### REFUND and REPLAN completion (R66 to R68, R124) -/

/-- The part of an amount that became no job is recorded on the sale (R67). -/
def State.recordUnplanned (s : State) (l : Lane) (tag v : Nat) : State :=
  s.modSale l tag fun x =>
    match x.state with
    | .paying => { x with shortfall := satAdd x.shortfall v }
    | .refunding => { x with refundShortfall := x.refundShortfall.map fun r => satAdd r v }
    | _ => x

/-- Where the jobs of a completion stand: REPLAN behind the sale's last job, others at the tail (R66, R124). -/
def RequestKind.place (k : RequestKind) (l : Lane) (tag : Nat) : List Job → List Job → List Job :=
  match k with
  | .replan => behindLast l tag
  | .refund => atTail
  | .quote => atTail

/-- The completion of a REFUND or a REPLAN, up to the closing of its event (R66 to R69). -/
def State.completeJobs (s : State) (r : PlanReq) : State :=
  let first := s.searchFor r.lane r.tag r.amount r.shielded
  let plan := s.planOf first
  let shortfall := s.shortfallOf r.amount first
  let split := splitPlan r.lane plan s
  let room := Config.laneQueueRoom - (s.laneJobs.get r.lane).length
  let refused := s.sharesValue (split.1.drop room)
  let s := s.placeShares r.lane r.tag (split.1.take room) (r.kind.place r.lane r.tag)
  let s := s.recordUnplanned r.lane r.tag (shortfall + split.2 + refused)
  let s := (s.sampleOutcome r.lane (outcomeOf shortfall) plan).sampleSteps r.lane first.steps
  s.settleTest r.lane r.tag

/-! ### PLAN_REQUEST_TAKEN (R53) -/

/-- The engine takes an entry that has left the list (R53). An entry names a sale of its lane; one that does not (no
run reaches it) is dropped (log 28). -/
def State.plan (s : State) (r : PlanReq) : State :=
  match s.findSale r.lane r.tag with
  | none => s
  | some x =>
    match r.kind with
    | .quote => s.completeQuote r x
    | .refund => (s.completeJobs r).conclude true [] []
    | .replan => (s.completeJobs r).conclude true [] []

def takePlanRequestTaken (s : State) : State :=
  s.whenPowered fun s =>
    match s.planReqs with
    | [] => s
    | r :: rest => { s with planReqs := rest }.plan r

def execPlanRequestTaken (s : State) : Result := .next (takePlanRequestTaken s.firstEvent)

end Sys2Proof.Machine
end

