-- ==== Sys2Proof/Machine/Restart.lean ====
section
/-! DEFINITION. The count store's events, the power-fail warning, the warm reset and the power-on restore
(08_count_store_power_loss_and_restart.md). -/

namespace Sys2Proof.Machine

/-! ### Ejections stopped by the warning or a reset (R120) -/

/-- The unit of a stopped ejection becomes UNCERTAIN; an ABSENT unit has none (R9, R120). -/
def State.makeUncertain (s : State) (u : UnitId) : State :=
  if (s.units.get u).state = .absent then s else s.setUnitState u .uncertain

/-- An ejection in flight ends with no detection (R120). -/
def State.stopEjection (s : State) (k : Kind) : State :=
  match s.ejection k with
  | none => s
  | some e =>
    let s := s.endEjection k e .ready
    match e.source, e.dest with
    | .unit u, _ => s.makeUncertain u
    | .escrow l, .drum d => (s.clearTransit l).makeUncertain d.unit
    | .escrow l, _ => s.clearTransit l

/-- Both mechanisms stop (R120). -/
def State.stopEjections (s : State) : State := (s.stopEjection .coin).stopEjection .note

/-! ### The warm reset (R159 to R161) -/

/-- A unit at a warm reset: nothing committed, LOCK_PENDING becomes LOCKED (R12, R160). -/
def State.resetUnit (s : State) (u : UnitId) : State := (s.modUnit u fun r => { r with committed := 0 }).lockIfDone u

/-- Every unit, in ascending order. -/
def State.resetUnits (s : State) : State := allUnits.foldl State.resetUnit s

/-- An entry after a restart: credited to NONE, not in transit (R39). -/
def EscrowEntry.restarted (e : EscrowEntry) : EscrowEntry := { e with credit := .nothing, inTransit := false }

/-- The owner after a warm reset: ORPHAN if entries remain, none otherwise (R39, R41, R160). R164 lets a stack keep
ORPHAN at a further restart; for a stack without entries the model follows the tables (log 36). -/
def Escrow.restartOwner (e : Escrow) : EscrowOwner := if e.entries.isEmpty then .none else .orphan

/-- A stack at a warm reset; its record joins the dirty set where its owner changes (R39, R160). -/
def State.resetEscrow (s : State) (l : Lane) : State :=
  let s := s.setOwner l (s.escrows.get l).restartOwner
  s.modEscrow l fun e => { e with entries := e.entries.map EscrowEntry.restarted, status := .idle }

/-- A controller after a restart: READY, until the first event after it tests the line (R112, R160, R163; log 11). -/
def Mechanism.restarted (m : Mechanism) : Mechanism := { m with phase := .ready }

/-- A RUNNING transfer result becomes RESTART (R149). -/
def Transfer.restarted (t : Transfer) : Transfer := if t.ended = .running then { t with ended := .restart } else t

/-- A port unit at a warm reset: the frame being sent goes on and answers nothing any more (R166, R169, R170). -/
def PortUnit.restarted (u : PortUnit) : PortUnit :=
  { u with receiver := .hunt, outstanding := none, sending := u.sending.map fun f => { f with answers := false }
           waiting := [] }

/-- The turn state after a restart (R102). -/
def restartTurn (weightA : Nat) : Turn := { holder := .a, allowance := weightA }

/-- What R160 clears and sets beside units and escrows. -/
def State.clearRun (s : State) (cause : RestartCause) : State :=
  { s with
    lanes := s.lanes.map fun r => LaneRec.closed r.weight
    sales := ⟨[], []⟩
    planReqs := []
    reservations := []
    laneJobs := ⟨[], []⟩
    serviceJobs := []
    stackJobs := []
    turns := ⟨restartTurn s.lanes.a.weight, restartTurn s.lanes.a.weight⟩
    mechs := s.mechs.map Mechanism.restarted
    retest := true
    tallies := ⟨Twelve.replicate 0, Twelve.replicate 0⟩
    transfers := s.transfers.map fun t => t.map Transfer.restarted
    ports := s.ports.map PortUnit.restarted
    events := s.events.map fun _ => EventSet.afterRestart cause 0
    lastCause := cause }

/-- A warm reset (R160, R161). -/
def State.warmReset (s : State) (cause : RestartCause) : State :=
  ((((s.stopEjections.resetUnits).resetEscrow .a).resetEscrow .b).clearRun cause).flush

def takeResetLine (s : State) : State := s.whenPowered fun s => s.warmReset .resetLine

def execResetLine (s : State) : Result := .next (takeResetLine s.firstEvent)

/-! ### The power-fail warning (R157, R158) -/

def takePfwActive (s : State) : State :=
  if s.pfw then s
  else if s.powered then (({ s with pfw := true, armed := true }).stopEjections).conclude true [] []
  else { s with pfw := true }

def execPfwActive (s : State) : Result := .next (takePfwActive s.firstEvent)

def takePfwInactive (s : State) : State :=
  if !s.pfw then s
  else if !s.powered then { s with pfw := false }
  else if s.armed then ({ s with pfw := false, armed := false }).warmReset .pfwRecovery
  else ({ s with pfw := false }).settleEvent

def execPfwInactive (s : State) : Result := .next (takePfwInactive s.firstEvent)

/-! ### The record writer's events (R155) -/

/-- The earliest time at which a dirty record is eligible (R154). -/
def earliestEligible : List (RecordNo × Nat) → Option Nat
  | [] => none
  | e :: es =>
    match earliestEligible es with
    | none => some (e.2 + Config.dirtyDelay)
    | some t => some (min (e.2 + Config.dirtyDelay) t)

/-- The clock moves to the first eligibility, unless PFW makes records eligible at once (R154; log 3). -/
def State.awaitEligible (s : State) : State :=
  if s.pfw then s
  else
    match earliestEligible s.dirty with
    | some t => s.advanceTo t
    | none => s

def takeWriteBegin (s : State) : State :=
  s.whenPowered fun s =>
    match s.writer with
    | .idle => s.awaitEligible.startWrite
    | .writing _ => s

def execWriteBegin (s : State) : Result := .next (takeWriteBegin s.firstEvent)

/-- The scan position after a record (R155). -/
def scanAfter (r : RecordNo) : RecordNo := if h : r.val + 1 < 22 then ⟨r.val + 1, h⟩ else 0

def takeWriteComplete (s : State) : State :=
  s.whenPowered fun s =>
    match s.writer with
    | .idle => s
    | .writing x => ({ s with store := s.store.put x, writer := .idle, scan := scanAfter x.record }).startWrite

def execWriteComplete (s : State) : Result := .next (takeWriteComplete s.firstEvent)

/-! ### POWER_LOSS (R156) -/

/-- The supply is gone; a write in progress is cut off (R156). -/
def State.losePower (s : State) : State :=
  match s.writer with
  | .idle => { s with powered := false }
  | .writing x => { s with powered := false, store := s.store.tear x, writer := .idle }

def takePowerLoss (s : State) : State := s.whenPowered State.losePower

def execPowerLoss (s : State) : Result := .next (takePowerLoss s.firstEvent)

/-! ### The judging of records (R153) -/

/-- The content of a good record: its check value matches and every field is in range. -/
def Cell.good {α : Type} (ok : α → Bool) : Cell α → Option α
  | .whole x => if ok x then some x else none
  | .torn => none
  | .blank => none

/-- Nothing has ever been written to the record. -/
def Cell.isBlank {α : Type} : Cell α → Bool
  | .blank => true
  | .whole _ => false
  | .torn => false

/-- The store is blank when all 22 records are blank. -/
def CountStore.isBlank (c : CountStore) : Bool :=
  c.denoms.isBlank && c.settings.isBlank && c.floors.isBlank && c.limits.isBlank && c.weights.isBlank &&
    c.selects.isBlank && (allUnits.all fun u => (c.units.get u).isBlank) && c.boxes.coin.isBlank &&
    c.boxes.note.isBlank && c.escrows.a.isBlank && c.escrows.b.isBlank

/-- No two enabled slots have the same value (R1). -/
def distinctValues (t : Twelve Denom) : Bool :=
  allSlots.all fun d => allSlots.all fun e =>
    decide (d = e) || !(t.get d).enabled || !(t.get e).enabled || decide ((t.get d).value ≠ (t.get e).value)

def denomsInRange (t : Twelve Denom) : Bool := (t.toList.all Denom.inRange) && distinctValues t

def settingsInRange (t : Twelve UnitSettings) : Bool := allUnits.all fun u => (t.get u).inRange (unitKind u)

def floorsInRange (t : PerLane (Twelve Nat)) : Bool := (t.a.toList ++ t.b.toList).all fun n => decide (n ≤ 255)

def LimitsImage.inRange (x : LimitsImage) : Bool :=
  Setting.payoutLimit.inRange x.limits.payout && Setting.pieceLimit.inRange x.limits.piece &&
    Setting.effortLimit.inRange x.limits.effort && Setting.holdTime.inRange x.limits.hold &&
    Setting.cupLimit.inRange x.limits.cup && Setting.outletLimit.inRange x.limits.outlet &&
    (Setting.cashboxCapacity .coin).inRange x.coinCapacity && (Setting.cashboxCapacity .note).inRange x.noteCapacity

def weightsInRange (w : PerLane Nat) : Bool := (Setting.weight .a).inRange w.a && (Setting.weight .b).inRange w.b

def selectsInRange (t : Eight Select) : Bool := t.toList.all fun x => decide (x.threshold ≤ 16)

/-- A unit record against the restored settings: its count within capacity, and 0 where the slot is none. -/
def UnitImage.fits (x : UnitSettings) (i : UnitImage) : Bool :=
  decide (i.count ≤ x.capacity) && (x.slot.isSome || decide (i.count = 0))

def EscrowOwner.inRange : EscrowOwner → Bool
  | .sale t => decide (1 ≤ t ∧ t ≤ 65535)
  | _ => true

def EscrowImage.inRange (i : EscrowImage) : Bool := decide (i.slots.length ≤ Config.escrowRoom) && i.owner.inRange

/-! ### What each record restores (R162) -/

def CountStore.goodDenoms (c : CountStore) : Option (Twelve Denom) := c.denoms.good denomsInRange
def CountStore.goodSettings (c : CountStore) : Option (Twelve UnitSettings) := c.settings.good settingsInRange
def CountStore.goodFloors (c : CountStore) : Option (PerLane (Twelve Nat)) := c.floors.good floorsInRange
def CountStore.goodLimits (c : CountStore) : Option LimitsImage := c.limits.good LimitsImage.inRange
def CountStore.goodWeights (c : CountStore) : Option (PerLane Nat) := c.weights.good weightsInRange
def CountStore.goodSelects (c : CountStore) : Option (Eight Select) := c.selects.good selectsInRange

/-- The denomination table restored (R2). -/
def CountStore.restoredDenoms (c : CountStore) : Twelve Denom := c.goodDenoms.getD (Twelve.replicate Denom.default)

/-- The unit settings restored (R4, R12). -/
def CountStore.restoredSettings (c : CountStore) : Twelve UnitSettings :=
  c.goodSettings.getD (Twelve.tabulate UnitSettings.default)

/-- The floors restored (R80). -/
def CountStore.restoredFloors (c : CountStore) : PerLane (Twelve Nat) :=
  c.goodFloors.getD ⟨Twelve.replicate 0, Twelve.replicate 0⟩

/-- The default content of the limits record (R54, R72, R104, R13). -/
def LimitsImage.default : LimitsImage :=
  { limits := Limits.default, coinCapacity := defaultBoxCapacity .coin, noteCapacity := defaultBoxCapacity .note }

/-- The limits restored. -/
def CountStore.restoredLimits (c : CountStore) : LimitsImage := c.goodLimits.getD LimitsImage.default

/-- The weights restored (R22). -/
def CountStore.restoredWeights (c : CountStore) : PerLane Nat := c.goodWeights.getD ⟨defaultWeight, defaultWeight⟩

/-- The counter selects restored (R179). -/
def CountStore.restoredSelects (c : CountStore) : Eight Select := c.goodSelects.getD (Eight.tabulate fun _ => Select.default)

def CountStore.goodUnit (c : CountStore) (u : UnitId) : Option UnitImage :=
  (c.units.get u).good (UnitImage.fits (c.restoredSettings.get u))

/-- The state of a restored unit with a slot, from a good record's state (R12, R162). -/
def restoredState (kindFits : Bool) (x : UnitState) : UnitState :=
  if !kindFits then .uncertain
  else
    match x with
    | .lockPending => .locked
    | .absent => .locked
    | .active => .active
    | .locked => .locked
    | .jammed => .jammed
    | .uncertain => .uncertain

/-- A restored unit (R12, R162; an ABSENT record under a slot of another kind, DEDUCED: log 30). -/
def CountStore.restoredUnit (c : CountStore) (u : UnitId) : UnitRec :=
  let x := c.restoredSettings.get u
  match x.slot, c.goodUnit u with
  | none, _ => x.toUnit 0 .absent
  | some _, none => x.toUnit 0 .uncertain
  | some d, some i =>
    let kindFits := decide ((c.restoredDenoms.get d).kind = unitKind u)
    x.toUnit (if i.state = .absent then 0 else i.count) (restoredState kindFits i.state)

def CountStore.goodBox (c : CountStore) (k : Kind) : Option (Twelve Nat) := (c.boxes.get k).good fun _ => true

/-- A restored cashbox (R15). -/
def CountStore.restoredBox (c : CountStore) (k : Kind) : Cashbox :=
  { counts := (c.goodBox k).getD (Twelve.replicate 0)
    capacity := match k with
      | .coin => c.restoredLimits.coinCapacity
      | .note => c.restoredLimits.noteCapacity }

def CountStore.goodEscrow (c : CountStore) (l : Lane) : Option EscrowImage := (c.escrows.get l).good EscrowImage.inRange

/-- A restored stack; the sensor's level is the line's (R39, R162). A good record with owner ORPHAN and no entries
restores none, as the tables say and not as R164 (log 36). -/
def CountStore.restoredEscrow (c : CountStore) (l : Lane) (sensorEmpty : Bool) : Escrow :=
  let slots := ((c.goodEscrow l).map EscrowImage.slots).getD []
  let failed := !c.isBlank && (c.goodEscrow l).isNone
  { entries := slots.map fun d => { slot := d, credit := .nothing, inTransit := false }
    owner := if failed || !slots.isEmpty then .orphan else .none
    status := .idle
    sensorEmpty := sensorEmpty }

/-! ### The failed-record set and the dirty set (R153, R162) -/

/-- The record is good. -/
def CountStore.isGood (c : CountStore) (r : RecordNo) : Bool :=
  if r.val = 0 then c.goodDenoms.isSome
  else if r.val = 1 then c.goodSettings.isSome
  else if r.val = 2 then c.goodFloors.isSome
  else if r.val = 3 then c.goodLimits.isSome
  else if r.val = 4 then c.goodWeights.isSome
  else if r.val = 5 then c.goodSelects.isSome
  else if h : 6 ≤ r.val ∧ r.val < 18 then (c.goodUnit ⟨r.val - 6, by omega⟩).isSome
  else if r.val = 18 then (c.goodBox .coin).isSome
  else if r.val = 19 then (c.goodBox .note).isSome
  else if r.val = 20 then (c.goodEscrow .a).isSome
  else (c.goodEscrow .b).isSome

/-- A set of records as a mask. -/
def recordMask (rs : List RecordNo) : BitVec 22 := rs.foldl (fun m r => m ||| BitVec.ofNat 22 (2 ^ r.val)) 0

/-- The failed-record set of a power-on (R153). -/
def CountStore.failedSet (c : CountStore) : BitVec 22 :=
  if c.isBlank then 0 else recordMask (allRecords.filter fun r => !c.isGood r)

/-- The content that a record holds whole. -/
def CountStore.content (c : CountStore) (r : RecordNo) : Option Image :=
  if r.val = 0 then (c.denoms.good fun _ => true).map .denoms
  else if r.val = 1 then (c.settings.good fun _ => true).map .settings
  else if r.val = 2 then (c.floors.good fun _ => true).map .floors
  else if r.val = 3 then (c.limits.good fun _ => true).map .limits
  else if r.val = 4 then (c.weights.good fun _ => true).map .weights
  else if r.val = 5 then (c.selects.good fun _ => true).map .selects
  else if h : 6 ≤ r.val ∧ r.val < 18 then
    ((c.units.get ⟨r.val - 6, by omega⟩).good fun _ => true).map (.unit ⟨r.val - 6, by omega⟩)
  else if r.val = 18 then (c.boxes.coin.good fun _ => true).map (.cashbox .coin)
  else if r.val = 19 then (c.boxes.note.good fun _ => true).map (.cashbox .note)
  else if r.val = 20 then (c.escrows.a.good fun _ => true).map (.escrow .a)
  else (c.escrows.b.good fun _ => true).map (.escrow .b)

/-- The records whose restored source differs from what they hold; none of a blank store (R162). -/
def State.restoredDirty (s : State) : List (RecordNo × Nat) :=
  if s.store.isBlank then []
  else (allRecords.filter fun r => decide (s.store.content r ≠ some (s.image r))).map fun r => (r, s.now)

/-! ### POWER_ON (R162, R163) -/

/-- The sources loaded from the store, and everything else at its power-on value. -/
def State.load (s : State) : State :=
  let c := s.store
  let w := c.restoredWeights
  { s with
    powered := true
    denoms := c.restoredDenoms
    units := Twelve.tabulate c.restoredUnit
    boxes := ⟨c.restoredBox .coin, c.restoredBox .note⟩
    limits := c.restoredLimits.limits
    floors := c.restoredFloors
    lanes := w.map LaneRec.closed
    sales := ⟨[], []⟩
    escrows := ⟨c.restoredEscrow .a s.escrows.a.sensorEmpty, c.restoredEscrow .b s.escrows.b.sensorEmpty⟩
    planReqs := []
    reservations := []
    laneJobs := ⟨[], []⟩
    serviceJobs := []
    stackJobs := []
    turns := ⟨restartTurn w.a, restartTurn w.a⟩
    mechs := s.mechs.map Mechanism.restarted
    retest := true
    tallies := ⟨Twelve.replicate 0, Twelve.replicate 0⟩
    transfers := Twelve.replicate none
    ports := ⟨PortUnit.clear, PortUnit.clear, PortUnit.clear⟩
    events := s.events.map fun _ => EventSet.afterRestart .powerOn c.failedSet
    counters := Eight.tabulate fun n => { select := c.restoredSelects.get n, value := 0, edge := false }
    armed := false
    dirty := []
    writer := .idle
    scan := 0
    lastCause := .powerOn
    lastFailed := c.failedSet
    coinPaths := ⟨none, none⟩ }

/-- The restore: the sources, then the dirty set they leave (R162). -/
def State.restore (s : State) : State := { s.load with dirty := s.load.restoredDirty }.flush

/-- A power-on that finds supply follows a loss of it (log 6). -/
def takePowerOn (s : State) : State := (takePowerLoss s).restore

def execPowerOn (s : State) : Result := .next (takePowerOn s.firstEvent)

end Sys2Proof.Machine
end

