-- ==== Sys2Proof/Machine/Links.lean ====
section
/-! DEFINITION. The events of a link (09_ports_frames_and_events.md): bytes and frames received (R166, R167, R170),
replies made by the port unit itself (R169, R170), the last byte of a reply (R169, R170). -/

namespace Sys2Proof.Machine

/-! ### BUSY_REPLY and UNKNOWN_REPLY (R170) -/

def takeBusyReply (p : Port) (command : Byte) (s : State) : State :=
  s.whenPowered fun s => if s.isOutstanding p then s.busyFrame p command else s

def execBusyReply (p : Port) (command : Byte) (s : State) : Result := .next (takeBusyReply p command s.firstEvent)

/-- A command byte that names no command, or none that the port may send (R170, R172). -/
def unknownAt (p : Port) (command : Byte) : Bool :=
  match commandOfByte command with
  | some c => !c.permitted p
  | none => true

/-- A frame whose command byte the port does not know, by R170 steps 1 and 2. -/
def State.refuseUnknown (s : State) (p : Port) (command : Byte) : State :=
  if s.isOutstanding p then s.busyFrame p command
  else (s.setOutstanding p command).refuseByte p command .unknown

def takeUnknownReply (p : Port) (command : Byte) (s : State) : State :=
  s.whenPowered fun s => if unknownAt p command then s.refuseUnknown p command else s

def execUnknownReply (p : Port) (command : Byte) (s : State) : Result := .next (takeUnknownReply p command s.firstEvent)

/-! ### FRAME_DISCARD and INTER_BYTE_TIMEOUT (R166) -/

/-- The receiver returns to HUNT; what it kept is discarded (R166). -/
def State.discardFrame (s : State) (p : Port) : State := s.modPort p fun u => { u with receiver := .hunt }

def takeFrameDiscard (p : Port) (s : State) : State := s.whenPowered fun s => s.discardFrame p

def execFrameDiscard (p : Port) (s : State) : Result := .next (takeFrameDiscard p s.firstEvent)

/-- When more than 10 ms have passed since the last byte, in whole ms (R166). -/
def PortUnit.pauseEnds (u : PortUnit) : Nat := u.lastByteAt + Config.interByteLimit + 1

def takeInterByteTimeout (p : Port) (s : State) : State :=
  s.whenPowered fun s =>
    if (s.ports.get p).receiver = .hunt then s
    else (s.advanceTo (s.ports.get p).pauseEnds).discardFrame p

def execInterByteTimeout (p : Port) (s : State) : Result := .next (takeInterByteTimeout p s.firstEvent)

/-! ### REPLY_SENT (R159, R169, R170) -/

/-- The OK reply to RESTART (R159). -/
def Frame.isRestart (f : Frame) : Bool := decide (f.command = Command.restart.byte) && decide (f.code = .ok)

/-- The last byte has gone: the request it answers is no longer outstanding, and the next frame starts (R169). -/
def PortUnit.frameSent (u : PortUnit) (f : Frame) (now : Nat) : PortUnit :=
  let outstanding := if f.answers then none else u.outstanding
  match u.waiting with
  | [] => { u with outstanding := outstanding, sending := none }
  | g :: rest => { u with outstanding := outstanding, sending := some g, sendEnds := now + g.sendTime, waiting := rest }

/-- The last byte of RESTART's reply has gone (R169). -/
def PortUnit.idleAfter (u : PortUnit) : PortUnit := { u with outstanding := none, sending := none }

def takeReplySent (p : Port) (s : State) : State :=
  s.whenPowered fun s =>
    match (s.ports.get p).sending with
    | none => s
    | some f =>
      if f.isRestart then (s.modPort p PortUnit.idleAfter).warmReset .restartCommand
      else s.modPort p fun u => u.frameSent f s.now

def execReplySent (p : Port) (s : State) : Result := .next (takeReplySent p s.firstEvent)

/-! ### A frame received (R170) -/

/-- The meaning of a request; any other term leaves the state (no frame spells one). -/
def runRequest (i : Instr) (s : State) : State :=
  match i with
  | .openSale p tag due => takeOpenSale p tag due s
  | .tender p tag => takeTender p tag s
  | .quote p tag => takeQuote p tag s
  | .pay p tag acceptShort => takePay p tag acceptShort s
  | .cancel p tag => takeCancel p tag s
  | .release p tag => takeRelease p tag s
  | .status p lane tag => takeStatus p lane tag s
  | .stop p lane tag => takeStop p lane tag s
  | .laneOpen p => takeLaneOpen p s
  | .laneClose p => takeLaneClose p s
  | .floorHold p => takeFloorHold p s
  | .floorYield p => takeFloorYield p s
  | .lockUnit p unit => takeLockUnit p unit s
  | .unlockUnit p unit => takeUnlockUnit p unit s
  | .writeUnit p unit slot capacity highWater sweepTarget laneMask =>
    takeWriteUnit p unit slot capacity highWater sweepTarget laneMask s
  | .setDenom p slot value kind enabled accept recycle lowWater =>
    takeSetDenom p slot value kind enabled accept recycle lowWater s
  | .setFloor p lane slot count => takeSetFloor p lane slot count s
  | .setLimits p setting value => takeSetLimits p setting value s
  | .auditUnit p unit count => takeAuditUnit p unit count s
  | .emptyUnit p unit keep => takeEmptyUnit p unit keep s
  | .floatInBegin p lane => takeFloatInBegin p lane s
  | .floatInEnd p lane => takeFloatInEnd p lane s
  | .clearJam p unit => takeClearJam p unit s
  | .clearFault p mechanism => takeClearFault p mechanism s
  | .clearEscrow p lane action => takeClearEscrow p lane action s
  | .cashboxCleared p box => takeCashboxCleared p box s
  | .restart p => takeRestart p s
  | .counterSet p counter event laneMask slotMask mode threshold invert =>
    takeCounterSet p counter event laneMask slotMask mode threshold invert s
  | .counterRead p counter => takeCounterRead p counter s
  | .readDenom p slot => takeReadDenom p slot s
  | .readUnit p unit => takeReadUnit p unit s
  | .readCashbox p box => takeReadCashbox p box s
  | .readReservations p => takeReadReservations p s
  | .readFloors p lane => takeReadFloors p lane s
  | .readQueue p place => takeReadQueue p place s
  | .readMechanism p mechanism => takeReadMechanism p mechanism s
  | .readService p => takeReadService p s
  | .readStore p => takeReadStore p s
  | .readEvents p => takeReadEvents p s
  | .setEventMask p mask => takeSetEventMask p mask s
  | .busyReply _ _ => s
  | .unknownReply _ _ => s
  | .frameDiscard _ => s
  | .interByteTimeout _ => s
  | .replySent _ => s
  | .coinPieceReport _ _ => s
  | .notePieceReport _ _ => s
  | .exitSensorReport _ _ => s
  | .entrySensorReport _ _ => s
  | .ejectTimeout _ => s
  | .faultSenseActive _ _ => s
  | .escrowEmptyReport _ _ => s
  | .returnTimeout _ => s
  | .cupCleared _ => s
  | .outletCleared _ => s
  | .holdTimerExpiry _ _ => s
  | .planRequestTaken => s
  | .maintenanceKeyChange _ => s
  | .pfwActive => s
  | .pfwInactive => s
  | .resetLine => s
  | .powerOn => s
  | .powerLoss => s
  | .writeBegin => s
  | .writeComplete => s
  | .byteReceived _ _ => s

/-- A frame with a known command whose parameters have another length than the command's: RANGE at its range check,
after the maintenance mode check (R168, R134; log 27). -/
def State.takeMalformed (s : State) (p : Port) (c : Command) : State :=
  s.request p c fun s => if c.keyed then s.keyed p c fun s => s.refuse p c .range else s.refuse p c .range

/-- A received frame (R170). -/
def State.takeFrame (s : State) (p : Port) (command : Byte) (params : List Byte) : State :=
  match decodeRequest p command params with
  | some i => runRequest i s
  | none =>
    match commandOfByte command with
    | some c => s.takeMalformed p c
    | none => s.refuseUnknown p command

/-! ### BYTE_RECEIVED (R166) -/

/-- The check of a frame with the length and body kept (R167). -/
def frameChecks (len : Nat) (kept : List Byte) (first second : Byte) : Bool :=
  decide (checkBytes (BitVec.ofNat 8 len :: kept) = [first, second])

/-- The receiver after a byte, and the body of a frame that the byte completes (R166). -/
def Receiver.take : Receiver → Byte → Receiver × Option (List Byte)
  | .hunt, b => (if b = requestSync then .length else .hunt, none)
  | .length, b => (if 1 ≤ b.toNat ∧ b.toNat ≤ 60 then .body b.toNat [] else .hunt, none)
  | .body len kept, b =>
    (if len ≤ kept.length + 1 then .check len (kept ++ [b]) none else .body len (kept ++ [b]), none)
  | .check len kept none, b => (.check len kept (some b), none)
  | .check len kept (some first), b => (.hunt, if frameChecks len kept first b then some kept else none)

/-- The receiver that takes a byte at a time: HUNT where more than 10 ms have passed since the last byte (R166). -/
def PortUnit.listening (u : PortUnit) (now : Nat) : Receiver := if u.pauseEnds ≤ now then .hunt else u.receiver

def takeByteReceived (p : Port) (b : Byte) (s : State) : State :=
  s.whenPowered fun s =>
    let r := ((s.ports.get p).listening s.now).take b
    let s := s.modPort p fun u => { u with receiver := r.1, lastByteAt := s.now }
    match r.2 with
    | some (c :: params) => s.takeFrame p c params
    | some [] => s
    | none => s

def execByteReceived (p : Port) (b : Byte) (s : State) : Result := .next (takeByteReceived p b s.firstEvent)

end Sys2Proof.Machine
end

