-- ==== Sys2Proof/Machine/Clock.lean ====
section
/-! DEFINITION. The idle step: the first event after a restart, where one is due (log 11); then the model's clock moves by
1 ms, and the rows of the block's own timers that have come due are queued, in the fixed order below (log 2). -/

namespace Sys2Proof.Machine

/-- The hold timers that have ended (R73, R74). -/
def State.dueHolds (s : State) : List Instr :=
  (s.reservations.filter fun r => decide (r.ends ≤ s.now)).map fun r => .holdTimerExpiry r.lane r.tag

/-- The eject timer of a mechanism has ended (R112). -/
def State.dueEject (s : State) (k : Kind) : List Instr :=
  match s.ejection k with
  | some e => if e.ends ≤ s.now then [.ejectTimeout k] else []
  | none => []

/-- The return timer of a lane has ended (R43). -/
def State.dueReturn (s : State) (l : Lane) : List Instr :=
  match (s.escrows.get l).status with
  | .returning ends => if ends ≤ s.now then [.returnTimeout l] else []
  | .idle => []
  | .fault => []

/-- A port's pause within a frame has lasted too long (R166). -/
def State.duePause (s : State) (p : Port) : List Instr :=
  let u := s.ports.get p
  if u.receiver ≠ .hunt ∧ u.pauseEnds ≤ s.now then [.interByteTimeout p] else []

/-- A port's frame has been sent (R169). -/
def State.dueSent (s : State) (p : Port) : List Instr :=
  let u := s.ports.get p
  if u.sending.isSome && decide (u.sendEnds ≤ s.now) then [.replySent p] else []

/-- The writer, IDLE, finds an eligible record (R155). -/
def State.dueWrite (s : State) : List Instr :=
  match s.writer with
  | .idle => if s.nextRecord.isSome then [.writeBegin] else []
  | .writing _ => []

/-- The plan engine finds a request (R53). -/
def State.duePlan (s : State) : List Instr := if s.planReqs.isEmpty then [] else [.planRequestTaken]

/-- Every row that is due, without supply none. -/
def State.dueCommands (s : State) : List Instr :=
  if s.powered then
    s.dueHolds ++ s.dueEject .coin ++ s.dueEject .note ++ s.dueReturn .a ++ s.dueReturn .b ++ s.duePause .lpA ++
      s.duePause .lpB ++ s.duePause .sp ++ s.dueSent .lpA ++ s.dueSent .lpB ++ s.dueSent .sp ++ s.dueWrite ++ s.duePlan
  else []

/-- The step on an empty queue. -/
def State.tick (s : State) : State :=
  let s := s.firstEvent
  let s := { s with now := s.now + 1 }
  { s with pending := s.dueCommands }

end Sys2Proof.Machine
end

