-- ==== Sys2Proof/Machine/Dispatch.lean ====
section
/-! DEFINITION. One arm per command: each calls its own meaning. -/

namespace Sys2Proof.Machine

def exec (i : Instr) (s : State) : Host.Outcome State Fault Refusal :=
  match i with
  | .openSale port tag due => Sys2Proof.Machine.execOpenSale port tag due s
  | .tender port tag => Sys2Proof.Machine.execTender port tag s
  | .quote port tag => Sys2Proof.Machine.execQuote port tag s
  | .pay port tag acceptShort => Sys2Proof.Machine.execPay port tag acceptShort s
  | .cancel port tag => Sys2Proof.Machine.execCancel port tag s
  | .release port tag => Sys2Proof.Machine.execRelease port tag s
  | .status port lane tag => Sys2Proof.Machine.execStatus port lane tag s
  | .stop port lane tag => Sys2Proof.Machine.execStop port lane tag s
  | .laneOpen port => Sys2Proof.Machine.execLaneOpen port s
  | .laneClose port => Sys2Proof.Machine.execLaneClose port s
  | .floorHold port => Sys2Proof.Machine.execFloorHold port s
  | .floorYield port => Sys2Proof.Machine.execFloorYield port s
  | .lockUnit port unit => Sys2Proof.Machine.execLockUnit port unit s
  | .unlockUnit port unit => Sys2Proof.Machine.execUnlockUnit port unit s
  | .writeUnit port unit slot capacity highWater sweepTarget laneMask => Sys2Proof.Machine.execWriteUnit port unit slot capacity highWater sweepTarget laneMask s
  | .setDenom port slot value kind enabled accept recycle lowWater => Sys2Proof.Machine.execSetDenom port slot value kind enabled accept recycle lowWater s
  | .setFloor port lane slot count => Sys2Proof.Machine.execSetFloor port lane slot count s
  | .setLimits port setting value => Sys2Proof.Machine.execSetLimits port setting value s
  | .auditUnit port unit count => Sys2Proof.Machine.execAuditUnit port unit count s
  | .emptyUnit port unit keep => Sys2Proof.Machine.execEmptyUnit port unit keep s
  | .floatInBegin port lane => Sys2Proof.Machine.execFloatInBegin port lane s
  | .floatInEnd port lane => Sys2Proof.Machine.execFloatInEnd port lane s
  | .clearJam port unit => Sys2Proof.Machine.execClearJam port unit s
  | .clearFault port mechanism => Sys2Proof.Machine.execClearFault port mechanism s
  | .clearEscrow port lane action => Sys2Proof.Machine.execClearEscrow port lane action s
  | .cashboxCleared port box => Sys2Proof.Machine.execCashboxCleared port box s
  | .restart port => Sys2Proof.Machine.execRestart port s
  | .counterSet port counter event laneMask slotMask mode threshold invert => Sys2Proof.Machine.execCounterSet port counter event laneMask slotMask mode threshold invert s
  | .counterRead port counter => Sys2Proof.Machine.execCounterRead port counter s
  | .readDenom port slot => Sys2Proof.Machine.execReadDenom port slot s
  | .readUnit port unit => Sys2Proof.Machine.execReadUnit port unit s
  | .readCashbox port box => Sys2Proof.Machine.execReadCashbox port box s
  | .readReservations port => Sys2Proof.Machine.execReadReservations port s
  | .readFloors port lane => Sys2Proof.Machine.execReadFloors port lane s
  | .readQueue port place => Sys2Proof.Machine.execReadQueue port place s
  | .readMechanism port mechanism => Sys2Proof.Machine.execReadMechanism port mechanism s
  | .readService port => Sys2Proof.Machine.execReadService port s
  | .readStore port => Sys2Proof.Machine.execReadStore port s
  | .readEvents port => Sys2Proof.Machine.execReadEvents port s
  | .setEventMask port mask => Sys2Proof.Machine.execSetEventMask port mask s
  | .busyReply port command => Sys2Proof.Machine.execBusyReply port command s
  | .unknownReply port command => Sys2Proof.Machine.execUnknownReply port command s
  | .frameDiscard port => Sys2Proof.Machine.execFrameDiscard port s
  | .interByteTimeout port => Sys2Proof.Machine.execInterByteTimeout port s
  | .replySent port => Sys2Proof.Machine.execReplySent port s
  | .coinPieceReport head slot => Sys2Proof.Machine.execCoinPieceReport head slot s
  | .notePieceReport head slot => Sys2Proof.Machine.execNotePieceReport head slot s
  | .exitSensorReport mechanism pieces => Sys2Proof.Machine.execExitSensorReport mechanism pieces s
  | .entrySensorReport sensor pieces => Sys2Proof.Machine.execEntrySensorReport sensor pieces s
  | .ejectTimeout mechanism => Sys2Proof.Machine.execEjectTimeout mechanism s
  | .faultSenseActive mechanism level => Sys2Proof.Machine.execFaultSenseActive mechanism level s
  | .escrowEmptyReport lane empty => Sys2Proof.Machine.execEscrowEmptyReport lane empty s
  | .returnTimeout lane => Sys2Proof.Machine.execReturnTimeout lane s
  | .cupCleared lane => Sys2Proof.Machine.execCupCleared lane s
  | .outletCleared lane => Sys2Proof.Machine.execOutletCleared lane s
  | .holdTimerExpiry lane tag => Sys2Proof.Machine.execHoldTimerExpiry lane tag s
  | .planRequestTaken => Sys2Proof.Machine.execPlanRequestTaken s
  | .maintenanceKeyChange level => Sys2Proof.Machine.execMaintenanceKeyChange level s
  | .pfwActive => Sys2Proof.Machine.execPfwActive s
  | .pfwInactive => Sys2Proof.Machine.execPfwInactive s
  | .resetLine => Sys2Proof.Machine.execResetLine s
  | .powerOn => Sys2Proof.Machine.execPowerOn s
  | .powerLoss => Sys2Proof.Machine.execPowerLoss s
  | .writeBegin => Sys2Proof.Machine.execWriteBegin s
  | .writeComplete => Sys2Proof.Machine.execWriteComplete s
  | .byteReceived port byte => Sys2Proof.Machine.execByteReceived port byte s

end Sys2Proof.Machine
end

