-- ==== Sys2Proof/Safety.lean ====
section
/-! DEFINITION. The terms that statements use: which parts of the state two states share, and the laws of the spec
that a good state keeps. -/

namespace Sys2Proof.Machine

/-! ### Parts of the state

Each says that the second state holds the same as the first in one part. Together they name every field of State. -/

/-- The queue of waiting commands. -/
@[simp] abbrev SameQueue (s t : State) : Prop := t.pending = s.pending

/-- The model's clock. -/
@[simp] abbrev SameClock (s t : State) : Prop := t.now = s.now

/-- Supply, key, warning, and what the last restart left (R134, R157, R165). -/
@[simp] abbrev SameSupply (s t : State) : Prop :=
  t.powered = s.powered ∧ t.key = s.key ∧ t.pfw = s.pfw ∧ t.armed = s.armed ∧ t.lastCause = s.lastCause ∧
    t.lastFailed = s.lastFailed

/-- Denomination table, limits, floors (R1, R141, R80). -/
@[simp] abbrev SameConfig (s t : State) : Prop := t.denoms = s.denoms ∧ t.limits = s.limits ∧ t.floors = s.floors

/-- Units and cashboxes (R4, R13). -/
@[simp] abbrev SameStores (s t : State) : Prop := t.units = s.units ∧ t.boxes = s.boxes

/-- Lane records, order lists, escrow stacks (R22, R25, R39). -/
@[simp] abbrev SameLanes (s t : State) : Prop := t.lanes = s.lanes ∧ t.sales = s.sales ∧ t.escrows = s.escrows

/-- Plan request list and reservation list (R48, R70). -/
@[simp] abbrev SamePlans (s t : State) : Prop := t.planReqs = s.planReqs ∧ t.reservations = s.reservations

/-- The four places of jobs (R90). -/
@[simp] abbrev SameJobs (s t : State) : Prop :=
  t.laneJobs = s.laneJobs ∧ t.serviceJobs = s.serviceJobs ∧ t.stackJobs = s.stackJobs ∧ t.nextJob = s.nextJob

/-- Turn states, mechanism controllers, and the test that a restart leaves to them (R101, R112). -/
@[simp] abbrev SameMechs (s t : State) : Prop := t.turns = s.turns ∧ t.mechs = s.mechs ∧ t.retest = s.retest

/-- Float-in tallies and transfer results (R143, R149). -/
@[simp] abbrev SameService (s t : State) : Prop := t.tallies = s.tallies ∧ t.transfers = s.transfers

/-- Port units (R166, R169, R170). -/
@[simp] abbrev SameLinks (s t : State) : Prop := t.ports = s.ports

/-- Event sets and audit counters (R173, R179). -/
@[simp] abbrev SameEvents (s t : State) : Prop := t.events = s.events ∧ t.counters = s.counters

/-- Dirty set, record writer, non-volatile records (R152, R154, R155). -/
@[simp] abbrev SameStore (s t : State) : Prop :=
  t.dirty = s.dirty ∧ t.writer = s.writer ∧ t.scan = s.scan ∧ t.store = s.store

/-- The coin paths (R16). -/
@[simp] abbrev SamePaths (s t : State) : Prop := t.coinPaths = s.coinPaths

/-! ### Requests -/

/-- There is supply, and the first event after the last restart has been (R112, R163). -/
abbrev State.Running (s : State) : Prop := s.powered = true ∧ s.retest = false

/-- The port takes a request: there is supply, and no request is outstanding (R166, R170). -/
def Ready (s : State) (p : Port) : Prop := s.Running ∧ (s.ports.get p).outstanding = none

/-- The request is outstanding and its OK reply is made (R170). -/
def State.replied (s : State) (p : Port) (c : Command) (data : List Field) : State :=
  (s.setOutstanding p c.byte).answer p c data

/-- The request is outstanding and its reply carries another code than OK (R170, R171). -/
def State.refusedWith (s : State) (p : Port) (c : Command) (code : ReplyCode) : State :=
  (s.setOutstanding p c.byte).refuse p c code

/-- Commands that run one after the other, as long as each answers a next state. -/
def runAll : List Instr → State → Result
  | [], s => .next s
  | i :: rest, s =>
    match exec i s with
    | .next t => runAll rest t
    | .fault f => .fault f
    | .refused r => .refused r

/-! ### Sales that end -/

/-- A sale in a final state, with SALE_FINISHED raised at its lane's port (R31). -/
def State.ended (s : State) (l : Lane) (tag : Nat) (st : SaleState) : State :=
  { s with
    sales := s.sales.set l ((s.sales.get l).map fun (y : Sale) => if y.tag = tag then { y with state := st } else y)
    events := s.events.set l.port { s.events.get l.port with
      finished := pushLast (s.events.get l.port).finished (tag, st) } }

/-- The state of a sale after a settlement test: what R109 gives a PAYING sale, and R47 and R110 a REFUNDING one.
`busy`: a job or a request of the sale is left; `owns`: the sale owns its lane's escrow stack. -/
def endState (st : SaleState) (shortfall : Nat) (busy owns : Bool) : SaleState :=
  if busy then st
  else
    match st with
    | .paying => if shortfall = 0 then .settled else .shortSettled
    | .refunding => if owns then .refunding else .cancelled
    | st => st

/-! ### Ejections -/

/-- The unit of an ejection in flight: its source, or the drum that a stack-down is bound for (R120). -/
def State.UnitInFlight (s : State) (u : UnitId) : Prop :=
  ∃ k e, (s.mechs.get k).phase = .ejecting e ∧
    (e.source = .unit u ∨ ∃ l d, e.source = .escrow l ∧ e.dest = .drum d ∧ d.unit = u)

/-- The job's ejection is in flight. -/
def State.jobInFlight (s : State) (serial : Nat) : Bool :=
  decide ((s.ejection .coin).map Ejection.job = some serial) || decide ((s.ejection .note).map Ejection.job = some serial)

/-- A note of the lane's stack is in flight. -/
def State.noteInFlight (s : State) (l : Lane) : Bool :=
  decide ((s.ejection .coin).map Ejection.source = some (.escrow l)) ||
    decide ((s.ejection .note).map Ejection.source = some (.escrow l))

/-! ### Routing -/

/-- The unit may take a piece of the kind and slot: ACTIVE, assigned to the slot, count below a limit (R16, R18). -/
def State.Fits (s : State) (k : Kind) (d : Slot) (limit : UnitRec → Nat) (u : UnitId) : Prop :=
  unitKind u = k ∧ (s.units.get u).slot = some d ∧ (s.units.get u).state = .active ∧
    (s.units.get u).count < limit (s.units.get u)

/-- Among the units that may take the piece, the one with the lowest count, the lower number on equal counts (R16). -/
def State.Emptiest (s : State) (k : Kind) (d : Slot) (limit : UnitRec → Nat) (u : UnitId) : Prop :=
  s.Fits k d limit u ∧ ∀ v, s.Fits k d limit v →
    (s.units.get u).count < (s.units.get v).count ∨ ((s.units.get u).count = (s.units.get v).count ∧ u ≤ v)

/-! ### Samples (R180) -/

/-- Every audit counter has taken its decision on these samples, in this order (R180, R181). -/
def Saw (s t : State) (xs : List Sample) : Prop := ∀ n, t.counters.get n = xs.foldl Counter.after (s.counters.get n)

/-- The samples of a piece that is detected for a class 1 or class 2 job, `i` pieces of the same report before it:
PIECE_OUT, then PAUSE where the piece fills the cup or outlet, or PIECE_TO_CASHBOX. -/
def State.pieceSamples (s : State) (j : Job) (u : UnitId) (i : Nat) : List Sample :=
  let out : Sample := { kind := .pieceOut, lane := j.origin.sampleLane, slots := some (s.unitSlotMask u), value := 1 }
  let pause := fun (l : Lane) => ({ kind := .pause, lane := .lane l, slots := some (s.unitSlotMask u), value := 1 } : Sample)
  let boxed :=
    match (s.units.get u).slot with
    | some d => [({ kind := .pieceToCashbox, lane := .service, slots := some (slotBit d), value := 1 } : Sample)]
    | none => []
  match j.origin with
  | .sale _ _ =>
    out :: (match j.dest with
      | .cup l => if (s.lanes.get l).cup + i + 1 = s.limits.cup then [pause l] else []
      | .outlet l => if (s.lanes.get l).outlet + i + 1 = s.limits.outlet then [pause l] else []
      | _ => [])
  | .stackDown => [out]
  | .sweep => out :: boxed
  | .empty => out :: boxed

/-- QUEUE_DEPTH of a job that completes: the jobs left in its queue after it left. -/
def State.depthSample (s : State) (j : Job) : Sample :=
  let left := fun (js : List Job) => (js.filter fun i => decide (i.serial ≠ j.serial)).length
  { kind := .queueDepth, lane := j.origin.sampleLane, slots := none
    value := match j.origin with
      | .sale l _ => left (s.laneJobs.get l)
      | .stackDown => left s.stackJobs
      | .sweep => left s.serviceJobs
      | .empty => left s.serviceJobs }

/-- The samples of a request's first search: PLAN_EXACT or PLAN_SHORT with the slots of the plan, then PLAN_STEPS. -/
def planSamples (l : Lane) (o : PlanOutcome) (plan : Plan) (steps : Nat) : List Sample :=
  [{ kind := if o = .exact then .planExact else .planShort, lane := .lane l, slots := some (planMask plan), value := 1 },
    { kind := .planSteps, lane := .lane l, slots := none, value := steps }]

/-! ### The search -/

/-- The values that the walk tries, in their order, each as the counts chosen from level 1 down to the level it is tried at:
at each level the largest count first, and below each value the whole of the levels under it before the next (R58). -/
def walkOrder : List (Nat × Nat) → (remaining : Nat) → List (List Nat)
  | [], _ => []
  | (v, u) :: rest, remaining =>
    (List.range (min (remaining / v) u + 1)).reverse.flatMap fun k =>
      [k] :: (walkOrder rest (remaining - k * v)).map fun ks => k :: ks

/-! ### Credit and payout -/

/-- The lane's stray credit rises by a value, up to 999,999, and a rise raises STRAY_CREDIT at the lane's port with the
credit after it; no other lane record and no other event of that port changes (R38). -/
def StrayRise (s t : State) (l : Lane) (v : Nat) : Prop :=
  (s.lanes.get l).stray ≤ 999999 →
    let new := min 999999 ((s.lanes.get l).stray + v)
    t.lanes = s.lanes.set l { s.lanes.get l with stray := new } ∧
      t.events.get l.port = { s.events.get l.port with
        strayRise := if (s.lanes.get l).stray < new then some new else (s.events.get l.port).strayRise }

/-- The unit can pay the lane a piece of the slot: it is of the slot, serves the lane, and has a free piece (R6, R94). -/
def State.CanPay (s : State) (l : Lane) (d : Slot) (u : UnitId) : Prop :=
  (s.units.get u).slot = some d ∧ (s.units.get u).state = .active ∧ (s.units.get u).mask.has l = true ∧
    (s.mechs.get (unitKind u)).phase.isFault = false ∧ (s.units.get u).committed < (s.units.get u).count

/-- Among the units that can pay, the one with the largest free count, the lower-numbered on equal counts (R94). -/
def State.Roomiest (s : State) (l : Lane) (d : Slot) (u : UnitId) : Prop :=
  s.CanPay l d u ∧ ∀ v, s.CanPay l d v →
    (s.units.get v).count - (s.units.get v).committed < (s.units.get u).count - (s.units.get u).committed ∨
      ((s.units.get v).count - (s.units.get v).committed = (s.units.get u).count - (s.units.get u).committed ∧ u ≤ v)

/-! ### Laws of the spec -/

/-- The values of all enabled slots are different (R1). -/
def State.DenomLaw (s : State) : Prop := distinctValues s.denoms = true

/-- A unit's committed number is within its count, and its count within its capacity (R7). -/
def UnitRec.Law (r : UnitRec) : Prop := r.committed ≤ r.count ∧ r.count ≤ r.capacity

/-- R7 for every unit. -/
def State.UnitLaw (s : State) : Prop := ∀ u : UnitId, (s.units.get u).Law

/-- No count passes its capacity (R7), with what keeps it so: high-water marks within the capacities (R4), room at
the drum that a stack-down in flight is bound for (R128), and queued jobs that draw on units only (R89). -/
def State.CapacityLaw (s : State) : Prop :=
  (∀ u : UnitId, (s.units.get u).count ≤ (s.units.get u).capacity ∧
      (s.units.get u).highWater ≤ (s.units.get u).capacity ∧
      (s.stackDownInto u = true → (s.units.get u).count < (s.units.get u).capacity)) ∧
    (∀ l : Lane, ∀ j ∈ s.laneJobs.get l, ∃ u, j.source = .unit u) ∧ ∀ j ∈ s.serviceJobs, ∃ u, j.source = .unit u

/-- An order list holds at most 4 sales, no tag twice, and every tag is 1 to 65,535 (R25, R26). -/
def orderListLaw (xs : List Sale) : Prop :=
  xs.length ≤ Config.orderListRoom ∧ (xs.map Sale.tag).Nodup ∧ ∀ x ∈ xs, 1 ≤ x.tag ∧ x.tag ≤ 65535

/-- R25 for both lanes. -/
def State.OrderLaw (s : State) : Prop := ∀ l : Lane, orderListLaw (s.sales.get l)

/-- No slot is over-reserved (R57). -/
def State.ReservationLaw (s : State) : Prop := ∀ d : Slot, s.reservedTotal d ≤ s.backing d

/-- Every per-tag event list holds at most 4 entries (R174). -/
def State.EventLaw (s : State) : Prop :=
  ∀ p : Port, (s.events.get p).withdrawn.length ≤ Config.eventListRoom ∧
    (s.events.get p).expired.length ≤ Config.eventListRoom ∧ (s.events.get p).finished.length ≤ Config.eventListRoom

/-- An escrow stack holds at most 8 notes (R39). -/
def State.EscrowLaw (s : State) : Prop := ∀ l : Lane, (s.escrows.get l).entries.length ≤ Config.escrowRoom

/-- Every audit counter's value is below 2^32 (R179). -/
def State.CounterLaw (s : State) : Prop := ∀ n : Fin 8, (s.counters.get n).value < Config.counterModulus

/-- The service job queue holds at most 8 jobs (R90). -/
def State.ServiceQueueLaw (s : State) : Prop := s.serviceJobs.length ≤ Config.serviceQueueRoom

/-- A lane job queue holds at most 16 jobs (R90). -/
def State.LaneQueueLaw (s : State) : Prop := ∀ l : Lane, (s.laneJobs.get l).length ≤ Config.laneQueueRoom

/-- The stack-down positions hold at most one class 0 job for each lane's escrow (R90). -/
def State.StackQueueLaw (s : State) : Prop := (s.stackJobs.map Job.source).Nodup

/-- The plan request list holds at most one entry for a sale (R48). -/
def State.RequestLaw (s : State) : Prop := (s.planReqs.map fun r => (r.lane, r.tag)).Nodup

/-- The pieces that the queued jobs still owe from a unit. -/
def State.owed (s : State) (u : UnitId) : Nat := ((s.allJobs.filter fun j => j.onUnit u).map Job.undone).sum

/-- The jobs and the units agree: a unit's committed number is what its jobs owe (R7, R91); a job that draws on a unit is
not done (R115); serial numbers are distinct and below the next (log 21); an ejection in flight draws on its job's source
(R114); class 0 jobs draw on escrows (R89). -/
def State.JobLaw (s : State) : Prop :=
  (∀ u : UnitId, (s.units.get u).committed = s.owed u) ∧
    (∀ j ∈ s.allJobs, ∀ u, j.source = .unit u → j.done < j.ordered) ∧
    (s.allJobs.map Job.serial).Nodup ∧ (∀ j ∈ s.allJobs, j.serial < s.nextJob) ∧
    (∀ j ∈ s.stackJobs, ∃ l, j.source = .escrow l) ∧
    ∀ k e, (s.mechs.get k).phase = .ejecting e →
      e.job < s.nextJob ∧ ∀ j ∈ s.allJobs, j.serial = e.job → j.source = e.source

/-- Units by their states: ABSENT exactly without a slot (R4, R8); an ACTIVE unit's slot is of its kind (R137); no job on a
JAMMED or ABSENT unit, and no lane's job on a LOCKED one (R10, R121). -/
def State.UnitStateLaw (s : State) : Prop :=
  ∀ u : UnitId,
    ((s.units.get u).state = .absent ↔ (s.units.get u).slot = none) ∧
      ((s.units.get u).state = .active → s.slotFitsUnit u = true) ∧
      ((s.units.get u).state = .jammed ∨ (s.units.get u).state = .absent → ∀ j ∈ s.allJobs, j.source ≠ .unit u) ∧
      ((s.units.get u).state = .locked → ∀ l : Lane, ∀ j ∈ s.laneJobs.get l, j.source ≠ .unit u)

/-- Reservations, sales and requests agree: one reservation a sale, every reservation's sale is PLANNED, and no sale whose
QUOTE waits holds one (R36, R70, R71). -/
def State.PlanLaw (s : State) : Prop :=
  s.RequestLaw ∧ (s.reservations.map fun r => (r.lane, r.tag)).Nodup ∧
    (∀ r ∈ s.reservations, ∃ x, s.findSale r.lane r.tag = some x ∧ x.state = .planned) ∧
    ∀ q ∈ s.planReqs, q.kind = .quote → s.reservationOf q.lane q.tag = none

/-- The books of the float: every count within its capacity, every committed number within its count (R7), and every
slot's reserved total within its backing (R57), with what keeps them so. -/
def State.BooksLaw (s : State) : Prop :=
  s.CapacityLaw ∧ s.UnitLaw ∧ s.JobLaw ∧ s.UnitStateLaw ∧ s.PlanLaw ∧ s.ReservationLaw

/-- The transmitter holds at most two waiting BUSY frames (R169). -/
def State.BusyLaw (s : State) : Prop := ∀ p : Port, (s.ports.get p).busyWaiting ≤ Config.busyRoom

/-- The dirty set lists each record once, in ascending number (R154). -/
def dirtyLaw (ds : List (RecordNo × Nat)) : Prop := (ds.map fun e => e.1.val).Pairwise (· < ·)

end Sys2Proof.Machine
end

