-- ==== Sys2Proof/Certificates/Slice0/Obligations.lean ====
section
/-! DEFINITION. The statements for the provers. Each per-command statement gives the command's own effect as the state
it leaves, with every field that changes; what follows in the same event (`conclude`, `settleEvent`, `flush`) has
statements of its own. `replied` and `refusedWith` make the reply and leave everything else. -/

open Sys2Proof Sys2Proof.Machine

/-- A step takes the command at the front of the queue and runs it with the queue's rest. On an empty queue it is a
tick: the clock moves by 1 ms, the rows of the block's own timers that are then due are queued (R43, R73, R112, R155,
R166, R169), and nothing else changes. A tick takes the first event after a restart too, where that has not been
(R112). The queue and the tick are the model's own (log 2, log 11). -/
def Obligations.StepRunsFront : Prop :=
  (∀ (c : Instr) (rest : List Instr) (s : State),
     step { s with pending := c :: rest } = exec c { s with pending := rest }) ∧
    (∀ s : State, s.Running ∨ s.powered = false → s.pending = [] → ∃ due,
       step s = .next { s with now := s.now + 1, pending := due } ∧
       (s.powered = false → due = []) ∧
       (s.powered = true → ∀ i, i ∈ due ↔
         (∃ r ∈ s.reservations, r.ends ≤ s.now + 1 ∧ i = .holdTimerExpiry r.lane r.tag) ∨
         (∃ k e, (s.mechs.get k).phase = .ejecting e ∧ e.ends ≤ s.now + 1 ∧ i = .ejectTimeout k) ∨
         (∃ l ends, (s.escrows.get l).status = .returning ends ∧ ends ≤ s.now + 1 ∧ i = .returnTimeout l) ∨
         (∃ p, (s.ports.get p).receiver ≠ .hunt ∧ (s.ports.get p).lastByteAt + 11 ≤ s.now + 1 ∧
           i = .interByteTimeout p) ∨
         (∃ p, (s.ports.get p).sending ≠ none ∧ (s.ports.get p).sendEnds ≤ s.now + 1 ∧ i = .replySent p) ∨
         (s.writer = .idle ∧ (∃ e ∈ s.dirty, s.pfw = true ∨ e.2 + 200 ≤ s.now + 1) ∧ i = .writeBegin) ∨
         (s.planReqs ≠ [] ∧ i = .planRequestTaken))) ∧
    (∀ s : State, s.pending = [] → step s = step s.firstEvent)

/-- Every command completes, and none touches the queue. That an event whose condition does not hold, or that comes
without supply, changes nothing is the model's choice (log 4, log 6). -/
def Obligations.EveryCommandCompletes : Prop :=
  ∀ (c : Instr) (s : State), ∃ t, exec c s = .next t ∧ t.pending = s.pending

/-- How a reply is made: an OK reply goes on the port's transmitter, sent at once where the transmitter is free and
else behind the frames made before it; a reply with another code carries no data and is counted as REFUSED with the
port's lane or service. The request is outstanding, and nothing else changes (R167, R169, R170, R180). A frame's send
time is rounded up to whole milliseconds (log 26). -/
def Obligations.Replies : Prop :=
  (∀ (p : Port) (c : Command) (data : List Field) (s : State),
     let f : Frame := { command := c.byte, code := .ok, data := data, answers := true }
     ((s.ports.get p).sending = none →
         s.replied p c data =
           { s with
             ports := s.ports.set p
               { s.ports.get p with outstanding := some c.byte, sending := some f, sendEnds := s.now + f.sendTime } }) ∧
       ((s.ports.get p).sending ≠ none →
         s.replied p c data =
           { s with
             ports := s.ports.set p
               { s.ports.get p with outstanding := some c.byte, waiting := (s.ports.get p).waiting ++ [f] } })) ∧
    (∀ (p : Port) (c : Command) (code : ReplyCode) (s : State),
       let f : Frame := { command := c.byte, code := code, data := [], answers := true }
       let t := s.refusedWith p c code
       t = { s with ports := t.ports, counters := t.counters, events := t.events } ∧
         t.ports = s.ports.set p
           (if (s.ports.get p).sending = none then
             { s.ports.get p with outstanding := some c.byte, sending := some f, sendEnds := s.now + f.sendTime }
           else { s.ports.get p with outstanding := some c.byte, waiting := (s.ports.get p).waiting ++ [f] }) ∧
         (∀ n, t.counters.get n =
           (s.counters.get n).after
             { kind := .refused
               lane := match p with
                 | .lpA => .lane .a
                 | .lpB => .lane .b
                 | .sp => .service
               slots := none, value := 1 }) ∧
         t.events.get .lpA = s.events.get .lpA ∧ t.events.get .lpB = s.events.get .lpB ∧
         (∃ w, t.events.get .sp = { s.events.get .sp with wrapped := w }))

/-- OPEN_SALE: the checks of R27 in their order, and the sale it appends with the values of R26. -/
def Obligations.OpenSale : Prop :=
  ∀ (p : Port) (l : Lane) (tag due : Nat) (s : State), p.lane = some l → Ready s p →
    (¬ (1 ≤ tag ∧ tag ≤ 65535 ∧ due ≤ 999999) →
        exec (.openSale p tag due) s = .next (s.refusedWith p .openSale .range)) ∧
      (1 ≤ tag → tag ≤ 65535 → due ≤ 999999 →
        ((s.lanes.get l).opened = false → exec (.openSale p tag due) s = .next (s.refusedWith p .openSale .laneClosed)) ∧
        ((s.lanes.get l).opened = true → s.findSale l tag ≠ none →
          exec (.openSale p tag due) s = .next (s.refusedWith p .openSale .duplicate)) ∧
        ((s.lanes.get l).opened = true → s.findSale l tag = none → 4 ≤ (s.sales.get l).length →
          exec (.openSale p tag due) s = .next (s.refusedWith p .openSale .full)) ∧
        ((s.lanes.get l).opened = true → s.findSale l tag = none → (s.sales.get l).length < 4 →
          exec (.openSale p tag due) s =
            .next
              ({ s with
                sales := s.sales.set l (s.sales.get l ++
                  [({ tag := tag, state := .waiting, due := due, coinValue := 0, noteValue := 0,
                      change := if due = 0 then some 0 else none, planned := none, plan := none, outcome := none,
                      shortfall := 0, floorBlocked := false, paid := 0, overpaid := 0, refund := none,
                      refundShortfall := none } : Sale)]) }.replied p .openSale [])))

/-- TENDER: the checks of R32 in their order, and its effect: state, binding, owner, stray credit. -/
def Obligations.Tender : Prop :=
  ∀ (p : Port) (l : Lane) (tag : Nat) (s : State), p.lane = some l → Ready s p →
    (s.findSale l tag = none → exec (.tender p tag) s = .next (s.refusedWith p .tender .noSale)) ∧
      ∀ x, s.findSale l tag = some x →
        ((s.lanes.get l).opened = false → exec (.tender p tag) s = .next (s.refusedWith p .tender .laneClosed)) ∧
        ((s.lanes.get l).opened = true →
          (x.state ≠ .waiting ∨ (s.escrows.get l).owner = .orphan ∨ (s.escrows.get l).status = .fault →
            exec (.tender p tag) s = .next (s.refusedWith p .tender .state)) ∧
          (x.state = .waiting → (s.escrows.get l).owner ≠ .orphan → (s.escrows.get l).status ≠ .fault →
            (¬ ((s.lanes.get l).binding = .none ∧ (s.escrows.get l).entries = [] ∧ (s.escrows.get l).owner = .none) →
              exec (.tender p tag) s = .next (s.refusedWith p .tender .busy)) ∧
            ((s.lanes.get l).binding = .none → (s.escrows.get l).entries = [] → (s.escrows.get l).owner = .none →
              exec (.tender p tag) s =
                .next
                  (({ s with
                    sales := s.sales.set l ((s.sales.get l).map fun (y : Sale) =>
                      if y.tag = tag then
                        { y with state := .tendering, coinValue := y.coinValue + (s.lanes.get l).stray }.withChange
                      else y)
                    lanes := s.lanes.set l { s.lanes.get l with binding := .sale tag, stray := 0 }
                    escrows := s.escrows.set l { s.escrows.get l with owner := .sale tag }
                    dirty := insertDirty (recEscrow l) s.now s.dirty }.replied p .tender []).flush))))

/-- QUOTE. A sale in another state than TENDERING, TENDERED and PLANNED, no sale, or a tender below its due is
refused. Taken: the tender is closed or the plan given up, the sale is TENDERED, a QUOTE request of its change stands
at the tail of the plan request list, the need that the sale held is clear, and no reply is made yet (R36, R49, R50,
R84). -/
def Obligations.Quote : Prop :=
  (∀ (p : Port) (l : Lane) (tag : Nat) (s : State), p.lane = some l → Ready s p →
     (s.findSale l tag = none → exec (.quote p tag) s = .next (s.refusedWith p .quote .noSale)) ∧
       ∀ x, s.findSale l tag = some x →
         (x.state ≠ .tendering → x.state ≠ .tendered → x.state ≠ .planned →
           exec (.quote p tag) s = .next (s.refusedWith p .quote .state)) ∧
         (x.state = .tendering → x.coinValue + x.noteValue < x.due →
           exec (.quote p tag) s = .next (s.refusedWith p .quote .underpaid))) ∧
    (∀ (p : Port) (l : Lane) (tag : Nat) (s : State) (x : Sale), p.lane = some l → Ready s p →
       s.findSale l tag = some x → s.hasRequest l tag = false →
       (x.state = .tendering ∧ x.due ≤ x.coinValue + x.noteValue ∨ x.state = .tendered ∨ x.state = .planned) →
       ∃ t, exec (.quote p tag) s = .next t ∧
         (∃ y, t.findSale l tag = some y ∧ y.state = .tendered ∧ y.change = x.change ∧ y.coinValue = x.coinValue ∧
           y.noteValue = x.noteValue ∧ (x.state = .planned → y.plan = none ∧ y.outcome = none)) ∧
         t.planReqs = s.planReqs ++
           [{ lane := l, tag := tag, kind := .quote, amount := boundAmount (x.change.getD 0), shielded := true }] ∧
         t.reservations =
           (if x.state = .planned then
             s.reservations.filter fun r => !(decide (r.lane = l) && decide (r.tag = tag)) else s.reservations) ∧
         (x.state = .tendering → (t.lanes.get l).binding = .none) ∧
         (x.state = .tendering → (s.escrows.get l).entries = [] → (t.escrows.get l).owner = .none) ∧
         (t.lanes.get l).blockedSale ≠ some tag ∧
         t.ports = s.ports.set p { s.ports.get p with outstanding := some Command.quote.byte } ∧
         SameClock s t ∧ SameSupply s t ∧ SameConfig s t ∧ t.boxes = s.boxes ∧ t.tallies = s.tallies ∧ SamePaths s t)

/-- PAY: the checks of R92 in their order; taken, it answers with the number of jobs and the value placed as a REPLAN
request, and its own effect is steps 1 to 7 of R93. The number of jobs in one byte is the model's choice (log 12). The
settlement test that closes it: with no job and no request of the sale left, a PAYING sale is SETTLED or SHORT_SETTLED
by its shortfall, and a REFUNDING one that owns no stack is CANCELLED, each with SALE_FINISHED; else nothing changes
(R96, R109, R110). That a job marked stopped, of a STOPPED sale of the same tag, is no job of the sale is read by
inference (log 20). -/
def Obligations.PayChecks : Prop :=
  (∀ (p : Port) (l : Lane) (tag acceptShort : Nat) (s : State), p.lane = some l → Ready s p →
     (1 < acceptShort → exec (.pay p tag acceptShort) s = .next (s.refusedWith p .pay .range)) ∧
       (acceptShort ≤ 1 →
         (s.findSale l tag = none → exec (.pay p tag acceptShort) s = .next (s.refusedWith p .pay .noSale)) ∧
         ∀ x, s.findSale l tag = some x →
           (x.state = .tendered → exec (.pay p tag acceptShort) s = .next (s.refusedWith p .pay .noPlan)) ∧
           (x.state ≠ .tendered → x.state ≠ .planned →
             exec (.pay p tag acceptShort) s = .next (s.refusedWith p .pay .state)) ∧
           (x.state = .planned →
             (x.outcome ≠ some .exact → acceptShort = 0 →
               exec (.pay p tag acceptShort) s = .next (s.refusedWith p .pay .short)) ∧
             (x.outcome = some .exact ∨ acceptShort = 1 →
               (16 < (s.laneJobs.get l).length + (splitPlan l (x.plan.getD []) s).1.length →
                 exec (.pay p tag acceptShort) s = .next (s.refusedWith p .pay .queueFull)) ∧
               ((s.laneJobs.get l).length + (splitPlan l (x.plan.getD []) s).1.length ≤ 16 →
                 exec (.pay p tag acceptShort) s =
                   .next
                     ((((s.replied p .pay
                           [byteField (splitPlan l (x.plan.getD []) s).1.length,
                             amountField (splitPlan l (x.plan.getD []) s).2]).payOut
                         l tag (splitPlan l (x.plan.getD []) s).1 (splitPlan l (x.plan.getD []) s).2).settleTest
                       l tag).conclude true (s.reservationOf l tag).toList [])))))) ∧
    (∀ (l : Lane) (tag : Nat) (s : State),
       (s.hasJobs l tag = true ↔ ∃ j ∈ s.laneJobs.get l, j.origin = .sale l tag ∧ j.stopped = false) ∧
         (s.hasRequest l tag = true ↔ ∃ r ∈ s.planReqs, r.lane = l ∧ r.tag = tag) ∧
         (s.findSale l tag = none → s.settleTest l tag = s) ∧
         ∀ x, s.findSale l tag = some x →
           let st := endState x.state x.shortfall (s.hasJobs l tag || s.hasRequest l tag)
             (decide ((s.escrows.get l).owner = .sale tag))
           s.settleTest l tag = if st = x.state then s else s.ended l tag st)

/-- What paying out does: the reservation leaves, the jobs of the split stand at the tail of the lane's queue, their
pieces are committed, the sale is PAYING, and unplaced value becomes one REPLAN request (R93). A share's job is of the
sale, on the share's unit, for its pieces, none of them done, and goes to the lane's cup for a COIN slot and to its
outlet for a NOTE slot (R89, R94); its serial number is the model's own (log 21). -/
def Obligations.PayOutEffect : Prop :=
  ∀ (l : Lane) (tag : Nat) (shares : List Share) (v : Nat) (s : State) (x : Sale),
    s.findSale l tag = some x → s.hasRequest l tag = false → v ≤ 999999 →
    (s.payOut l tag shares v).reservations =
        (s.reservations.filter fun r => !(decide (r.lane = l) && decide (r.tag = tag))) ∧
      (s.payOut l tag shares v).laneJobs.get l = s.laneJobs.get l ++ s.jobsOf l tag s.nextJob shares ∧
      (s.payOut l tag shares v).laneJobs.get l.other = s.laneJobs.get l.other ∧
      (s.payOut l tag shares v).units = (s.commitAll shares).units ∧
      (∃ y, (s.payOut l tag shares v).findSale l tag = some y ∧ y = { x with state := .paying }) ∧
      (v = 0 → (s.payOut l tag shares v).planReqs = s.planReqs) ∧
      (0 < v → ∃ r, (s.payOut l tag shares v).planReqs.find? (fun r => r.isOf l tag) = some r ∧ r.kind = .replan ∧
        r.amount = v ∧ r.shielded = false) ∧
      ((s.escrows.get l).owner = .sale tag →
        ((s.payOut l tag shares v).escrows.get l).owner = .stacking ∧
          ∃ j, (s.payOut l tag shares v).stackJobs = (s.stackJobs.filter fun i => decide (i.source ≠ .escrow l)) ++ [j] ∧
            j.origin = .stackDown ∧
            j.source = .escrow l ∧ j.ordered = (s.escrows.get l).entries.length ∧ j.done = 0) ∧
      ((s.escrows.get l).owner ≠ .sale tag →
        (s.payOut l tag shares v).escrows = s.escrows ∧ (s.payOut l tag shares v).stackJobs = s.stackJobs) ∧
      ((s.payOut l tag shares v).lanes.get l).blockedSale ≠ some tag ∧
      (s.jobsOf l tag s.nextJob shares).length = shares.length ∧
      (s.payOut l tag shares v).nextJob = s.nextJob + shares.length +
        (if (s.escrows.get l).owner = .sale tag then 1 else 0) ∧
      ∀ (i : Nat) (n : Nat) (m : Lane) (tag' : Nat), (s.jobsOf m tag' n shares)[i]? =
        shares[i]?.map fun x =>
          { serial := n + i, origin := .sale m tag', source := .unit x.unit, ordered := x.pieces, done := 0
            dest := if (s.denoms.get x.slot).kind = .coin then .cup m else .outlet m
            inFlight := false, stopped := false }

/-- The split of a plan over units. The value of its jobs and the value it leaves unplaced are the value of the plan;
every share is on a unit of its slot that serves the lane; committing the shares keeps 0 ≤ committed ≤ count ≤
capacity (R7, R94, R95). Entry by entry, each share is on the serving unit with the largest free count, the
lower-numbered on equal counts, for the smaller of that count and the pieces left; an entry goes on until its pieces
are placed or no serving unit of its slot has a free piece, and only then value is left unplaced (R94, R95). -/
def Obligations.Split : Prop :=
  (∀ (l : Lane) (plan : Plan) (s : State),
     s.sharesValue (splitPlan l plan s).1 + (splitPlan l plan s).2 = (plan.map fun e => e.2 * s.slotValue e.1).sum ∧
       ∀ x ∈ (splitPlan l plan s).1, s.unitOfSlot x.slot x.unit = true ∧ s.serves x.unit l = true ∧ 0 < x.pieces) ∧
    (∀ (l : Lane) (plan : Plan) (s : State), s.UnitLaw → (s.commitAll (splitPlan l plan s).1).UnitLaw) ∧
    (∀ (l : Lane) (d : Slot) (k : Nat) (rest : Plan) (s : State),
       splitPlan l [] s = ([], 0) ∧ splitPlan l ((d, 0) :: rest) s = splitPlan l rest s ∧
         (0 < k → (∀ u, ¬ s.CanPay l d u) →
           splitPlan l ((d, k) :: rest) s = ((splitPlan l rest s).1, k * s.slotValue d + (splitPlan l rest s).2)) ∧
         (0 < k → ∀ u, s.Roomiest l d u →
           let m := min ((s.units.get u).count - (s.units.get u).committed) k
           let t := splitPlan l ((d, k - m) :: rest) (s.commit u m)
           splitPlan l ((d, k) :: rest) s = ({ unit := u, slot := d, pieces := m } :: t.1, t.2)) ∧
         (0 < (splitPlan l [(d, k)] s).2 → ∀ u, ¬ (s.commitAll (splitPlan l [(d, k)] s).1).CanPay l d u))

/-- CANCEL: refusals, the end of a WAITING sale, and the steps of R46 for a tendered one, up to what follows in the
same event (`conclude`). With no coin value to refund and no note to return, or with the sensor showing empty at once,
the sale is CANCELLED in the same event (R43, R46, R47). -/
def Obligations.Cancel : Prop :=
  ∀ (p : Port) (l : Lane) (tag : Nat) (s : State), p.lane = some l → Ready s p →
    (s.findSale l tag = none → exec (.cancel p tag) s = .next (s.refusedWith p .cancel .noSale)) ∧
      ∀ x, s.findSale l tag = some x →
        (x.state ≠ .waiting → x.state ≠ .tendering → x.state ≠ .tendered → x.state ≠ .planned →
          exec (.cancel p tag) s = .next (s.refusedWith p .cancel .state)) ∧
        (x.state = .waiting →
          exec (.cancel p tag) s =
            .next
              ({ s with
                sales := s.sales.set l ((s.sales.get l).map fun (y : Sale) =>
                  if y.tag = tag then { y with state := .cancelled } else y)
                events := s.events.set l.port { s.events.get l.port with
                  finished := pushLast (s.events.get l.port).finished (tag, .cancelled) } }.replied p .cancel [])) ∧
        (x.state = .tendering ∨ x.state = .tendered ∨ x.state = .planned → ∃ t y,
          exec (.cancel p tag) s =
              .next (t.conclude false (if x.state = .planned then (s.reservationOf l tag).toList else []) []) ∧
            SameQueue s t ∧ SameClock s t ∧ SameStores s t ∧ SameConfig s t ∧ SameJobs s t ∧ SameSupply s t ∧
            SameMechs s t ∧ SameService s t ∧ t.counters = s.counters ∧ SamePaths s t ∧
            t.lanes.get l.other = s.lanes.get l.other ∧ t.escrows.get l.other = s.escrows.get l.other ∧
            t.ports = (s.replied p .cancel []).ports ∧
            t.findSale l tag = some y ∧ y.refund = some x.coinValue ∧ y.refundShortfall = some 0 ∧
            y.plan = (if x.state = .planned then none else x.plan) ∧
            (0 < x.coinValue ∨ ((s.escrows.get l).owner = .sale tag ∧ (s.escrows.get l).entries ≠ [] ∧
              (s.escrows.get l).sensorEmpty = false) → y.state = .refunding) ∧
            (y.state = .refunding ∧ t.events = s.events ∨ y.state = .cancelled ∧ t.events = s.events.set l.port
              { s.events.get l.port with
                finished := pushLast (s.events.get l.port).finished (tag, SaleState.cancelled) }) ∧
            (x.coinValue = 0 → s.hasRequest l tag = false → s.hasJobs l tag = false →
              (s.escrows.get l).owner ≠ .sale tag ∨ (s.escrows.get l).entries = [] ∨
                (s.escrows.get l).sensorEmpty = true → y.state = .cancelled) ∧
            (x.state = .tendering → (t.lanes.get l).binding = .none) ∧
            (x.state = .planned → t.reservationOf l tag = none) ∧
            (s.hasRequest l tag = false → t.planReqs =
              if 0 < x.coinValue then
                insertReq { lane := l, tag := tag, kind := .refund, amount := boundAmount x.coinValue, shielded := false }
                  s.planReqs
              else s.planReqs) ∧
            ((s.escrows.get l).owner = .sale tag → (s.escrows.get l).entries ≠ [] →
              (s.escrows.get l).sensorEmpty = false →
              t.escrows.get l = { s.escrows.get l with status := .returning (s.now + 3000) }) ∧
            ((s.escrows.get l).owner = .sale tag → (s.escrows.get l).entries ≠ [] →
              (s.escrows.get l).sensorEmpty = true →
              t.escrows.get l = { s.escrows.get l with entries := [], owner := .none, status := .idle }) ∧
            ((s.escrows.get l).owner = .sale tag → (s.escrows.get l).entries = [] →
              t.escrows.get l = { s.escrows.get l with owner := .none }) ∧
            ((s.escrows.get l).owner ≠ .sale tag → t.escrows.get l = s.escrows.get l))

/-- RELEASE removes a finished sale and clears the need that the sale held; a sale in another state is kept (R30,
R84). STATUS answers with the whole sale record, or for tag 0 with the report of the lane, and changes no state but
the port's transmitter (R28, R29). The order of the reply's fields and the codes that R168 does not list are the
model's (log 12). -/
def Obligations.ReleaseAndStatus : Prop :=
  (∀ (p : Port) (l : Lane) (tag : Nat) (s : State), p.lane = some l → Ready s p →
     (s.findSale l tag = none → exec (.release p tag) s = .next (s.refusedWith p .release .noSale)) ∧
       ∀ x, s.findSale l tag = some x →
         (x.state ≠ .settled → x.state ≠ .shortSettled → x.state ≠ .cancelled → x.state ≠ .stopped →
           exec (.release p tag) s = .next (s.refusedWith p .release .state)) ∧
         (x.state = .settled ∨ x.state = .shortSettled ∨ x.state = .cancelled ∨ x.state = .stopped →
           exec (.release p tag) s =
             .next
               ({ s with
                 sales := s.sales.set l ((s.sales.get l).filter fun y => decide (y.tag ≠ tag))
                 lanes :=
                   if (s.lanes.get l).blockedSale = some tag then
                     s.lanes.set l { s.lanes.get l with blockedSale := none, asked := 0 }
                   else s.lanes }.replied p .release []))) ∧
    (∀ (p : Port) (lane : Option Nat) (l : Lane) (tag : Nat) (s : State), Ready s p →
       (p.lane = some l ∧ lane = none ∨ p = .sp ∧ lane = some (laneCode l)) →
       (tag = 0 →
         exec (.status p lane tag) s =
           .next
             (s.replied p .status
               ([flagField (s.lanes.get l).opened, flagField (!(s.lanes.get l).holding),
                   flagField (s.lanes.get l).blockedSale.isSome] ++
                 bindingFields (s.lanes.get l).binding ++
                 [amountField (s.lanes.get l).stray, byteField (s.lanes.get l).cup, byteField (s.lanes.get l).outlet,
                   countField (s.lanes.get l).weight] ++
                 listFields ((s.escrows.get l).entries.reverse.map fun n =>
                   [slotField (some n.slot), byteField (creditCode n.credit), flagField n.inTransit]) ++
                 ownerFields (s.escrows.get l).owner ++ [byteField (escrowStatusCode (s.escrows.get l).status)] ++
                 listFields ((s.sales.get l).map fun x => [tagField x.tag, byteField (saleStateCode x.state)])))) ∧
         (tag ≠ 0 → s.findSale l tag = none → exec (.status p lane tag) s = .next (s.refusedWith p .status .noSale)) ∧
         (tag ≠ 0 → ∀ x, s.findSale l tag = some x →
           exec (.status p lane tag) s =
             .next
               (s.replied p .status
                 ([tagField x.tag, byteField (laneCode l), byteField (saleStateCode x.state), amountField x.due,
                     amountField x.coinValue, amountField x.noteValue, optAmountField x.change,
                     optAmountField x.planned] ++
                   countsFields x.plan ++
                   [byteField (outcomeCode x.outcome), amountField x.shortfall, flagField x.floorBlocked,
                     amountField x.paid, amountField x.overpaid, optAmountField x.refund,
                     optAmountField x.refundShortfall, holdField (s.holdRemaining l x.tag)]))))

/-- STOP of a PAYING or REFUNDING sale: jobs that are not in flight leave with their pieces released, the one in
flight is marked, its request is dropped, a REFUNDING sale's stack is ORPHAN, and the sale is STOPPED (R107). A
LOCK_PENDING unit whose last committed pieces are so released becomes LOCKED (R10, R91); no other sale changes. That a
job marked stopped before, of an earlier STOPPED sale of the same tag, is no job of the sale is read by inference (log
20). -/
def Obligations.Stop : Prop :=
  ∀ (p : Port) (lane : Option Nat) (l : Lane) (tag : Nat) (s : State), Ready s p →
    (p.lane = some l ∧ lane = none ∨ p = .sp ∧ lane = some (laneCode l)) →
    (s.findSale l tag = none → exec (.stop p lane tag) s = .next (s.refusedWith p .stop .noSale)) ∧
      ∀ x, s.findSale l tag = some x →
        (x.state ≠ .paying → x.state ≠ .refunding →
          exec (.stop p lane tag) s = .next (s.refusedWith p .stop .state)) ∧
        (x.state = .paying ∨ x.state = .refunding → ∃ t,
          exec (.stop p lane tag) s = .next (t.conclude false [] []) ∧
            SameQueue s t ∧ SameClock s t ∧ SameSupply s t ∧ SameConfig s t ∧ t.boxes = s.boxes ∧ t.lanes = s.lanes ∧
            t.reservations = s.reservations ∧ t.serviceJobs = s.serviceJobs ∧ t.stackJobs = s.stackJobs ∧
            SameMechs s t ∧ SameService s t ∧ t.counters = s.counters ∧ SamePaths s t ∧
            t.ports = (s.replied p .stop []).ports ∧
            t.laneJobs = s.laneJobs.set l
              (((s.laneJobs.get l).filter fun j => !(j.ofSale l tag && !j.inFlight)).map fun j =>
                if j.ofSale l tag then { j with stopped := true } else j) ∧
            t.planReqs = (s.planReqs.filter fun r => !r.isOf l tag) ∧
            t.findSale l tag = some { x with state := .stopped } ∧
            t.sales = s.sales.set l ((s.sales.get l).map fun (y : Sale) =>
              if y.tag = tag then { y with state := .stopped } else y) ∧
            t.events = s.events.set l.port { s.events.get l.port with
              finished := pushLast (s.events.get l.port).finished (tag, .stopped) } ∧
            (∀ u, (t.units.get u).count = (s.units.get u).count ∧
              (t.units.get u).committed = (s.units.get u).committed -
                (((s.laneJobs.get l).filter fun j => j.ofSale l tag && !j.inFlight && j.onUnit u).map Job.undone).sum ∧
              (t.units.get u).settings = (s.units.get u).settings ∧
              (t.units.get u).state =
                (if (s.units.get u).state = .lockPending ∧ (t.units.get u).committed = 0 ∧
                    ((s.laneJobs.get l).any fun j => j.ofSale l tag && !j.inFlight && j.onUnit u) then .locked
                else (s.units.get u).state)) ∧
            (x.state = .refunding → (s.escrows.get l).owner = .sale tag →
              (t.escrows.get l).owner = .orphan ∧ (t.escrows.get l).entries = (s.escrows.get l).entries ∧
                (t.escrows.get l).status =
                  (if (s.escrows.get l).status = .fault then .idle else (s.escrows.get l).status)) ∧
            (x.state = .paying ∨ (s.escrows.get l).owner ≠ .sale tag → t.escrows = s.escrows))

/-- LANE_OPEN leaves an OPEN lane and opens a CLOSED one with HOLD and its delivery counts at 0 (R23). FLOOR_HOLD and
FLOOR_YIELD are refused on a CLOSED lane, set the floor state, and the move from HOLD to YIELD grants the other lane's
need with its floor-blocked tag (R81, R86). -/
def Obligations.LaneCommands : Prop :=
  (∀ (p : Port) (l : Lane) (s : State), p.lane = some l → Ready s p →
     ((s.lanes.get l).opened = true → exec (.laneOpen p) s = .next (s.replied p .laneOpen [])) ∧
       ((s.lanes.get l).opened = false →
         exec (.laneOpen p) s =
           .next
             (({ s with
               lanes := s.lanes.set l { s.lanes.get l with opened := true, holding := true, cup := 0, outlet := 0 }
               }.replied p .laneOpen []).settleEvent))) ∧
    (∀ (p : Port) (l : Lane) (s : State), p.lane = some l → Ready s p →
       ((s.lanes.get l).opened = false →
         exec (.floorHold p) s = .next (s.refusedWith p .floorHold .laneClosed) ∧
           exec (.floorYield p) s = .next (s.refusedWith p .floorYield .laneClosed)) ∧
         ((s.lanes.get l).opened = true →
           exec (.floorHold p) s =
               .next ({ s with lanes := s.lanes.set l { s.lanes.get l with holding := true } }.replied p .floorHold []) ∧
             ((s.lanes.get l).holding = false → exec (.floorYield p) s = .next (s.replied p .floorYield [])) ∧
             ((s.lanes.get l).holding = true →
               exec (.floorYield p) s =
                 .next
                   ({ s with
                     lanes := s.lanes.set l { s.lanes.get l with holding := false }
                     events :=
                       match (s.lanes.get l.other).blockedSale with
                       | some n => s.events.set l.other.port { s.events.get l.other.port with granted := some n }
                       | none => s.events }.replied p .floorYield []))))

/-- LANE_CLOSE: refused while a sale of the lane is being served; otherwise each WAITING sale is CANCELLED and raised,
the lane is CLOSED with no need, and the other lane is granted where it asked (R24, R87). That the cancelled sales are
raised oldest first is the model's choice (log 34). -/
def Obligations.LaneClose : Prop :=
  ∀ (p : Port) (l : Lane) (s : State), p.lane = some l → Ready s p →
    ((∃ x ∈ s.sales.get l, x.state = .tendering ∨ x.state = .tendered ∨ x.state = .planned ∨ x.state = .paying ∨
        x.state = .refunding) → exec (.laneClose p) s = .next (s.refusedWith p .laneClose .state)) ∧
      ((∀ x ∈ s.sales.get l, x.state ≠ .tendering ∧ x.state ≠ .tendered ∧ x.state ≠ .planned ∧ x.state ≠ .paying ∧
          x.state ≠ .refunding) →
        ((s.lanes.get l).opened = false → exec (.laneClose p) s = .next (s.replied p .laneClose [])) ∧
        ((s.lanes.get l).opened = true → ((s.sales.get l).map Sale.tag).Nodup → ∃ t,
          exec (.laneClose p) s = .next t ∧
            t.sales = s.sales.set l ((s.sales.get l).map fun (y : Sale) =>
              if y.state = .waiting then { y with state := .cancelled } else y) ∧
            t.lanes = s.lanes.set l { s.lanes.get l with opened := false, blockedSale := none, asked := 0 } ∧
            (t.events.get l.port).finished =
              (((s.sales.get l).filter fun y => decide (y.state = .waiting)).map Sale.tag).foldl
                (fun xs n => pushLast xs (n, SaleState.cancelled)) (s.events.get l.port).finished ∧
            (t.events.get l.other.port).granted =
              (match (s.lanes.get l.other).blockedSale with
                | some n => some n
                | none => (s.events.get l.other.port).granted) ∧
            t.ports = (s.replied p .laneClose []).ports ∧ SameQueue s t ∧ SameClock s t ∧ SameSupply s t ∧
            SameConfig s t ∧ SameStores s t ∧ t.escrows = s.escrows ∧ SamePlans s t ∧ SameJobs s t ∧ SameMechs s t ∧
            SameService s t ∧ t.counters = s.counters ∧ SameStore s t ∧ SamePaths s t))

/-- A keyed command without maintenance mode is refused with NOT_PERMITTED, whatever its parameters; a unit, slot,
mechanism, lane, box or counter that a parameter does not name is refused with RANGE, by a command that asks for no
key with the key on or off (R134, R168). The order of the two checks for a malformed request is read by inference (log
27). -/
def Obligations.KeyAndRange : Prop :=
  (∀ (i : Instr) (c : Command) (vs : List Nat) (s : State),
     requestParts i = some (.sp, c, vs) → c.keyed = true → Ready s .sp → s.key = false →
     exec i s = .next (s.refusedWith .sp c .notPermitted)) ∧
    (∀ (n : Nat) (s : State), Ready s .sp → s.key = true →
       (12 ≤ n → ∀ a b c d e f,
         exec (.writeUnit .sp n a b c d e) s = .next (s.refusedWith .sp .writeUnit .range) ∧
           exec (.setDenom .sp n a b c d e f) s = .next (s.refusedWith .sp .setDenom .range) ∧
           exec (.auditUnit .sp n a) s = .next (s.refusedWith .sp .auditUnit .range) ∧
           exec (.emptyUnit .sp n a) s = .next (s.refusedWith .sp .emptyUnit .range) ∧
           exec (.clearJam .sp n) s = .next (s.refusedWith .sp .clearJam .range)) ∧
         (2 ≤ n → ∀ a,
           exec (.clearFault .sp n) s = .next (s.refusedWith .sp .clearFault .range) ∧
             exec (.clearEscrow .sp n a) s = .next (s.refusedWith .sp .clearEscrow .range) ∧
             exec (.clearEscrow .sp (a % 2) n) s = .next (s.refusedWith .sp .clearEscrow .range) ∧
             exec (.cashboxCleared .sp n) s = .next (s.refusedWith .sp .cashboxCleared .range))) ∧
    (∀ (n : Nat) (s : State), Ready s .sp →
       (8 ≤ n → ∀ a b c d e f, exec (.counterSet .sp n a b c d e f) s = .next (s.refusedWith .sp .counterSet .range)) ∧
         (2 ≤ n → ∀ a,
           exec (.floatInBegin .sp n) s = .next (s.refusedWith .sp .floatInBegin .range) ∧
             exec (.floatInEnd .sp n) s = .next (s.refusedWith .sp .floatInEnd .range) ∧
             exec (.status .sp (some n) a) s = .next (s.refusedWith .sp .status .range) ∧
             exec (.stop .sp (some n) a) s = .next (s.refusedWith .sp .stop .range)))

/-- LOCK_UNIT makes an ACTIVE unit LOCK_PENDING while pieces are committed and else LOCKED, and reports the fall of
backing; UNLOCK_UNIT makes a LOCKED unit whose slot fits its kind ACTIVE and calls for a sweep check (R136, R137). -/
def Obligations.LockAndUnlock : Prop :=
  (∀ s : State, Ready s .sp →
     (∀ n, 12 ≤ n → exec (.lockUnit .sp n) s = .next (s.refusedWith .sp .lockUnit .range)) ∧
       ∀ u : UnitId,
         ((s.units.get u).state = .jammed ∨ (s.units.get u).state = .uncertain ∨ (s.units.get u).state = .absent →
           exec (.lockUnit .sp u.val) s = .next (s.refusedWith .sp .lockUnit .state)) ∧
         ((s.units.get u).state = .lockPending ∨ (s.units.get u).state = .locked →
           exec (.lockUnit .sp u.val) s = .next (s.replied .sp .lockUnit [])) ∧
         ((s.units.get u).state = .active →
           exec (.lockUnit .sp u.val) s =
             .next
               (({ s with
                 units := s.units.set u { s.units.get u with
                   state := if 0 < (s.units.get u).committed then .lockPending else .locked }
                 dirty := insertDirty (recUnit u) s.now s.dirty }.replied .sp .lockUnit []).conclude true [] []))) ∧
    (∀ s : State, Ready s .sp →
       (∀ n, 12 ≤ n → exec (.unlockUnit .sp n) s = .next (s.refusedWith .sp .unlockUnit .range)) ∧
         ∀ u : UnitId,
           ((s.units.get u).state ≠ .locked →
             exec (.unlockUnit .sp u.val) s = .next (s.refusedWith .sp .unlockUnit .state)) ∧
           ((∀ d, (s.units.get u).slot = some d → (s.denoms.get d).kind ≠ unitKind u) →
             exec (.unlockUnit .sp u.val) s = .next (s.refusedWith .sp .unlockUnit .state)) ∧
           ((s.units.get u).state = .locked → ∀ d, (s.units.get u).slot = some d → (s.denoms.get d).kind = unitKind u →
             exec (.unlockUnit .sp u.val) s =
               .next
                 (({ s with
                   units := s.units.set u { s.units.get u with state := .active }
                   dirty := insertDirty (recUnit u) s.now s.dirty }.replied .sp .unlockUnit []).conclude false [] [u])))

/-- WRITE_UNIT with maintenance mode: the RANGE checks, then the STATE checks, then the five settings, the unit's new
state, and the records that become dirty (R138). -/
def Obligations.WriteUnits : Prop :=
  (∀ (u : UnitId) (slotNo capacity highWater sweepTarget maskNo : Nat) (s : State), Ready s .sp → s.key = true →
     (slotOrNoneOf slotNo = none ∨ laneMaskOf maskNo = none →
       exec (.writeUnit .sp u.val slotNo capacity highWater sweepTarget maskNo) s =
         .next (s.refusedWith .sp .writeUnit .range)) ∧
       ∀ (slot : Option Slot) (m : LaneMask), slotOrNoneOf slotNo = some slot → laneMaskOf maskNo = some m →
         (¬ (1 ≤ capacity ∧ capacity ≤ (if u.val < 8 then 400 else 120) ∧ 1 ≤ highWater ∧ highWater ≤ capacity ∧
             sweepTarget < highWater ∧ (∀ d, slot = some d → (s.denoms.get d).kind = unitKind u) ∧
             (s.units.get u).count ≤ capacity) →
           exec (.writeUnit .sp u.val slotNo capacity highWater sweepTarget maskNo) s =
             .next (s.refusedWith .sp .writeUnit .range)) ∧
         (1 ≤ capacity → capacity ≤ (if u.val < 8 then 400 else 120) → 1 ≤ highWater → highWater ≤ capacity →
           sweepTarget < highWater → (∀ d, slot = some d → (s.denoms.get d).kind = unitKind u) →
           (s.units.get u).count ≤ capacity →
           (s.writeUnitAllowed u slot = false →
             exec (.writeUnit .sp u.val slotNo capacity highWater sweepTarget maskNo) s =
               .next (s.refusedWith .sp .writeUnit .state)) ∧
           (s.writeUnitAllowed u slot = true →
             let after : UnitState :=
               if slot = none then .absent
               else if (s.units.get u).state = .absent then .locked else (s.units.get u).state
             exec (.writeUnit .sp u.val slotNo capacity highWater sweepTarget maskNo) s =
               .next
                 (({ s with
                   units := s.units.set u { s.units.get u with
                     slot := slot, capacity := capacity, highWater := highWater, sweepTarget := sweepTarget, mask := m
                     state := after }
                   dirty :=
                     if after = (s.units.get u).state then insertDirty recSettings s.now s.dirty
                     else insertDirty (recUnit u) s.now (insertDirty recSettings s.now s.dirty) }.replied .sp .writeUnit
                   []).settleEvent)))) ∧
    (∀ (u : UnitId) (slot : Option Slot) (s : State),
       s.writeUnitAllowed u slot = true ↔
         ((s.units.get u).state = .locked ∨ (s.units.get u).state = .absent ∨ (s.units.get u).state = .uncertain) ∧
           (¬ ∃ e l d, (s.mechs.get .note).phase = .ejecting e ∧ e.source = .escrow l ∧ e.dest = .drum d ∧ d.unit = u) ∧
           (slot = (s.units.get u).slot ∨ (s.units.get u).committed = 0 ∧ ((s.units.get u).count = 0 ∨
             (s.units.get u).state = .uncertain ∨ ∀ d, (s.units.get u).slot = some d → (s.denoms.get d).kind ≠ unitKind u)) ∧
           (slot = none → (s.units.get u).count = 0))

/-- SET_DENOM with maintenance mode: a code of kind or of a yes/no field that names nothing is refused with RANGE
(R168); then the ranges of R1 and the value no other enabled slot may have, both lanes CLOSED, no unit on a slot whose
kind changes; then the slot's record is written (R139). -/
def Obligations.SetDenom : Prop :=
  (∀ (d : Slot) (value kindNo enabledNo acceptNo recycleNo lowWater : Nat) (s : State), Ready s .sp → s.key = true →
     (1 < kindNo ∨ 1 < enabledNo ∨ 1 < acceptNo ∨ 1 < recycleNo →
       exec (.setDenom .sp d.val value kindNo enabledNo acceptNo recycleNo lowWater) s =
         .next (s.refusedWith .sp .setDenom .range)) ∧
       (kindNo ≤ 1 → enabledNo ≤ 1 → acceptNo ≤ 1 → recycleNo ≤ 1 →
         denomOf value kindNo enabledNo acceptNo recycleNo lowWater =
           some { value := value, kind := if kindNo = 0 then .coin else .note, enabled := decide (enabledNo = 1)
                  accept := decide (acceptNo = 1), recycle := decide (recycleNo = 1), lowWater := lowWater })) ∧
  ∀ (d : Slot) (value kindNo enabledNo acceptNo recycleNo lowWater : Nat) (x : Denom) (s : State),
    Ready s .sp → s.key = true → denomOf value kindNo enabledNo acceptNo recycleNo lowWater = some x →
    (¬ (1 ≤ value ∧ value ≤ 50000 ∧ lowWater ≤ 1000 ∧ (x.enabled = true →
        ∀ e, e ≠ d → (s.denoms.get e).enabled = true → (s.denoms.get e).value ≠ value)) →
      exec (.setDenom .sp d.val value kindNo enabledNo acceptNo recycleNo lowWater) s =
        .next (s.refusedWith .sp .setDenom .range)) ∧
      (1 ≤ value → value ≤ 50000 → lowWater ≤ 1000 → (x.enabled = true →
          ∀ e, e ≠ d → (s.denoms.get e).enabled = true → (s.denoms.get e).value ≠ value) →
        ((s.lanes.get .a).opened = true ∨ (s.lanes.get .b).opened = true ∨
            (x.kind ≠ (s.denoms.get d).kind ∧ ∃ u, (s.units.get u).slot = some d) →
          exec (.setDenom .sp d.val value kindNo enabledNo acceptNo recycleNo lowWater) s =
            .next (s.refusedWith .sp .setDenom .state)) ∧
        ((s.lanes.get .a).opened = false → (s.lanes.get .b).opened = false →
          (x.kind = (s.denoms.get d).kind ∨ ∀ u, (s.units.get u).slot ≠ some d) →
          exec (.setDenom .sp d.val value kindNo enabledNo acceptNo recycleNo lowWater) s =
            .next
              (({ s with
                denoms := s.denoms.set d x
                dirty := insertDirty recDenoms s.now s.dirty }.replied .sp .setDenom []).settleEvent)))

/-- SET_FLOOR writes one floor of one lane (R140), and the new floor is the one that shields the lane from the other
lane's next search, less what the lane itself has reserved, while the lane is OPEN in HOLD (R56, R80). SET_LIMITS: the
ranges of the settings; a value held already changes nothing; else the setting takes the value, every other setting
stays, a cup or outlet count above a new limit becomes the limit, with a PAUSE sample where the place was not paused
before, and the record of the setting joins the dirty set (R104, R141, R180). -/
def Obligations.Settings : Prop :=
  (∀ (laneNo slotNo count : Nat) (s : State), Ready s .sp →
     (1 < laneNo ∨ 11 < slotNo ∨ 255 < count →
       exec (.setFloor .sp laneNo slotNo count) s = .next (s.refusedWith .sp .setFloor .range)) ∧
       ∀ (l : Lane) (d : Slot), laneNo = laneCode l → slotNo = d.val → count ≤ 255 →
         exec (.setFloor .sp laneNo slotNo count) s =
           .next
             (({ s with
               floors := s.floors.set l ((s.floors.get l).set d count)
               dirty := insertDirty recFloors s.now s.dirty }.replied .sp .setFloor []).flush)) ∧
    (∀ (l : Lane) (d : Slot) (count : Nat) (s t : State), t.lanes = s.lanes → t.reservations = s.reservations →
       t.floors = s.floors.set l ((s.floors.get l).set d count) →
       t.shield l.other d true =
           (if (s.lanes.get l).opened = true ∧ (s.lanes.get l).holding = true then count - s.reservedLane l d else 0) ∧
         (∀ e, e ≠ d → t.shield l.other e true = s.shield l.other e true) ∧
         (∀ e, t.shield l e true = s.shield l e true) ∧ ∀ m e, t.shield m e false = 0) ∧
    (∀ (settingNo v : Nat) (s : State), Ready s .sp →
       (9 < settingNo → exec (.setLimits .sp settingNo v) s = .next (s.refusedWith .sp .setLimits .range)) ∧
         ∀ x, settingOf settingNo = some x →
           (x.inRange v = false → exec (.setLimits .sp settingNo v) s = .next (s.refusedWith .sp .setLimits .range)) ∧
           (x.inRange v = true → s.settingValue x = v →
             exec (.setLimits .sp settingNo v) s = .next (s.replied .sp .setLimits [])) ∧
           (x.inRange v = true → s.settingValue x ≠ v → ∃ t,
             exec (.setLimits .sp settingNo v) s = .next ((t.answer .sp .setLimits []).settleEvent) ∧
               t.settingValue x = v ∧ (∀ y, y ≠ x → t.settingValue y = s.settingValue y) ∧
               t.dirty = insertDirty x.record s.now s.dirty ∧
               (∀ l, (t.lanes.get l).cup = if x = .cupLimit then min (s.lanes.get l).cup v else (s.lanes.get l).cup) ∧
               (∀ l, (t.lanes.get l).outlet =
                 if x = .outletLimit then min (s.lanes.get l).outlet v else (s.lanes.get l).outlet) ∧
               (∀ l, (t.lanes.get l).binding = (s.lanes.get l).binding ∧ (t.lanes.get l).stray = (s.lanes.get l).stray ∧
                 (t.lanes.get l).opened = (s.lanes.get l).opened ∧ (t.lanes.get l).holding = (s.lanes.get l).holding) ∧
               (∀ k, (t.boxes.get k).counts = (s.boxes.get k).counts) ∧
               Saw s t ([Lane.a, Lane.b].flatMap fun l =>
                 if x = .cupLimit ∧ v ≤ (s.lanes.get l).cup ∧ (s.lanes.get l).cup ≠ s.limits.cup ∨
                     x = .outletLimit ∧ v ≤ (s.lanes.get l).outlet ∧ (s.lanes.get l).outlet ≠ s.limits.outlet then
                   [{ kind := .pause, lane := .lane l, slots := some 0, value := 1 }]
                 else []) ∧
               t.units = s.units ∧ t.denoms = s.denoms ∧ t.floors = s.floors ∧ t.sales = s.sales ∧
               t.escrows = s.escrows ∧ SamePlans s t ∧ SameJobs s t ∧ SameMechs s t ∧ SameService s t ∧ SameSupply s t ∧
               SameQueue s t ∧ SameClock s t ∧ SamePaths s t ∧
               t.ports = s.ports.set .sp { s.ports.get .sp with outstanding := some Command.setLimits.byte })) ∧
    (∀ v : Nat,
       (Setting.payoutLimit.inRange v = true ↔ v ≤ 65535) ∧ (Setting.pieceLimit.inRange v = true ↔ 1 ≤ v ∧ v ≤ 60) ∧
         (Setting.effortLimit.inRange v = true ↔ 16 ≤ v ∧ v ≤ 1024) ∧
         (Setting.holdTime.inRange v = true ↔ 5 ≤ v ∧ v ≤ 250) ∧ (Setting.cupLimit.inRange v = true ↔ 1 ≤ v ∧ v ≤ 60) ∧
         (Setting.outletLimit.inRange v = true ↔ 1 ≤ v ∧ v ≤ 20) ∧
         (∀ l, (Setting.weight l).inRange v = true ↔ 1 ≤ v ∧ v ≤ 15) ∧
         ((Setting.cashboxCapacity .coin).inRange v = true ↔ 1 ≤ v ∧ v ≤ 3000) ∧
         ((Setting.cashboxCapacity .note).inRange v = true ↔ 1 ≤ v ∧ v ≤ 1000))

/-- AUDIT_UNIT, CLEAR_JAM and CLEAR_FAULT with maintenance mode: their checks in order, the audited count and LOCKED
state, a JAMMED unit LOCKED, a mechanism in FAULT READY (R131, R132, R142). -/
def Obligations.AuditAndClears : Prop :=
  (∀ (u : UnitId) (count : Nat) (s : State), Ready s .sp → s.key = true →
     ((s.units.get u).capacity < count →
       exec (.auditUnit .sp u.val count) s = .next (s.refusedWith .sp .auditUnit .range)) ∧
       (count ≤ (s.units.get u).capacity →
         ((s.units.get u).state ≠ .locked ∧ (s.units.get u).state ≠ .jammed ∧ (s.units.get u).state ≠ .uncertain ∨
             s.stackDownInto u = true ∨ (s.units.get u).committed ≠ 0 →
           exec (.auditUnit .sp u.val count) s = .next (s.refusedWith .sp .auditUnit .state)) ∧
         ((s.units.get u).state = .locked ∨ (s.units.get u).state = .jammed ∨ (s.units.get u).state = .uncertain →
           s.stackDownInto u = false → (s.units.get u).committed = 0 →
           exec (.auditUnit .sp u.val count) s =
             .next
               (({ s with
                 units := s.units.set u { s.units.get u with count := count, state := .locked }
                 dirty := insertDirty (recUnit u) s.now s.dirty }.replied .sp .auditUnit
                 [countField (s.units.get u).count, countField count]).flush)))) ∧
    (∀ s : State, Ready s .sp → s.key = true →
       (∀ u : UnitId,
         ((s.units.get u).state ≠ .jammed → exec (.clearJam .sp u.val) s = .next (s.refusedWith .sp .clearJam .state)) ∧
         ((s.units.get u).state = .jammed →
           exec (.clearJam .sp u.val) s =
             .next
               (({ s with
                 units := s.units.set u { s.units.get u with state := .locked }
                 dirty := insertDirty (recUnit u) s.now s.dirty }.replied .sp .clearJam []).flush))) ∧
         ∀ k : Kind,
           ((∀ c, (s.mechs.get k).phase ≠ .fault c) ∨ (s.mechs.get k).sense = true →
             exec (.clearFault .sp (kindCode k)) s = .next (s.refusedWith .sp .clearFault .state)) ∧
           (∀ c, (s.mechs.get k).phase = .fault c → (s.mechs.get k).sense = false →
             exec (.clearFault .sp (kindCode k)) s =
               .next
                 (({ s with mechs := s.mechs.set k { s.mechs.get k with phase := .ready } }.replied .sp .clearFault
                   []).settleEvent)))

/-- EMPTY_UNIT queues its job with its pieces committed; CASHBOX_CLEARED answers the box's counts and zeroes them;
COUNTER_SET answers the counter's old value and starts the counter afresh (R148, R149, R150, R183). A sweep check
makes a sweep job of the smallest of three amounts where the unit is ACTIVE, above its high-water mark and without a
service job; the checks of an event are made in ascending unit order (R146, R147). -/
def Obligations.FloatCommands : Prop :=
  (∀ (u : UnitId) (keep : Nat) (s : State), Ready s .sp → s.key = true →
     ((s.units.get u).count ≤ keep →
       exec (.emptyUnit .sp u.val keep) s = .next (s.refusedWith .sp .emptyUnit .range)) ∧
       (keep < (s.units.get u).count →
         ((s.units.get u).state ≠ .locked ∨ (∃ j ∈ s.serviceJobs, j.source = .unit u) →
           exec (.emptyUnit .sp u.val keep) s = .next (s.refusedWith .sp .emptyUnit .state)) ∧
         ((s.units.get u).state = .locked → (∀ j ∈ s.serviceJobs, j.source ≠ .unit u) →
           (8 ≤ s.serviceJobs.length →
             exec (.emptyUnit .sp u.val keep) s = .next (s.refusedWith .sp .emptyUnit .queueFull)) ∧
           (s.serviceJobs.length < 8 →
             exec (.emptyUnit .sp u.val keep) s =
               .next
                 (({ s with
                   serviceJobs := s.serviceJobs ++
                     [({ serial := s.nextJob, origin := .empty, source := .unit u
                         ordered := (s.units.get u).count - keep, done := 0, dest := .cashbox (unitKind u)
                         inFlight := false, stopped := false } : Job)]
                   nextJob := s.nextJob + 1
                   units := s.units.set u { s.units.get u with
                     committed := (s.units.get u).committed + ((s.units.get u).count - keep) }
                   transfers := s.transfers.set u (some
                     ({ kind := .empty, requested := (s.units.get u).count - keep, moved := 0, ended := .running }
                       : Transfer)) }.replied .sp .emptyUnit []).settleEvent))))) ∧
    (∀ (k : Kind) (s : State), Ready s .sp → s.key = true →
       exec (.cashboxCleared .sp (kindCode k)) s =
         .next
           (({ s with
             boxes := s.boxes.set k { s.boxes.get k with counts := Twelve.replicate 0 }
             dirty := insertDirty (recBox k) s.now s.dirty }.replied .sp .cashboxCleared
             ((s.boxes.get k).counts.toList.map countField ++
               [countField (min 65535 (s.boxes.get k).counts.toList.sum)])).settleEvent)) ∧
    (∀ (n : Fin 8) (event laneMask slotMask mode threshold invert : Nat) (s : State), Ready s .sp →
       (12 < event ∨ 7 < laneMask ∨ 4095 < slotMask ∨ 2 < mode ∨ 16 < threshold ∨ 1 < invert →
         exec (.counterSet .sp n.val event laneMask slotMask mode threshold invert) s =
           .next (s.refusedWith .sp .counterSet .range)) ∧
         (∀ (e : SampleKind) (m : CounterMode), event = sampleKindCode e → laneMask ≤ 7 → slotMask ≤ 4095 →
           mode = counterModeCode m → threshold ≤ 16 → invert ≤ 1 →
           exec (.counterSet .sp n.val event laneMask slotMask mode threshold invert) s =
             .next
               (({ s with
                 counters := s.counters.set n
                   { select :=
                       { event := e, laneMask := BitVec.ofNat 3 laneMask, slotMask := BitVec.ofNat 12 slotMask, mode := m
                         threshold := threshold, invert := decide (invert = 1) }
                     value := 0, edge := false }
                 dirty := insertDirty recSelects s.now s.dirty }.replied .sp .counterSet
                 [⟨4, (s.counters.get n).value⟩]).flush))) ∧
    (∀ (u : UnitId) (s : State),
       let r := s.units.get u
       (r.state ≠ .active ∨ r.count ≤ r.highWater ∨ r.slot = none ∨ (∃ j ∈ s.serviceJobs, j.source = .unit u) →
           s.sweepCheck u = s) ∧
         ∀ d, r.slot = some d → r.state = .active → r.highWater < r.count → (∀ j ∈ s.serviceJobs, j.source ≠ .unit u) →
           let n := min (r.count - r.sweepTarget)
             (min (r.count - r.committed) (s.freeActive d - s.reservedTotal d))
           (n = 0 ∨ 8 ≤ s.serviceJobs.length → s.sweepCheck u = s) ∧
             (0 < n → s.serviceJobs.length < 8 →
               s.sweepCheck u =
                 { s with
                   serviceJobs := s.serviceJobs ++
                     [({ serial := s.nextJob, origin := .sweep, source := .unit u, ordered := n, done := 0
                         dest := .cashbox (unitKind u), inFlight := false, stopped := false } : Job)]
                   nextJob := s.nextJob + 1
                   units := s.units.set u { r with committed := r.committed + n }
                   transfers := s.transfers.set u
                     (some ({ kind := .sweep, requested := n, moved := 0, ended := .running } : Transfer)) })) ∧
    (∀ (left : List Reservation) (stored : List UnitId) (s : State),
       (∀ u, s.sweepDue left stored u = true ↔ u ∈ stored ∨ (s.units.get u).state = .active ∧
         ∃ d, (s.units.get u).slot = some d ∧ ∃ r ∈ left, ∃ e ∈ r.counts, e.1 = d) ∧
         s.sweepChecks left stored = ([0, 1, 2, 3, 4, 5, 6, 7, 8, 9, 10, 11] : List UnitId).foldl
           (fun t u => if t.sweepDue left stored u then t.sweepCheck u else t) s)

/-- FLOAT_IN_BEGIN and FLOAT_IN_END: their checks in order, the binding and the owner they set, the tally cleared at
the begin and answered at the end (R143, R145). That the total is taken at the slots' present values and not at those
the pieces were credited with is the model's choice (log 35, R139 against R145). A total above 999,999 is encoded as
the model's free value gives (log 14). -/
def Obligations.FloatIn : Prop :=
  ∀ (l : Lane) (s : State), Ready s .sp →
    ((s.escrows.get l).owner = .orphan ∨ (s.escrows.get l).status = .fault →
        exec (.floatInBegin .sp (laneCode l)) s = .next (s.refusedWith .sp .floatInBegin .state)) ∧
      ((s.escrows.get l).owner ≠ .orphan → (s.escrows.get l).status ≠ .fault →
        ((s.lanes.get l).binding ≠ .none ∨ (s.escrows.get l).entries ≠ [] ∨ (s.escrows.get l).owner ≠ .none →
          exec (.floatInBegin .sp (laneCode l)) s = .next (s.refusedWith .sp .floatInBegin .busy)) ∧
        ((s.lanes.get l).binding = .none → (s.escrows.get l).entries = [] → (s.escrows.get l).owner = .none →
          exec (.floatInBegin .sp (laneCode l)) s =
            .next
              (({ s with
                lanes := s.lanes.set l { s.lanes.get l with binding := .floatIn }
                escrows := s.escrows.set l { s.escrows.get l with owner := .floatIn }
                dirty := insertDirty (recEscrow l) s.now s.dirty
                tallies := s.tallies.set l (Twelve.replicate 0) }.replied .sp .floatInBegin []).flush))) ∧
      ((s.lanes.get l).binding ≠ .floatIn →
        exec (.floatInEnd .sp (laneCode l)) s = .next (s.refusedWith .sp .floatInEnd .state)) ∧
      ((s.lanes.get l).binding = .floatIn →
        exec (.floatInEnd .sp (laneCode l)) s =
          .next
            (({ s with
              lanes := s.lanes.set l { s.lanes.get l with binding := .none }
              escrows :=
                if (s.escrows.get l).entries = [] then s.escrows.set l { s.escrows.get l with owner := EscrowOwner.none }
                else s.escrows
              dirty :=
                if (s.escrows.get l).entries = [] ∧ (s.escrows.get l).owner ≠ EscrowOwner.none then
                  insertDirty (recEscrow l) s.now s.dirty
                else s.dirty }.replied .sp .floatInEnd
              ((allSlots.map fun d => countField ((s.tallies.get l).get d)) ++
                [amountField ((allSlots.map fun d => (s.tallies.get l).get d * (s.denoms.get d).value).sum)])).flush))

/-- CLEAR_ESCROW with maintenance mode: an escrow that is neither ORPHAN and IDLE nor in FAULT is refused; RETURN
begins a return, and ends it at once where the sensor already shows empty (R43); KEEP answers the value of the
entries, takes the stack for a stack-down, and gives the value credited to a REFUNDING owner sale back to its refund:
the refund amount rises, and the value is added to the sale's pending request or placed as a REFUND request (R45). A
KEEP whose credited value is 0 places no request (log 19, read by inference); a sum above 999,999 is a free value in
the range of the field (log 15). -/
def Obligations.ClearEscrow : Prop :=
  ∀ (l : Lane) (s : State), Ready s .sp → s.key = true →
    (¬ ((s.escrows.get l).owner = .orphan ∧ (s.escrows.get l).status = .idle ∨ (s.escrows.get l).status = .fault) →
        ∀ a ≤ 1, exec (.clearEscrow .sp (laneCode l) a) s = .next (s.refusedWith .sp .clearEscrow .state)) ∧
      ((s.escrows.get l).owner = .orphan ∧ (s.escrows.get l).status = .idle ∨ (s.escrows.get l).status = .fault →
        ((s.escrows.get l).sensorEmpty = false →
          exec (.clearEscrow .sp (laneCode l) 0) s =
            .next
              (({ s with escrows := s.escrows.set l { s.escrows.get l with status := .returning (s.now + 3000) }
                }.replied .sp .clearEscrow []).settleEvent)) ∧
        ((s.escrows.get l).sensorEmpty = true → ∃ t,
          exec (.clearEscrow .sp (laneCode l) 0) s = .next t.settleEvent ∧
            t.ports = (s.replied .sp .clearEscrow []).ports ∧
            t.escrows = s.escrows.set l { entries := [], owner := .none, status := .idle, sensorEmpty := true } ∧
            t.lanes = s.lanes.set l { s.lanes.get l with
              stray := (s.lanes.get l).stray -
                (((s.escrows.get l).entries.filter fun n => decide (n.credit = .stray)).map fun n =>
                  (s.denoms.get n.slot).value).sum } ∧
            t.dirty = insertDirty (recEscrow l) s.now s.dirty ∧
            (∀ tag x, (s.escrows.get l).owner = .sale tag → s.findSale l tag = some x →
              (s.hasJobs l tag = false → s.hasRequest l tag = false → x.state = .refunding →
                t.findSale l tag = some { x with state := .cancelled } ∧ (t.events.get l.port).finished =
                  pushLast (s.events.get l.port).finished (tag, .cancelled)) ∧
              (s.hasJobs l tag = true ∨ s.hasRequest l tag = true → t.sales = s.sales ∧ t.events = s.events)) ∧
            ((s.escrows.get l).owner = .orphan → t.sales = s.sales ∧ t.events = s.events) ∧
            SameStores s t ∧ SameConfig s t ∧ SamePlans s t ∧ SameJobs s t ∧ SameMechs s t) ∧
        ∃ t, exec (.clearEscrow .sp (laneCode l) 1) s = .next t.settleEvent ∧
          t.ports = (s.replied .sp .clearEscrow
            [amountField (((s.escrows.get l).entries.map fun e => (s.denoms.get e.slot).value).sum)]).ports ∧
          (t.escrows.get l).entries = (s.escrows.get l).entries ∧ (t.escrows.get l).status = .idle ∧
          SameStores s t ∧ SameConfig s t ∧ t.lanes = s.lanes ∧ t.escrows.get l.other = s.escrows.get l.other ∧
          t.laneJobs = s.laneJobs ∧ t.serviceJobs = s.serviceJobs ∧ SameMechs s t ∧ SameSupply s t ∧ SameQueue s t ∧
          ((s.escrows.get l).entries = [] → (t.escrows.get l).owner = .none ∧ t.stackJobs = s.stackJobs) ∧
          ((s.escrows.get l).entries ≠ [] → (t.escrows.get l).owner = .stacking ∧ ∃ j,
            t.stackJobs = (s.stackJobs.filter fun i => decide (i.source ≠ .escrow l)) ++ [j] ∧ j.origin = .stackDown ∧ j.source = .escrow l ∧
              j.ordered = (s.escrows.get l).entries.length ∧ j.done = 0) ∧
          ((∀ tag, (s.escrows.get l).owner ≠ .sale tag) → t.sales = s.sales ∧ t.planReqs = s.planReqs ∧ t.events = s.events) ∧
          ∀ tag, (s.escrows.get l).owner = .sale tag →
            let v := (((s.escrows.get l).entries.filter fun e => decide (e.credit = .sale)).map fun e =>
              (s.denoms.get e.slot).value).sum
            (v = 0 → t.planReqs = s.planReqs) ∧
              (0 < v → s.hasRequest l tag = false → t.planReqs =
                insertReq { lane := l, tag := tag, kind := .refund, amount := boundAmount v, shielded := false }
                  s.planReqs) ∧
              (0 < v → ∀ e, s.planReqs.find? (fun r => r.isOf l tag) = some e → t.planReqs =
                s.planReqs.map fun r => if r.isOf l tag then { e with amount := boundAmount (e.amount + v) } else r) ∧
              ∀ x, s.findSale l tag = some x → ∃ y, t.findSale l tag = some y ∧
                y.refund = x.refund.map (fun r => boundAmount (r + v)) ∧ y.refundShortfall = x.refundShortfall ∧
                y.paid = x.paid ∧
                (0 < v ∨ s.hasJobs l tag = true ∨ s.hasRequest l tag = true →
                  y.state = x.state ∧ t.events = s.events) ∧
                (v = 0 → s.hasJobs l tag = false → s.hasRequest l tag = false → x.state = .refunding →
                  y.state = .cancelled ∧ (t.events.get l.port).finished =
                    pushLast (s.events.get l.port).finished (tag, .cancelled)))

/-- RESTART with maintenance mode is answered OK and does nothing yet; when the last byte of that reply has gone, the
warm reset takes place with cause RESTART_COMMAND. Any other frame's last byte ends its request and starts the frame
that waits longest (R159, R169, R170). That the reply's end moves no clock is the model's choice (log 26), and
that a RESTART reply which a warm reset left being sent resets again at its end is read by inference (log 25). -/
def Obligations.RestartAndReplySent : Prop :=
  ∀ s : State,
    (Ready s .sp → s.key = true → exec (.restart .sp) s = .next (s.replied .sp .restart [])) ∧
      (∀ (p : Port) (f : Frame), s.Running → (s.ports.get p).sending = some f →
        (f.command = Command.restart.byte → f.code = .ok →
          exec (.replySent p) s =
            .next
              ({ s with ports := s.ports.set p { s.ports.get p with outstanding := none, sending := none } }.warmReset
                .restartCommand)) ∧
        (f.command ≠ Command.restart.byte ∨ f.code ≠ .ok →
          exec (.replySent p) s =
            .next
              { s with
                ports := s.ports.set p
                  (match (s.ports.get p).waiting with
                    | [] => { s.ports.get p with
                        outstanding := if f.answers then none else (s.ports.get p).outstanding, sending := none }
                    | g :: rest => { s.ports.get p with
                        outstanding := if f.answers then none else (s.ports.get p).outstanding
                        sending := some g, sendEnds := s.now + g.sendTime, waiting := rest }) }))

/-- The reads: what each lists, a parameter out of range refused, and no change but the port's transmitter (R21, R79,
R88, R111, R133, R151, R165, R184). READ_MECHANISM gives the state, the cause in FAULT, the sense level and, in
EJECTING, the job's place, its position there counted from 1, its origin, the source, the destination, the attempt and
fault pending (R133). READ_QUEUE gives each job's origin, class, source, ordered and done counts, destination and
marks, for a lane queue the delivery counts and whether they are paused, and the turn states (R111). Reply layouts
that the spec does not give in full are the model's (log 12, log 13), and the fields of an absent transfer and of an
IDLE writer's record are free values (log 16). -/
def Obligations.Reads : Prop :=
  (∀ (p : Port) (s : State), Ready s p →
     (∀ n, 12 ≤ n → exec (.readDenom p n) s = .next (s.refusedWith p .readDenom .range) ∧
         exec (.readUnit p n) s = .next (s.refusedWith p .readUnit .range)) ∧
       (∀ n, 2 ≤ n → exec (.readCashbox p n) s = .next (s.refusedWith p .readCashbox .range)) ∧
       (∀ d : Slot,
         exec (.readDenom p d.val) s =
           .next
             (s.replied p .readDenom
               [amountField (s.denoms.get d).value, byteField (kindCode (s.denoms.get d).kind),
                 flagField (s.denoms.get d).enabled, flagField (s.denoms.get d).accept,
                 flagField (s.denoms.get d).recycle, countField (s.denoms.get d).lowWater])) ∧
       (∀ u : UnitId,
         exec (.readUnit p u.val) s =
           .next
             (s.replied p .readUnit
               [slotField (s.units.get u).slot, countField (s.units.get u).count,
                 countField (s.units.get u).committed, countField (s.units.get u).capacity,
                 countField (s.units.get u).highWater, countField (s.units.get u).sweepTarget,
                 byteField (laneMaskCode (s.units.get u).mask), byteField (unitStateCode (s.units.get u).state),
                 countField ((s.units.get u).count - (s.units.get u).committed),
                 byteField ((if s.serves u .a then 1 else 0) + 2 * (if s.serves u .b then 1 else 0))])) ∧
       ∀ k : Kind,
         exec (.readCashbox p (kindCode k)) s =
           .next
             (s.replied p .readCashbox
               (((s.boxes.get k).counts.toList.map countField ++
                   [countField (min 65535 (s.boxes.get k).counts.toList.sum)]) ++
                 [countField (s.boxes.get k).capacity,
                   flagField (decide ((s.boxes.get k).capacity ≤ min 65535 (s.boxes.get k).counts.toList.sum))]))) ∧
    (∀ (p : Port) (s : State), Ready s p →
       exec (.readReservations p) s =
           .next
             (s.replied p .readReservations
               (listFields (s.reservations.map fun r =>
                   [tagField r.tag, byteField (laneCode r.lane), holdField (some (secondsLeft s.now r.ends))] ++
                     countsFields (some r.counts)) ++
                 (allSlots.map fun d =>
                   [countField (s.reservedTotal d), countField (s.reservedLane .a d), countField (s.reservedLane .b d),
                     countField (s.backing d)]).flatten)) ∧
         (∀ l : Lane,
           exec (.readFloors p (laneCode l)) s =
             .next
               (s.replied p .readFloors
                 (((s.floors.get l).toList.map countField) ++
                   [flagField (s.lanes.get l).opened, flagField (!(s.lanes.get l).holding),
                     flagField (s.lanes.get l).blockedSale.isSome, tagField ((s.lanes.get l).blockedSale.getD 0),
                     maskField (s.lanes.get l).asked]))) ∧
         (let job := fun j : Job => originFields j.origin ++
            [byteField (match j.origin with
              | .sale _ _ => 1
              | .stackDown => 0
              | _ => 2), byteField (sourceCode j.source), countField j.ordered, countField j.done,
              byteField (destCode j.dest), flagField j.inFlight, flagField j.stopped]
          let turns := [byteField (laneCode s.turns.coin.holder), byteField s.turns.coin.allowance,
            byteField (laneCode s.turns.note.holder), byteField s.turns.note.allowance,
            byteField (phaseCode s.mechs.coin.phase), byteField (phaseCode s.mechs.note.phase)]
          (∀ l : Lane, exec (.readQueue p (laneCode l)) s =
            .next
              (s.replied p .readQueue
                (listFields ((s.laneJobs.get l).map job) ++
                  [byteField (s.lanes.get l).cup, byteField (s.lanes.get l).outlet,
                    flagField (decide ((s.lanes.get l).cup = s.limits.cup)),
                    flagField (decide ((s.lanes.get l).outlet = s.limits.outlet))] ++ turns))) ∧
            exec (.readQueue p 2) s =
              .next (s.replied p .readQueue (listFields (s.serviceJobs.map job) ++ turns)) ∧
            exec (.readQueue p 3) s =
              .next (s.replied p .readQueue (listFields (s.stackJobs.map job) ++ turns))) ∧
         (∀ k : Kind, exec (.readMechanism p (kindCode k)) s = .next (s.replied p .readMechanism (s.mechanismFields k)) ∧
           let sense := flagField (s.mechs.get k).sense
           ((s.mechs.get k).phase = .ready → s.mechanismFields k = [byteField 0, sense]) ∧
             (∀ c, (s.mechs.get k).phase = .fault c →
               s.mechanismFields k = [byteField 2, byteField (faultCauseCode (some c)), sense]) ∧
             ∀ e n x front j back, (s.mechs.get k).phase = .ejecting e → placeOf n = some x →
               s.jobsAt x = front ++ j :: back → j.serial = e.job → (s.allJobs.map Job.serial).Nodup →
               s.mechanismFields k =
                 [byteField 1, sense, byteField n, byteField (front.length + 1)] ++ originFields j.origin ++
                   [byteField (sourceCode e.source), byteField (destCode e.dest), byteField e.attempt,
                     flagField e.faultPending]) ∧
         ∀ n, (2 ≤ n → exec (.readFloors p n) s = .next (s.refusedWith p .readFloors .range) ∧
             exec (.readMechanism p n) s = .next (s.refusedWith p .readMechanism .range)) ∧
           (4 ≤ n → exec (.readQueue p n) s = .next (s.refusedWith p .readQueue .range))) ∧
    (∀ (p : Port) (s : State), Ready s p →
       exec (.readService p) s =
           .next
             (s.replied p .readService
               ([flagField s.key] ++
                 (bindingFields (s.lanes.get .a).binding ++ (s.tallies.get .a).toList.map countField) ++
                 (bindingFields (s.lanes.get .b).binding ++ (s.tallies.get .b).toList.map countField) ++
                 (s.transfers.toList.map fun x => match x with
                   | some t => [byteField (transferKindCode (some t.kind)), countField t.requested, countField t.moved,
                       byteField (transferEndCode t.ended)]
                   | none => [byteField (transferKindCode none), ⟨2, (Config.openField .absentRequested).toNat⟩,
                       ⟨2, (Config.openField .absentMoved).toNat⟩,
                       ⟨1, ((Config.openField .absentEnd).setWidth 8).toNat⟩]).flatten)) ∧
         (∃ m : BitVec 22, (∀ r : RecordNo, m.getLsbD r.val = true ↔ ∃ since, (r, since) ∈ s.dirty) ∧
         exec (.readStore p) s =
           .next
             (s.replied p .readStore
               ([flagField s.pfw, flagField s.armed] ++
                 (match s.writer with
                   | .idle => [byteField 0, ⟨1, ((Config.openField .idleRecord).setWidth 8).toNat⟩]
                   | .writing x => [byteField 1, byteField x.record.val]) ++
                 [byteField s.scan.val, recordSetField m] ++
                 (s.dirty.map fun e => timeField (s.now - e.2)) ++
                 [flagField (decide (s.writer = .idle) && s.dirty.isEmpty), byteField (restartCauseCode s.lastCause),
                   recordSetField s.lastFailed]))) ∧
         (∀ n : Fin 8,
           exec (.counterRead p n.val) s =
             .next
               (s.replied p .counterRead
                 [byteField (sampleKindCode (s.counters.get n).select.event),
                   byteField (s.counters.get n).select.laneMask.toNat, maskField (s.counters.get n).select.slotMask,
                   byteField (counterModeCode (s.counters.get n).select.mode),
                   byteField (s.counters.get n).select.threshold, flagField (s.counters.get n).select.invert,
                   quadField (s.counters.get n).value, flagField (s.counters.get n).edge])) ∧
         ∀ n, 8 ≤ n → exec (.counterRead p n) s = .next (s.refusedWith p .counterRead .range))

/-- READ_EVENTS: the reply gives the mask, the bitmap of the pending kinds, and each pending kind's code and detail in
ascending code; every latched kind is cleared with its detail or list; the mask, the other ports' sets and every level
condition stay (R176). The detail of each kind is the one of the table of R173; the codes of fault causes and boxes
are the model's (log 12). -/
def Obligations.ReadEvents : Prop :=
  (∀ (p : Port) (s : State), Ready s p → ∃ n : Nat,
     exec (.readEvents p) s =
         .next
           { s.replied p .readEvents
               ([⟨2, (s.events.get p).mask.toNat⟩, ⟨3, n⟩] ++
                 ((allEventKinds.filter fun k => s.pendingAt p k).map fun k =>
                   byteField k.code :: s.eventDetail p k).flatten) with
             events := s.events.set p { EventSet.clear with mask := (s.events.get p).mask } } ∧
       n < 2 ^ 17 ∧ (∀ k : EventKind, n.testBit (k.code - 1) = s.pendingAt p k)) ∧
    (∀ (p : Port) (s : State),
       let e := s.events.get p
       let cause := fun k => match (s.mechs.get k).phase with
         | .fault .faultSense => 0
         | .fault .stackTimeout => 1
         | .fault .stackDouble => 2
         | _ => 3
       (∀ c f, e.restarted = some (c, f) → s.eventDetail p .restarted = [⟨1, restartCauseCode c⟩, ⟨3, f.toNat⟩]) ∧
         s.eventDetail p .mechFault = [⟨1, cause .coin⟩, ⟨1, cause .note⟩] ∧
         (∃ m : Mask12, s.eventDetail p .unitJammed = [⟨2, m.toNat⟩] ∧
           ∀ u : UnitId, m.getLsbD u.val = decide ((s.units.get u).state = .jammed)) ∧
         (∃ m : Mask12, s.eventDetail p .unitUncertain = [⟨2, m.toNat⟩] ∧
           ∀ u : UnitId, m.getLsbD u.val = decide ((s.units.get u).state = .uncertain)) ∧
         (∃ m : Mask12, s.eventDetail p .lowStock = [⟨2, m.toNat⟩] ∧ ∀ d : Slot, m.getLsbD d.val =
           ((s.denoms.get d).enabled && decide (0 < (s.denoms.get d).lowWater) &&
             decide (s.stock d < (s.denoms.get d).lowWater))) ∧
         (∀ l tag, e.escrowFault = some (l, tag) → s.eventDetail p .escrowFault = [⟨1, laneCode l⟩, ⟨2, tag⟩]) ∧
         s.eventDetail p .planWithdrawn = ⟨1, e.withdrawn.length⟩ :: e.withdrawn.map (fun n => ⟨2, n⟩) ∧
         s.eventDetail p .planExpired = ⟨1, e.expired.length⟩ :: e.expired.map (fun n => ⟨2, n⟩) ∧
         s.eventDetail p .saleFinished =
           ⟨1, e.finished.length⟩ :: (e.finished.map fun x => [⟨2, x.1⟩, ⟨1, saleStateCode x.2⟩]).flatten ∧
         (∀ tag, e.granted = some tag → s.eventDetail p .floorGranted = [⟨2, tag⟩]) ∧
         (∀ v ≤ 999999, e.strayRise = some v → s.eventDetail p .strayCredit = [⟨3, v⟩]) ∧
         (∀ n, e.wrapped = some n → s.eventDetail p .counterWrap = [⟨1, n.val⟩]) ∧
         (∀ u k, ∀ n ≤ 65535, e.transferDone = some (u, k, n) → s.eventDetail p .transferDone =
           [⟨1, u.val⟩, ⟨1, if k = .sweep then 0 else 1⟩, ⟨2, n⟩]) ∧
         (s.boxFull .coin = true → s.eventDetail p .cashboxFull = [⟨1, if s.boxFull .note then 2 else 0⟩]) ∧
         (s.boxFull .coin = false → s.eventDetail p .cashboxFull = [⟨1, 1⟩]) ∧
         ∀ l, p.lane = some l →
           s.eventDetail p .floorAsked = [⟨2, (s.lanes.get l.other).asked.toNat⟩] ∧
             s.eventDetail p .cupFull = [⟨1, (s.lanes.get l).cup⟩, ⟨1, s.limits.cup⟩] ∧
             s.eventDetail p .outletFull = [⟨1, (s.lanes.get l).outlet⟩, ⟨1, s.limits.outlet⟩])

/-- SET_EVENT_MASK writes the port's mask; the attention line is asserted while a pending kind is not masked, and
RESTARTED is never masked; each level event is pending exactly while its condition holds (R173, R175, R177). -/
def Obligations.MaskAndLevels : Prop :=
  (∀ (p : Port) (s : State),
     (Ready s p → ∀ mask < 65536,
       exec (.setEventMask p mask) s =
         .next
           ({ s with events := s.events.set p { s.events.get p with mask := BitVec.ofNat 16 mask } }.replied p
             .setEventMask [⟨2, mask⟩])) ∧
       (s.powered = true → (s.attention p = true ↔
         ∃ k : EventKind, s.pendingAt p k = true ∧
           (k = .restarted ∨ (s.events.get p).mask.getLsbD (k.code - 2) = false)))) ∧
    (∀ (p : Port) (s : State),
       (s.pendingAt p .mechFault = true ↔ ∃ k c, (s.mechs.get k).phase = .fault c) ∧
         (s.pendingAt p .unitJammed = true ↔ ∃ u, (s.units.get u).state = .jammed) ∧
         (s.pendingAt p .unitUncertain = true ↔ p = .sp ∧ ∃ u, (s.units.get u).state = .uncertain) ∧
         (s.pendingAt p .cashboxFull = true ↔ p = .sp ∧ ∃ k,
           (s.boxes.get k).capacity ≤ min 65535 (s.boxes.get k).counts.toList.sum) ∧
         (s.pendingAt p .lowStock = true ↔ ∃ d, (s.denoms.get d).enabled = true ∧ 0 < (s.denoms.get d).lowWater ∧
           s.stock d < (s.denoms.get d).lowWater) ∧
         (∀ l, p.lane = some l →
           (s.pendingAt p .cupFull = true ↔ (s.lanes.get l).cup = s.limits.cup) ∧
           (s.pendingAt p .outletFull = true ↔ (s.lanes.get l).outlet = s.limits.outlet) ∧
           (s.pendingAt p .floorAsked = true ↔ (s.lanes.get l.other).blockedSale ≠ none ∧
             (s.lanes.get l).opened = true ∧ (s.lanes.get l).holding = true)))

/-- What becomes of a request, whichever it is: without supply nothing; BUSY or dropped at a port with an outstanding
request; UNKNOWN where the port may not send it; otherwise it is outstanding, and either refused with no other effect
than REFUSED, or answered OK with one frame, or, a QUOTE taken, not answered yet (R166, R170, R172). That a request
without supply changes nothing is the model's choice (log 6). -/
def Obligations.RequestOutcome : Prop :=
  ∀ (i : Instr) (p : Port) (c : Command) (vs : List Nat) (s : State), requestParts i = some (p, c, vs) →
    (s.powered = false → exec i s = .next s) ∧
      (s.Running → (s.ports.get p).outstanding ≠ none →
        exec i s =
          .next
            (if (s.ports.get p).busyWaiting < 2 then
              (s.pushFrame p { command := c.byte, code := .busy, data := [], answers := false }).sampleRefused p
            else s)) ∧
      (Ready s p → c.permitted p = false → exec i s = .next (s.refusedWith p c .unknown)) ∧
      (Ready s p → c.permitted p = true →
        (∃ code, code ≠ ReplyCode.ok ∧ exec i s = .next (s.refusedWith p c code)) ∨
          (∃ t data, exec i s = .next t ∧ t.ports = (s.replied p c data).ports) ∨
          (c = .quote ∧ ∃ t, exec i s = .next t ∧
            t.ports = s.ports.set p { s.ports.get p with outstanding := some c.byte }))

/-- BUSY_REPLY and UNKNOWN_REPLY, discarded frames and long pauses, and the receiver's states byte by byte: nothing
but the port, and for a refusal the counters, changes (R166, R169, R170). A byte that comes more than 10 ms after the
last one is taken in HUNT, whatever was kept (R166). The clock after a long pause, and the time kept of the last byte
in whole milliseconds, are the model's choice (log 3, log 26). The last byte of a whole frame that carries no request:
BUSY at a port with an outstanding request; UNKNOWN where the port may not send the command byte; and RANGE, behind
the maintenance mode check of a keyed command, where the parameters have another length than the command's (R134,
R168, R170; the length and its order are read by inference, log 27). -/
def Obligations.Links : Prop :=
  (∀ (p : Port) (b : Byte) (s : State), s.Running →
     ((s.ports.get p).outstanding ≠ none → (s.ports.get p).busyWaiting < 2 →
         exec (.busyReply p b) s =
           .next ((s.pushFrame p { command := b, code := .busy, data := [], answers := false }).sampleRefused p)) ∧
       ((s.ports.get p).outstanding ≠ none → 2 ≤ (s.ports.get p).busyWaiting → exec (.busyReply p b) s = .next s) ∧
       ((∀ c : Command, c.byte = b → c.permitted p = false) → (s.ports.get p).outstanding = none →
         exec (.unknownReply p b) s =
           .next
             (({ s with ports := s.ports.set p { s.ports.get p with outstanding := some b } }.pushFrame p
               { command := b, code := .unknown, data := [], answers := true }).sampleRefused p))) ∧
    (∀ (p : Port) (s : State), s.Running →
       exec (.frameDiscard p) s = .next { s with ports := s.ports.set p { s.ports.get p with receiver := .hunt } } ∧
         ((s.ports.get p).receiver ≠ .hunt →
           exec (.interByteTimeout p) s =
             .next
               { s with
                 now := max s.now ((s.ports.get p).lastByteAt + 11)
                 ports := s.ports.set p { s.ports.get p with receiver := .hunt } })) ∧
    (∀ b : Byte,
       (Receiver.hunt.take b = (if b = 0xA7#8 then .length else .hunt, none)) ∧
         (1 ≤ b.toNat → b.toNat ≤ 60 → Receiver.length.take b = (.body b.toNat [], none)) ∧
         (b.toNat = 0 ∨ 60 < b.toNat → Receiver.length.take b = (.hunt, none)) ∧
         (∀ len kept, kept.length + 1 < len → (Receiver.body len kept).take b = (.body len (kept ++ [b]), none)) ∧
         (∀ len kept, len = kept.length + 1 → (Receiver.body len kept).take b = (.check len (kept ++ [b]) none, none)) ∧
         (∀ len kept, (Receiver.check len kept none).take b = (.check len kept (some b), none)) ∧
         (∀ len kept (first : Byte),
           (first.toNat * 256 + b.toNat = (crc16 (BitVec.ofNat 8 len :: kept)).toNat →
             (Receiver.check len kept (some first)).take b = (.hunt, some kept)) ∧
           (first.toNat * 256 + b.toNat ≠ (crc16 (BitVec.ofNat 8 len :: kept)).toNat →
             (Receiver.check len kept (some first)).take b = (.hunt, none)))) ∧
    (∀ (p : Port) (b : Byte) (s : State), s.Running →
       let before := if (s.ports.get p).lastByteAt + 11 ≤ s.now then Receiver.hunt else (s.ports.get p).receiver
       (before.take b).2 = none →
       exec (.byteReceived p b) s =
         .next
           { s with ports := s.ports.set p { s.ports.get p with receiver := (before.take b).1, lastByteAt := s.now } }) ∧
    (∀ (p : Port) (len : Nat) (c first b : Byte) (params : List Byte) (s : State), s.Running →
       (s.ports.get p).receiver = .check len (c :: params) (some first) → s.now < (s.ports.get p).lastByteAt + 11 →
       first.toNat * 256 + b.toNat = (crc16 (BitVec.ofNat 8 len :: c :: params)).toNat →
       (∀ x : Command, x.byte = c → params.length ≠ (x.widths p).sum) →
       let t : State := { s with ports := s.ports.set p { s.ports.get p with receiver := .hunt, lastByteAt := s.now } }
       decodeRequest p c params = none ∧
         ((s.ports.get p).outstanding ≠ none →
           exec (.byteReceived p b) s =
             .next
               (if (s.ports.get p).busyWaiting < 2 then
                 (t.pushFrame p { command := c, code := .busy, data := [], answers := false }).sampleRefused p
               else t)) ∧
         ((s.ports.get p).outstanding = none →
           ((∀ x : Command, x.byte = c → x.permitted p = false) →
             exec (.byteReceived p b) s =
               .next
                 (({ t with ports := t.ports.set p { t.ports.get p with outstanding := some c } }.pushFrame p
                   { command := c, code := .unknown, data := [], answers := true }).sampleRefused p)) ∧
           ∀ x : Command, x.byte = c → x.permitted p = true →
             exec (.byteReceived p b) s =
               .next (t.refusedWith p x (if x.keyed = true ∧ s.key = false then .notPermitted else .range))))

/-- Encoding and decoding agree: the parameters of every well-formed request, written with the widths of R168, are
read back as that request. -/
def Obligations.RequestRoundTrip : Prop :=
  ∀ (i : Instr) (p : Port) (c : Command) (vs : List Nat),
    i.wellFormed = true → requestParts i = some (p, c, vs) →
    decodeRequest p c.byte (joinFields (c.widths p) vs) = some i

/-- The bytes of a whole request frame, received one after the other at a port in HUNT, run exactly that request
(R166, R167, R170). -/
def Obligations.FrameRunsRequest : Prop :=
  ∀ (i : Instr) (p : Port) (c : Command) (vs : List Nat) (bytes : List Byte) (s : State),
    i.wellFormed = true → requestParts i = some (p, c, vs) → encodeRequest i = some bytes →
    s.Running → (s.ports.get p).receiver = .hunt →
    runAll (bytes.map (Instr.byteReceived p)) s =
      exec i { s with ports := s.ports.set p { s.ports.get p with lastByteAt := s.now } }

/-- Where a piece goes (R16, R18): for an enabled slot of its kind with recycle set, the ACTIVE unit of the slot with
the lowest count below high-water (below capacity under FLOAT_IN), the lower number on equal counts; else the cashbox
while it is not FULL; else, with recycle set, such a unit below capacity; else nowhere. An accept line is on exactly
while the head is bound to FLOAT_IN or to a sale below its tender ceiling, the slot is enabled and accepted, a note
finds room on the stack, and the piece has a route (R19, R34). That the lines are off without supply is the model's
choice (log 24). -/
def Obligations.Route : Prop :=
  (∀ (k : Kind) (d : Slot) (floatIn : Bool) (s : State),
     let lim := if floatIn then UnitRec.capacity else UnitRec.highWater
     let recycled := (s.denoms.get d).enabled = true ∧ (s.denoms.get d).kind = k ∧ (s.denoms.get d).recycle = true
     (recycled → ∀ u, s.route k d floatIn = some (.unit u) ↔
         s.Emptiest k d lim u ∨ (∀ v, ¬ s.Fits k d lim v) ∧ s.boxFull k = true ∧ s.Emptiest k d UnitRec.capacity u) ∧
       (¬ recycled → ∀ u, s.route k d floatIn ≠ some (.unit u)) ∧
       (s.route k d floatIn = some .cashbox ↔ s.boxFull k = false ∧ (recycled → ∀ u, ¬ s.Fits k d lim u)) ∧
       (s.route k d floatIn = none ↔
         s.boxFull k = true ∧ (recycled → ∀ u, ¬ s.Fits k d lim u ∧ ¬ s.Fits k d UnitRec.capacity u))) ∧
    (∀ (l : Lane) (d : Slot) (s : State),
       let x := s.denoms.get d
       s.acceptLine l d = true ↔ s.powered = true ∧ x.enabled = true ∧ x.accept = true ∧
         ((s.lanes.get l).binding = .floatIn ∨ ∃ tag y, (s.lanes.get l).binding = .sale tag ∧
           s.findSale l tag = some y ∧ y.coinValue + y.noteValue < min 999999 (y.due + s.limits.payout)) ∧
         (x.kind = .note → (s.escrows.get l).entries.length < 8) ∧
         s.route x.kind d (decide ((s.lanes.get l).binding = .floatIn)) ≠ none)

/-- COIN_PIECE_REPORT: the coin path is set to the coin's store and the coin is counted there, in the coin cashbox
where it has no route; an enabled COIN slot's value is credited by the head's binding, any other coin is only counted
(R16, R17, R37, R144). A tender saturates at 999,999, its excess is stray credit, and each rise of the stray credit
raises STRAY_CREDIT with the credit after it (R35, R38). The counters see PIECE_IN, and PIECE_TO_CASHBOX for a coin of
the cashbox (R180). -/
def Obligations.CoinReport : Prop :=
  ∀ (l : Lane) (d : Slot) (s : State), s.Running →
    let taken := (s.denoms.get d).enabled = true ∧ (s.denoms.get d).kind = .coin
    let floatIn := decide ((s.lanes.get l).binding = .floatIn)
    let store := if taken then (s.route .coin d floatIn).getD .cashbox else .cashbox
    let v := (s.denoms.get d).value
    ∃ t, exec (.coinPieceReport l d) s =
        .next (t.conclude false [] (match store with
          | .unit u => if floatIn then [] else [u]
          | .cashbox => [])) ∧
      t.coinPaths = s.coinPaths.set l (some store) ∧
      Saw s t ({ kind := .pieceIn, lane := .lane l, slots := some (slotBit d), value := 1 } ::
        if store = .cashbox then [{ kind := .pieceToCashbox, lane := .lane l, slots := some (slotBit d), value := 1 }]
        else []) ∧
      (∀ u, store = .unit u → t.boxes = s.boxes ∧
        t.units = s.units.set u { s.units.get u with count := (s.units.get u).count + 1 }) ∧
      (store = .cashbox → t.units = s.units ∧ t.boxes.get .note = s.boxes.get .note ∧
        ∀ e, (t.boxes.get .coin).counts.get e =
          if e = d ∧ (s.boxes.get .coin).counts.get d < 65535 then (s.boxes.get .coin).counts.get d + 1
          else (s.boxes.get .coin).counts.get e) ∧
      (¬ taken → t.lanes = s.lanes ∧ t.sales = s.sales ∧ t.tallies = s.tallies ∧ StrayRise s t l 0) ∧
      (taken → (s.lanes.get l).binding = .none → t.sales = s.sales ∧ t.tallies = s.tallies ∧ StrayRise s t l v ∧
        ((s.lanes.get l).stray ≤ 999999 →
          t.lanes = s.lanes.set l { s.lanes.get l with stray := min 999999 ((s.lanes.get l).stray + v) })) ∧
      (taken → (s.lanes.get l).binding = .floatIn → t.sales = s.sales ∧ t.lanes = s.lanes ∧ StrayRise s t l 0 ∧
        t.tallies = s.tallies.set l ((s.tallies.get l).set d ((s.tallies.get l).get d + 1))) ∧
      (taken → ∀ tag x, (s.lanes.get l).binding = .sale tag → s.findSale l tag = some x →
        x.coinValue + x.noteValue ≤ 999999 → ∃ y,
          t.findSale l tag = some y ∧ y.noteValue = x.noteValue ∧
            y.coinValue + y.noteValue = min 999999 (x.coinValue + x.noteValue + v) ∧
            y.change = (if x.due ≤ y.coinValue + y.noteValue then some (y.coinValue + y.noteValue - x.due) else none) ∧
            y.state = x.state ∧ y.due = x.due ∧ t.tallies = s.tallies ∧
            StrayRise s t l (x.coinValue + x.noteValue + v - 999999) ∧
            (x.coinValue + x.noteValue + v ≤ 999999 → t.lanes = s.lanes)) ∧
      t.escrows = s.escrows ∧ SamePlans s t ∧ SameJobs s t ∧ SameMechs s t ∧ t.transfers = s.transfers ∧
      SameConfig s t ∧ SameSupply s t ∧ SameLinks s t ∧ SameClock s t ∧ SameQueue s t

/-- NOTE_PIECE_REPORT: a note that the entrance does not take is handed back and changes nothing; one that is taken
goes on top of the stack, with credit, owner, value and stack-down by the head's binding and the owner; where the
escrow's class 0 job exists already, its ordered count rises by one (R40, R42, R144). A tender saturates at 999,999,
its excess is stray credit, and each rise of the stray credit raises STRAY_CREDIT with the credit after it (R35, R38).
The counters see PIECE_IN for a note that is taken (R180). -/
def Obligations.NoteReport : Prop :=
  ∀ (l : Lane) (d : Slot) (s : State), s.Running →
    let e := s.escrows.get l
    let taken := (s.denoms.get d).enabled = true ∧ (s.denoms.get d).kind = .note ∧
      (∀ ends, e.status ≠ .returning ends) ∧ e.entries.length < 8
    (¬ taken → exec (.notePieceReport l d) s = .next s) ∧
      (taken → ∃ t c, exec (.notePieceReport l d) s = .next (t.conclude false [] []) ∧
        (t.escrows.get l).entries = e.entries ++ [{ slot := d, credit := c, inTransit := false }] ∧
        Saw s t [{ kind := .pieceIn, lane := .lane l, slots := some (slotBit d), value := 1 }] ∧
        (t.escrows.get l).status = e.status ∧ t.escrows.get l.other = s.escrows.get l.other ∧
        (∀ tag, (s.lanes.get l).binding = .sale tag →
          c = .sale ∧ (t.escrows.get l).owner = e.owner ∧ t.stackJobs = s.stackJobs ∧ t.tallies = s.tallies ∧
            ∀ x, s.findSale l tag = some x → x.coinValue + x.noteValue + (s.denoms.get d).value ≤ 999999 → ∃ y,
              t.findSale l tag = some y ∧ y.coinValue = x.coinValue ∧
                y.noteValue = x.noteValue + (s.denoms.get d).value ∧ t.lanes = s.lanes) ∧
        (∀ tag x, (s.lanes.get l).binding = .sale tag → s.findSale l tag = some x →
          x.coinValue + x.noteValue ≤ 999999 → ∃ y, t.findSale l tag = some y ∧ y.coinValue = x.coinValue ∧
            y.coinValue + y.noteValue = min 999999 (x.coinValue + x.noteValue + (s.denoms.get d).value) ∧
            y.change = (if x.due ≤ y.coinValue + y.noteValue then some (y.coinValue + y.noteValue - x.due) else none) ∧
            y.state = x.state ∧ y.due = x.due ∧
            StrayRise s t l (x.coinValue + x.noteValue + (s.denoms.get d).value - 999999)) ∧
        ((s.lanes.get l).binding = .floatIn →
          c = .floatIn ∧ (t.escrows.get l).owner = e.owner ∧ t.sales = s.sales ∧ t.lanes = s.lanes ∧ StrayRise s t l 0 ∧
            t.tallies = s.tallies.set l ((s.tallies.get l).set d ((s.tallies.get l).get d + 1))) ∧
        ((s.lanes.get l).binding = .none →
          c = .stray ∧ (t.escrows.get l).owner = (if e.owner = .none then .stray else e.owner) ∧ t.sales = s.sales ∧
            t.tallies = s.tallies ∧ StrayRise s t l (s.denoms.get d).value ∧
            ((s.lanes.get l).stray ≤ 999999 →
              (t.lanes.get l).stray = min 999999 ((s.lanes.get l).stray + (s.denoms.get d).value))) ∧
        ((s.lanes.get l).binding = .floatIn ∧ s.stackJobOf l = none ∨
            (s.lanes.get l).binding = .none ∧ e.owner = .none → ∃ j,
          t.stackJobs = (s.stackJobs.filter fun i => decide (i.source ≠ .escrow l)) ++ [j] ∧
          j.origin = .stackDown ∧ j.source = .escrow l ∧ j.ordered = e.entries.length + 1 ∧ j.done = 0 ∧
            j.dest = .routed) ∧
        ((s.lanes.get l).binding = .floatIn ∧ s.stackJobOf l ≠ none ∨
            (s.lanes.get l).binding = .none ∧ e.owner ≠ .none → t.stackJobs = s.stackJobs.map fun j =>
          if j.source = .escrow l then { j with ordered := j.ordered + 1 } else j) ∧
        SameStores s t ∧ SamePlans s t ∧ t.laneJobs = s.laneJobs ∧ t.serviceJobs = s.serviceJobs ∧ SameMechs s t ∧
        SameConfig s t ∧ SameSupply s t ∧ SameLinks s t ∧ SamePaths s t ∧ t.transfers = s.transfers)

/-- EXIT_SENSOR_REPORT of pieces that all count toward the job in flight (one piece, or two for a job with two
undone): count and committed fall, done rises, the mechanism is READY or in FAULT, a class 1 piece raises the sale's
paid value, a class 2 piece enters the cashbox and the transfer result (R115, R116, R125, R130). The sale's last job
settles it where no request of it waits (R109, R110). A job marked stopped leaves its queue, its undone pieces are
released, the STOPPED sale's paid value rises, and SALE_FINISHED is not raised again (R108). A report while the
mechanism is READY or in FAULT, or in a stack-down, changes nothing (R117). The counters see the samples of each
piece, and QUEUE_DEPTH where the job completes (R91, R180); that a job marked stopped completes with its last piece is
the model's choice (log 37). -/
def Obligations.ExitSensorOwn : Prop :=
  (∀ (k : Kind) (pieces : Pieces) (s : State), s.Running →
     (∀ e u, (s.mechs.get k).phase = .ejecting e → e.source ≠ .unit u) →
     exec (.exitSensorReport k pieces) s = .next s) ∧
  ∀ (k : Kind) (pieces : Pieces) (n : Nat) (e : Ejection) (u : UnitId) (j : Job) (s : State), s.Running →
    (s.mechs.get k).phase = .ejecting e → e.source = .unit u → s.findJob e.job = some j →
    (pieces = .one ∧ n = 1 ∧ j.done < j.ordered ∨ pieces = .two ∧ n = 2 ∧ j.done + 1 < j.ordered) →
    let released := if j.stopped then j.ordered - (j.done + n) else 0
    ∃ t, exec (.exitSensorReport k pieces) s = .next (t.conclude e.faultPending [] []) ∧
        t.mechs = s.mechs.set k { s.mechs.get k with phase := if e.faultPending then .fault .faultSense else .ready } ∧
        (t.units.get u).count = (s.units.get u).count - n ∧
        (t.units.get u).committed = (s.units.get u).committed - n - released ∧
        (t.units.get u).state =
          (if (s.units.get u).state = .lockPending ∧ (s.units.get u).committed - n - released = 0 then .locked
          else (s.units.get u).state) ∧
        (∀ v, v ≠ u → t.units.get v = s.units.get v) ∧
        (j.done + n < j.ordered → j.stopped = false →
          t.findJob e.job = some { j with done := j.done + n, inFlight := false }) ∧
        (j.done + n = j.ordered ∨ j.stopped = true → t.findJob e.job = none) ∧
        Saw s t ((List.range n).flatMap (s.pieceSamples j u) ++
          if j.done + n = j.ordered then [s.depthSample j] else []) ∧
        (∀ l tag x, j.origin = .sale l tag → s.findSale l tag = some x →
          (if j.stopped then x.state = .stopped else x.state = .paying ∨ x.state = .refunding) →
          t.boxes = s.boxes ∧ t.transfers = s.transfers ∧ ∃ y, t.findSale l tag = some y ∧
            (x.paid ≤ 999999 → y.paid = min 999999 (x.paid + n * s.unitValue u)) ∧
            y.overpaid = min 999999 x.overpaid ∧ y.shortfall = x.shortfall ∧
            y.state =
              (if j.stopped then .stopped
              else endState x.state x.shortfall (t.hasJobs l tag || s.hasRequest l tag)
                (decide ((s.escrows.get l).owner = .sale tag))) ∧
            t.events.get l.port = { s.events.get l.port with
              finished := if y.state = x.state then (s.events.get l.port).finished
                else pushLast (s.events.get l.port).finished (tag, y.state) }) ∧
        (∀ l tag, j.origin = .sale l tag →
          (j.dest = .cup l → t.lanes = s.lanes.set l { s.lanes.get l with
            cup := if (s.lanes.get l).cup < s.limits.cup then min s.limits.cup ((s.lanes.get l).cup + n)
              else (s.lanes.get l).cup }) ∧
          (j.dest = .outlet l → t.lanes = s.lanes.set l { s.lanes.get l with
            outlet := if (s.lanes.get l).outlet < s.limits.outlet then min s.limits.outlet ((s.lanes.get l).outlet + n)
              else (s.lanes.get l).outlet })) ∧
        (∀ d, j.origin = .sweep ∨ j.origin = .empty → (s.units.get u).slot = some d →
          t.sales = s.sales ∧
            ((s.boxes.get (unitKind u)).counts.get d + n ≤ 65535 →
              (t.boxes.get (unitKind u)).counts.get d = (s.boxes.get (unitKind u)).counts.get d + n) ∧
            (t.transfers.get u).map Transfer.moved = (s.transfers.get u).map fun x => x.moved + n) ∧
        (∀ x, j.origin = .sweep ∨ j.origin = .empty → j.done + n = j.ordered → s.transfers.get u = some x →
          (t.transfers.get u).map Transfer.ended = some .complete ∧
            (t.events.get .sp).transferDone = some (u, x.kind, x.moved + n)) ∧
        t.reservations = s.reservations ∧ t.planReqs = s.planReqs ∧ t.escrows = s.escrows ∧ SameConfig s t ∧
        SameSupply s t ∧ SameLinks s t ∧ SameClock s t ∧ SameQueue s t ∧ SamePaths s t ∧ t.tallies = s.tallies

/-- EXIT_SENSOR_REPORT of two pieces for a job with one undone piece: the second is an extra piece, counted out of the
unit and, for a class 1 job, into the paid and the overpaid value (R126), which are the STOPPED sale's where the job is
marked stopped (R108; that the sale is found by lane and tag is read by inference, log 20). Both pieces are counted at
the job's destination: the cup or outlet up to its limit, or the cashbox and the transfer, which then ends (R126, R149),
and the counters see the samples of each and QUEUE_DEPTH (R91, R180); that a job marked stopped leaves by completion
too, with QUEUE_DEPTH, is the model's choice (log 37). With no job and no request left after R127 has acted, the sale
ends (R109). Where committed then exceeds count, the job on the unit that was created last, of those that are left on
it, loses one piece: committed falls by one more, a class 1 job's sale gets a REPLAN request of one piece's value, or
its pending request grows by it, a REFUND becoming a REPLAN, and a class 2 job that is so done ends its transfer (R51,
R127); a sum above 999,999 is a free value (log 15). Every other job stays as it is. The second part says the same of
the shortening alone. That a transfer's moved number may so pass 400 is the model's choice (log 38). -/
def Obligations.ExtraPiece : Prop :=
  (∀ (k : Kind) (e : Ejection) (u : UnitId) (j : Job) (s : State), s.Running →
     (s.mechs.get k).phase = .ejecting e → e.source = .unit u → s.findJob e.job = some j →
     j.done + 1 = j.ordered → ∃ t,
       exec (.exitSensorReport k .two) s = .next (t.conclude true [] []) ∧
         t.mechs = s.mechs.set k { s.mechs.get k with phase := if e.faultPending then .fault .faultSense else .ready } ∧
         (t.units.get u).count = (s.units.get u).count - 2 ∧
         ((s.units.get u).committed - 1 ≤ (s.units.get u).count - 2 ∨
             (∀ i ∈ s.allJobs, i.source = .unit u → i.serial = e.job) →
           (t.units.get u).committed = (s.units.get u).committed - 1 ∧ t.planReqs = s.planReqs ∧
             ∀ x, x.serial ≠ e.job → (x ∈ t.allJobs ↔ x ∈ s.allJobs)) ∧
         ((s.units.get u).count - 2 < (s.units.get u).committed - 1 →
             (∃ i ∈ s.allJobs, i.source = .unit u ∧ i.serial ≠ e.job) →
           ∃ i ∈ s.allJobs, i.source = .unit u ∧ i.serial ≠ e.job ∧
             (∀ x ∈ s.allJobs, x.source = .unit u → x.serial ≠ e.job → x.serial ≤ i.serial) ∧
             (t.units.get u).committed = (s.units.get u).committed - 2 ∧
             (∀ l tag, i.origin = .sale l tag →
               (s.hasRequest l tag = false → t.planReqs =
                 insertReq { lane := l, tag := tag, kind := .replan, amount := boundAmount (s.unitValue u)
                             shielded := false } s.planReqs) ∧
               ∀ q, s.planReqs.find? (fun r => r.isOf l tag) = some q →
                 let more := { q with amount := boundAmount (q.amount + s.unitValue u) }
                 t.planReqs =
                   if q.kind = .refund then
                     insertReq { more with kind := .replan } (s.planReqs.filter fun r => !r.isOf l tag)
                   else s.planReqs.map fun r => if r.isOf l tag then more else r) ∧
             (i.origin = .sweep ∨ i.origin = .empty → t.planReqs = s.planReqs ∧
               (i.ordered - 1 ≤ i.done → s.transfers.get u ≠ none →
                 (t.transfers.get u).map Transfer.ended = some .complete)) ∧
             (i.ordered - 1 ≤ i.done → ∀ x ∈ t.allJobs, x.serial ≠ i.serial) ∧
             (i.done < i.ordered - 1 → { i with ordered := i.ordered - 1 } ∈ t.allJobs) ∧
             ∀ x, x.serial ≠ e.job → x.serial ≠ i.serial → (x ∈ t.allJobs ↔ x ∈ s.allJobs)) ∧
         (∀ v, v ≠ u → t.units.get v = s.units.get v) ∧ t.findJob e.job = none ∧
         Saw s t (s.pieceSamples j u 0 ++ s.pieceSamples j u 1 ++ [s.depthSample j]) ∧
         (∀ l tag x, j.origin = .sale l tag → s.findSale l tag = some x →
           (if j.stopped then x.state = .stopped else x.state = .paying ∨ x.state = .refunding) →
           ∃ y, t.findSale l tag = some y ∧
             (x.paid ≤ 999999 → y.paid = min 999999 (x.paid + 2 * s.unitValue u)) ∧
             (x.overpaid ≤ 999999 → y.overpaid = min 999999 (x.overpaid + s.unitValue u)) ∧ y.shortfall = x.shortfall ∧
             y.state =
               (if j.stopped then .stopped
               else endState x.state x.shortfall (t.hasJobs l tag || t.hasRequest l tag)
                 (decide ((s.escrows.get l).owner = .sale tag))) ∧
             t.events.get l.port = { s.events.get l.port with
               finished := if y.state = x.state then (s.events.get l.port).finished
                 else pushLast (s.events.get l.port).finished (tag, y.state) }) ∧
         (∀ l tag, j.origin = .sale l tag → t.boxes = s.boxes ∧
           (j.dest = .cup l → t.lanes = s.lanes.set l { s.lanes.get l with
             cup := if (s.lanes.get l).cup < s.limits.cup then min s.limits.cup ((s.lanes.get l).cup + 2)
               else (s.lanes.get l).cup }) ∧
           (j.dest = .outlet l → t.lanes = s.lanes.set l { s.lanes.get l with
             outlet := if (s.lanes.get l).outlet < s.limits.outlet then min s.limits.outlet ((s.lanes.get l).outlet + 2)
               else (s.lanes.get l).outlet })) ∧
         (∀ d, j.origin = .sweep ∨ j.origin = .empty → (s.units.get u).slot = some d →
           t.sales = s.sales ∧ t.lanes = s.lanes ∧
             ((s.boxes.get (unitKind u)).counts.get d + 2 ≤ 65535 →
               (t.boxes.get (unitKind u)).counts.get d = (s.boxes.get (unitKind u)).counts.get d + 2) ∧
             ∀ x, s.transfers.get u = some x →
               t.transfers.get u = some { x with moved := x.moved + 2, ended := .complete } ∧
                 (t.events.get .sp).transferDone = some (u, x.kind, x.moved + 2)) ∧
         t.reservations = s.reservations ∧ t.escrows = s.escrows ∧ SameConfig s t ∧ SameSupply s t ∧ SameLinks s t ∧
         SameClock s t ∧ SameQueue s t ∧ SamePaths s t ∧ t.tallies = s.tallies) ∧
    (∀ (u : UnitId) (s : State),
       ((s.units.get u).committed ≤ (s.units.get u).count → s.shorten u = s) ∧
         ((s.units.get u).count < (s.units.get u).committed → (∃ j ∈ s.allJobs, j.source = .unit u) →
           ∃ j ∈ s.allJobs, j.source = .unit u ∧ (∀ i ∈ s.allJobs, i.source = .unit u → i.serial ≤ j.serial) ∧
             ((s.shorten u).units.get u).committed = (s.units.get u).committed - 1 ∧
             ((s.shorten u).units.get u).count = (s.units.get u).count ∧
             (∀ l tag, j.origin = .sale l tag → (s.shorten u).hasRequest l tag = true ∧
               (s.hasRequest l tag = false → (s.shorten u).planReqs =
                 insertReq { lane := l, tag := tag, kind := .replan, amount := boundAmount (s.unitValue u)
                             shielded := false } s.planReqs) ∧
               ∀ q, s.planReqs.find? (fun r => r.isOf l tag) = some q →
                 (s.shorten u).planReqs.find? (fun r => r.isOf l tag) =
                   some { q with
                     amount := boundAmount (q.amount + s.unitValue u)
                     kind := if q.kind = .refund then .replan else q.kind }) ∧
             (j.origin = .sweep ∨ j.origin = .empty → (s.shorten u).planReqs = s.planReqs ∧
               (j.ordered - 1 ≤ j.done → ∀ x, s.transfers.get u = some x →
                 (s.shorten u).transfers.get u = some { x with ended := .complete } ∧
                   ((s.shorten u).events.get .sp).transferDone = some (u, x.kind, x.moved))) ∧
             (j.ordered - 1 ≤ j.done → ∀ i ∈ (s.shorten u).allJobs, i.serial ≠ j.serial) ∧
             (j.done < j.ordered - 1 → { j with ordered := j.ordered - 1 } ∈ (s.shorten u).allJobs)))

/-- ENTRY_SENSOR_REPORT at the destination of the stack-down in flight: the entry in transit leaves the stack and is
counted at the destination, the job's done count rises, the mechanism is READY, or in FAULT on fault pending or on two
notes, and the last entry ends the job and the owner. A report of any other entry sensor, or while no stack-down is in
flight, changes nothing (R117, R128, R129, R130). The counters see PIECE_TO_CASHBOX for a note of the cashbox (R180).
The cause FAULT_SENSE of a stack-down with both faults is read by inference (log 18). -/
def Obligations.StackDownDetected : Prop :=
  (∀ (x : EntrySensor) (pieces : Pieces) (s : State), s.Running →
     (∀ e l, (s.mechs.get .note).phase = .ejecting e → e.source ≠ .escrow l) →
     exec (.entrySensorReport x pieces) s = .next s) ∧
  ∀ (x : EntrySensor) (pieces : Pieces) (e : Ejection) (l : Lane) (s : State), s.Running →
    (s.mechs.get .note).phase = .ejecting e → e.source = .escrow l →
    (sensorAt x e.dest = false → exec (.entrySensorReport x pieces) s = .next s) ∧
      ∀ (m : EscrowEntry), (s.escrows.get l).entries.find? EscrowEntry.inTransit = some m → sensorAt x e.dest = true →
        let after : Phase :=
          if e.faultPending then .fault .faultSense else if pieces = .two then .fault .stackDouble else .ready
        ∃ t, exec (.entrySensorReport x pieces) s =
              .next (t.conclude after.isFault []
                (match x with
                  | .drum d => if (s.escrows.get l).owner = .floatIn then [] else [d.unit]
                  | .noteCashbox => [])) ∧
          (t.escrows.get l).entries = ((s.escrows.get l).entries.filter fun n => !n.inTransit) ∧
          Saw s t (if x = .noteCashbox then
              [{ kind := .pieceToCashbox, lane := .lane l, slots := some (slotBit m.slot), value := 1 }]
            else []) ∧
          t.mechs = s.mechs.set .note { s.mechs.get .note with phase := after } ∧
          (∀ d, x = .drum d → t.boxes = s.boxes ∧ t.units = s.units.set d.unit
            { s.units.get d.unit with count := (s.units.get d.unit).count + 1 }) ∧
          (x = .noteCashbox → t.units = s.units ∧
            ((s.boxes.get .note).counts.get m.slot < 65535 →
              t.boxes = s.boxes.set .note { s.boxes.get .note with
                counts := (s.boxes.get .note).counts.set m.slot ((s.boxes.get .note).counts.get m.slot + 1) })) ∧
          ((t.escrows.get l).entries ≠ [] → (t.escrows.get l).owner = (s.escrows.get l).owner ∧
            ∀ j, s.findJob e.job = some j →
              t.findJob e.job = some { j with done := j.done + 1, inFlight := false }) ∧
          ((t.escrows.get l).entries = [] → t.findJob e.job = none ∧
            (t.escrows.get l).owner =
              (if (s.escrows.get l).owner = .floatIn ∧ (s.lanes.get l).binding = .floatIn then .floatIn else .none)) ∧
          t.lanes = s.lanes ∧ t.sales = s.sales ∧ t.escrows.get l.other = s.escrows.get l.other ∧ SamePlans s t ∧
          SameConfig s t ∧ SameSupply s t ∧ SameLinks s t ∧ SameClock s t ∧ SameService s t ∧ SamePaths s t

/-- EJECT_TIMEOUT before the third attempt retries with a new timer; with fault pending it ends in FAULT; of a
stack-down it clears the marks, keeps the entries and the job, and the note mechanism is in FAULT (R118, R129, R130).
A job marked stopped is not retried: it leaves, its undone pieces are released, and its unit keeps its count and, but
for a lock that was waiting, its state (R108, R118). That the event moves the clock to the timer's end is the model's
choice (log 3). -/
def Obligations.Misses : Prop :=
  (∀ (k : Kind) (e : Ejection) (u : UnitId) (j : Job) (s : State), s.Running →
     (s.mechs.get k).phase = .ejecting e → e.source = .unit u → s.findJob e.job = some j →
     (e.faultPending = false → j.stopped = false → e.attempt < 3 →
       exec (.ejectTimeout k) s =
         .next
           { s with
             now := max s.now e.ends
             mechs := s.mechs.set k { s.mechs.get k with
               phase := .ejecting { e with
                 attempt := e.attempt + 1
                 ends := max s.now e.ends + (match k with
                   | .coin => 400
                   | .note => 2000) } } }) ∧
       (e.faultPending = true → j.stopped = false → ∃ t,
         exec (.ejectTimeout k) s = .next (t.conclude true [] []) ∧
           t.mechs = s.mechs.set k { s.mechs.get k with phase := .fault .faultSense } ∧ SameStores s t ∧
           t.findJob e.job = some { j with inFlight := false } ∧ t.sales = s.sales ∧ SamePlans s t) ∧
       (j.stopped = true → ∃ t, exec (.ejectTimeout k) s = .next (t.conclude e.faultPending [] []) ∧
         t.now = max s.now e.ends ∧
         t.mechs = s.mechs.set k { s.mechs.get k with phase := if e.faultPending then .fault .faultSense else .ready } ∧
         t.findJob e.job = none ∧ (∀ i : Job, i.serial ≠ e.job → (i ∈ t.allJobs ↔ i ∈ s.allJobs)) ∧
         t.units = s.units.set u { s.units.get u with
           committed := (s.units.get u).committed - j.undone
           state := if (s.units.get u).state = .lockPending ∧ (s.units.get u).committed - j.undone = 0 then .locked
             else (s.units.get u).state } ∧
         t.boxes = s.boxes ∧ t.sales = s.sales ∧ SamePlans s t ∧ SameEvents s t)) ∧
    (∀ (e : Ejection) (l : Lane) (s : State), s.Running →
       (s.mechs.get .note).phase = .ejecting e → e.source = .escrow l → ∃ t,
         exec (.ejectTimeout .note) s = .next (t.conclude true [] []) ∧
           t.mechs = s.mechs.set .note { s.mechs.get .note with
             phase := .fault (if e.faultPending then .faultSense else .stackTimeout) } ∧
           (t.escrows.get l).owner = (s.escrows.get l).owner ∧
           (t.escrows.get l).entries = ((s.escrows.get l).entries.map fun n => { n with inTransit := false }) ∧
           (∀ j, s.findJob e.job = some j → t.findJob e.job = some { j with inFlight := false }) ∧ SameStores s t ∧
           t.sales = s.sales ∧ t.lanes = s.lanes ∧ SamePlans s t)

/-- EJECT_TIMEOUT at the third attempt: every job on the unit leaves, nothing of it stays committed, its count is
kept, the undone value of each sale's jobs becomes a REPLAN request of that sale, a class 2 job's transfer ends early
with TRANSFER_DONE, and JAM is seen; an ACTIVE or LOCK_PENDING unit becomes JAMMED, which is a fall of backing, and a
LOCKED one stays LOCKED (R121, R122, R123). A sale's pending request takes the sum, a REFUND becoming a REPLAN (R51);
the REPLANs so placed or changed join the tail of their group in the order in which the earliest of the sales' jobs
were created (R50, R122). A sum above 999,999 is a free value (log 15), and serial numbers are the model's own (log
21). -/
def Obligations.ThirdMissJams : Prop :=
  ∀ (k : Kind) (e : Ejection) (u : UnitId) (j : Job) (s : State), s.Running →
    (s.mechs.get k).phase = .ejecting e → e.source = .unit u → s.findJob e.job = some j →
    e.faultPending = false → j.stopped = false → 3 ≤ e.attempt →
    (s.units.get u).state = .active ∨ (s.units.get u).state = .lockPending ∨ (s.units.get u).state = .locked →
    ∃ t : State,
      exec (.ejectTimeout k) s = .next (t.conclude (decide ((s.units.get u).state ≠ .locked)) [] []) ∧
        t.units = s.units.set u { s.units.get u with
          committed := 0, state := if (s.units.get u).state = .locked then .locked else .jammed } ∧
        t.boxes = s.boxes ∧
        t.mechs = s.mechs.set k { s.mechs.get k with phase := .ready } ∧
        (∀ i ∈ t.allJobs, i.source ≠ .unit u) ∧
        (∀ i : Job, i.source ≠ .unit u → i.serial ≠ e.job → (i ∈ t.allJobs ↔ i ∈ s.allJobs)) ∧
        (∀ l tag, (∃ i ∈ s.allJobs, i.source = .unit u ∧ i.origin = .sale l tag ∧ i.stopped = false) →
          t.hasRequest l tag = true) ∧
        (∀ l tag,
          let lost := (s.allJobs.filter fun i =>
            i.onUnit u && decide (i.origin = .sale l tag) && !i.stopped).map fun i => i.undone * s.unitValue u
          (lost = [] → t.planReqs.find? (fun r => r.isOf l tag) = s.planReqs.find? fun r => r.isOf l tag) ∧
          (lost ≠ [] →
            (s.hasRequest l tag = false → t.planReqs.find? (fun r => r.isOf l tag) =
              some { lane := l, tag := tag, kind := .replan, amount := boundAmount lost.sum, shielded := false }) ∧
            ∀ q, s.planReqs.find? (fun r => r.isOf l tag) = some q → t.planReqs.find? (fun r => r.isOf l tag) =
              some { q with
                amount := boundAmount (q.amount + lost.sum), kind := if q.kind = .refund then .replan else q.kind })) ∧
        (∀ (gone : List Job) (replans others : List PlanReq),
          (∀ i, i ∈ gone ↔ i ∈ s.allJobs ∧ i.source = .unit u ∧ i.stopped = false) →
          gone.Pairwise (fun i x => i.serial < x.serial) → (s.allJobs.map Job.serial).Nodup → s.RequestLaw →
          s.planReqs = replans ++ others → (∀ r ∈ replans, r.kind = .replan) → (∀ r ∈ others, r.kind ≠ .replan) →
          let sales := (gone.filterMap fun i => match i.origin with
            | .sale l tag => some (l, tag)
            | _ => none).eraseDups
          let name := fun r : PlanReq => (r.lane, r.tag)
          let joining := sales.filter fun x => others.all (fun r => decide (name r = x → r.kind = .refund)) &&
            replans.all fun r => decide (name r ≠ x)
          t.planReqs.map name = replans.map name ++ joining ++ (others.map name).filter fun x => decide (x ∉ joining)) ∧
        (∀ x, s.transfers.get u = some x → (∃ i ∈ s.allJobs, i.source = .unit u ∧ (i.origin = .sweep ∨ i.origin = .empty)) →
          t.transfers = s.transfers.set u (some { x with ended := .jam }) ∧
            (t.events.get .sp).transferDone = some (u, x.kind, x.moved)) ∧
        ((∀ i ∈ s.allJobs, i.source = .unit u → i.origin ≠ .sweep ∧ i.origin ≠ .empty) →
          t.transfers = s.transfers ∧ (t.events.get .sp).transferDone = (s.events.get .sp).transferDone) ∧
        (∀ n, t.counters.get n = (s.counters.get n).after
          { kind := .jam
            lane := match j.origin with
              | .sale .a _ => .lane .a
              | .sale .b _ => .lane .b
              | _ => .service
            slots := some (s.unitSlotMask u), value := 1 }) ∧
        t.sales = s.sales ∧ t.reservations = s.reservations ∧ t.lanes = s.lanes ∧ t.escrows = s.escrows

/-- FAULT_SENSE_ACTIVE takes a READY mechanism to FAULT, sets fault pending in an ejection and leaves a FAULT;
CUP_CLEARED and OUTLET_CLEARED set the delivery count to 0; the key line is maintenance mode (R103, R130, R134). The
first event after a restart tests the lines: a READY controller whose line is active enters FAULT with cause
FAULT_SENSE, a fall of backing; otherwise nothing changes but that the test has been (R112, R113, R163). Whichever row
is taken first, it is taken after that event, the model's choice (log 11). The row FAULT_SENSE_ACTIVE carries the
level of the line, the model's choice (log 9). -/
def Obligations.SensesAndKey : Prop :=
  (∀ (k : Kind) (s : State), s.Running ∨ s.powered = false →
     exec (.faultSenseActive k false) s = .next { s with mechs := s.mechs.set k { s.mechs.get k with sense := false } } ∧
       (s.Running → (s.mechs.get k).sense = false →
         ((s.mechs.get k).phase = .ready →
           exec (.faultSenseActive k true) s =
             .next ({ s with mechs := s.mechs.set k { phase := .fault .faultSense, sense := true } }.conclude true [] [])) ∧
         (∀ e, (s.mechs.get k).phase = .ejecting e →
           exec (.faultSenseActive k true) s =
             .next { s with
               mechs := s.mechs.set k { phase := .ejecting { e with faultPending := true }, sense := true } }) ∧
         (∀ c, (s.mechs.get k).phase = .fault c →
           exec (.faultSenseActive k true) s =
             .next { s with mechs := s.mechs.set k { phase := .fault c, sense := true } }))) ∧
    (∀ (l : Lane) (b : Bool) (s : State), s.Running ∨ s.powered = false →
       (s.powered = true →
         exec (.cupCleared l) s = .next ({ s with lanes := s.lanes.set l { s.lanes.get l with cup := 0 } }.settleEvent) ∧
           exec (.outletCleared l) s =
             .next ({ s with lanes := s.lanes.set l { s.lanes.get l with outlet := 0 } }.settleEvent)) ∧
         exec (.maintenanceKeyChange b) s = .next { s with key := b }) ∧
    (∀ (c : Instr) (s : State), exec c s = exec c s.firstEvent) ∧
    (∀ s : State,
       (s.Running ∨ s.powered = false → s.firstEvent = s) ∧
         (s.powered = true → s.retest = true →
           ((∀ k, (s.mechs.get k).phase = .ready → (s.mechs.get k).sense = false) →
             s.firstEvent = { s with retest := false }) ∧
           ((∃ k, (s.mechs.get k).phase = .ready ∧ (s.mechs.get k).sense = true) → ∃ ms : PerKind Mechanism,
             (∀ k, ms.get k = { s.mechs.get k with
               phase := if (s.mechs.get k).phase = .ready ∧ (s.mechs.get k).sense = true then .fault .faultSense
                 else (s.mechs.get k).phase }) ∧
               s.firstEvent = { s with retest := false, mechs := ms }.conclude true [] [])))

/-- ESCROW_EMPTY_REPORT and RETURN_TIMEOUT: an empty report ends a return with the entries gone, the owner none, and
the stray part taken off the stray credit; after 3,000 ms the return fails, the entries stay, the status is FAULT for
an owner sale and IDLE else, and ESCROW_FAULT is raised at the lane's port and the service port (R43, R44). A report
while the status is IDLE or FAULT changes nothing but the level that is kept (R186). The kept sensor level and the
clock at the timer's end are the model's choice (log 3, log 10). -/
def Obligations.EscrowReturn : Prop :=
  (∀ (l : Lane) (empty : Bool) (s : State), s.Running →
     (s.escrows.get l).status = .idle ∨ (s.escrows.get l).status = .fault →
     exec (.escrowEmptyReport l empty) s =
       .next { s with escrows := s.escrows.set l { s.escrows.get l with sensorEmpty := empty } }) ∧
  ∀ (l : Lane) (ends : Nat) (s : State), s.Running → (s.escrows.get l).status = .returning ends →
    (∃ t, exec (.escrowEmptyReport l true) s = .next t.settleEvent ∧
        t.escrows = s.escrows.set l { entries := [], owner := .none, status := .idle, sensorEmpty := true } ∧
        t.lanes = s.lanes.set l { s.lanes.get l with
          stray := (s.lanes.get l).stray -
            (((s.escrows.get l).entries.filter fun n => decide (n.credit = .stray)).map fun n =>
              (s.denoms.get n.slot).value).sum } ∧
        t.dirty = insertDirty (recEscrow l) s.now s.dirty ∧
        (∀ tag x, (s.escrows.get l).owner = .sale tag → s.findSale l tag = some x → x.state = .refunding →
          s.hasJobs l tag = false → s.hasRequest l tag = false →
          t.findSale l tag = some { x with state := .cancelled } ∧ t.events = s.events.set l.port
            { s.events.get l.port with finished := pushLast (s.events.get l.port).finished (tag, .cancelled) }) ∧
        SameStores s t ∧ SameConfig s t ∧ SamePlans s t ∧ SameJobs s t ∧ SameMechs s t) ∧
      exec (.escrowEmptyReport l false) s =
        .next { s with escrows := s.escrows.set l { s.escrows.get l with sensorEmpty := false } } ∧
      (∀ tag, (s.escrows.get l).owner = .sale tag →
        exec (.returnTimeout l) s =
          .next
            { s with
              now := max s.now ends
              escrows := s.escrows.set l { s.escrows.get l with status := .fault }
              events := (s.events.set l.port { s.events.get l.port with escrowFault := some (l, tag) }).set .sp
                { s.events.get .sp with escrowFault := some (l, tag) } }) ∧
      ((s.escrows.get l).owner = .orphan →
        exec (.returnTimeout l) s =
          .next
            { s with
              now := max s.now ends
              escrows := s.escrows.set l { s.escrows.get l with status := .idle }
              events := (s.events.set l.port { s.events.get l.port with escrowFault := some (l, 0) }).set .sp
                { s.events.get .sp with escrowFault := some (l, 0) } })

/-- HOLD_TIMER_EXPIRY: the reservation leaves, the sale is TENDERED with plan and outcome absent, PLAN_EXPIRED is
raised with its tag and RESERVE_LOST is seen; an expiry that finds no reservation does nothing (R74, R75). That the
event moves the clock to the timer's end is the model's choice (log 3). -/
def Obligations.HoldExpiry : Prop :=
  ∀ (l : Lane) (tag : Nat) (s : State), s.Running →
    (s.reservationOf l tag = none → exec (.holdTimerExpiry l tag) s = .next s) ∧
      ∀ r, s.reservationOf l tag = some r → ∃ t,
        exec (.holdTimerExpiry l tag) s = .next (t.conclude false [r] []) ∧
          t.now = max s.now r.ends ∧
          t.reservations = (s.reservations.filter fun x => !(decide (x.lane = l) && decide (x.tag = tag))) ∧
          t.findSale l tag =
            (s.findSale l tag).map (fun x => { x with state := .tendered, plan := none, outcome := none }) ∧
          (t.events.get l.port).expired = pushLast (s.events.get l.port).expired tag ∧
          (∀ n, t.counters.get n = (s.counters.get n).after
            { kind := .reserveLost, lane := .lane l, slots := some (planMask r.counts), value := 1 }) ∧
          t.sales.get l.other = s.sales.get l.other ∧ t.planReqs = s.planReqs ∧ t.lanes = s.lanes ∧
          t.escrows = s.escrows ∧ SameStores s t ∧ SameConfig s t ∧ SameJobs s t ∧ SameMechs s t ∧ SameSupply s t ∧
          SameLinks s t ∧ SameService s t ∧ SameStore s t ∧ SamePaths s t ∧ SameQueue s t

/-- PLAN_REQUEST_TAKEN for a QUOTE: the entry leaves the list, and the sale is PLANNED with the plan of the search,
its outcome, shortfall and floor-blocked flag; a reservation joins as the youngest with the hold time; the reply of
R65 is made; a floor-blocked quote sets its lane's need and asked slots (R53, R61 to R65, R83). The counters see
PLAN_EXACT or PLAN_SHORT, PLAN_STEPS for each search run, and FLOOR_BLOCKED (R69, R180). The widths of the outcome and
of the pairs' counts in the reply are the model's choice (log 12), and so is that the first search's PLAN_STEPS sample
is taken before the second's (log 23). -/
def Obligations.QuoteCompletion : Prop :=
  ∀ (r : PlanReq) (rest : List PlanReq) (x : Sale) (s : State), s.Running → s.planReqs = r :: rest →
    r.kind = .quote → s.findSale r.lane r.tag = some x →
    let found := s.searchFor r.lane r.tag r.amount r.shielded
    let plan := s.planOf found
    let planned := min r.amount s.limits.payout
    let shortfall := r.amount - planned + found.remainder
    let outcome : PlanOutcome := if shortfall = 0 then .exact else .short
    ∃ (t : State) (blocked : Bool), exec .planRequestTaken s = .next t ∧
      (blocked = true ↔ 0 < found.remainder ∧ r.amount ≤ s.limits.payout ∧
        (∃ d ∈ s.walkedSlots, 0 < s.shield r.lane d r.shielded) ∧
        (s.searchFor r.lane r.tag r.amount false).remainder = 0) ∧
      t.planReqs = rest ∧
      Saw s t
        (planSamples r.lane outcome plan found.steps ++
          (if 0 < found.remainder ∧ r.amount ≤ s.limits.payout ∧
              (∃ d ∈ s.walkedSlots, 0 < s.shield r.lane d r.shielded) then
            [{ kind := .planSteps, lane := .lane r.lane, slots := none
               value := (s.searchFor r.lane r.tag r.amount false).steps }]
          else []) ++
          if blocked then
            [{ kind := .floorBlocked, lane := .lane r.lane, value := 1
               slots := some (slotsMask (s.walkedSlots.filter fun d => decide (0 < s.shield r.lane d r.shielded))) }]
          else []) ∧
      t.findSale r.lane r.tag =
        some { x with
          state := .planned, planned := some planned, plan := some plan, outcome := some outcome
          shortfall := shortfall, floorBlocked := blocked } ∧
      t.reservations = s.reservations ++
        [{ lane := r.lane, tag := r.tag, counts := plan, ends := s.now + s.limits.hold * 1000 }] ∧
      t.lanes =
        (if blocked then
          s.lanes.set r.lane { s.lanes.get r.lane with
            blockedSale := some r.tag
            asked := slotsMask (s.walkedSlots.filter fun d => decide (0 < s.shield r.lane d r.shielded)) }
        else s.lanes) ∧
      t.ports = (s.answer r.lane.port .quote
        ([tagField x.tag, byteField (outcomeCode (some outcome)), optAmountField x.change, amountField planned,
            amountField shortfall, flagField blocked] ++
          listFields (plan.map fun e => [slotField (some e.1), countField e.2]))).ports ∧
      t.sales.get r.lane.other = s.sales.get r.lane.other ∧ t.escrows = s.escrows ∧ SameStores s t ∧ SameConfig s t ∧
      SameJobs s t ∧ SameMechs s t ∧ SameSupply s t ∧ SameService s t ∧ SameStore s t ∧ SameClock s t ∧ SameQueue s t ∧
      SamePaths s t

/-- PLAN_REQUEST_TAKEN for a REFUND or a REPLAN: the plan's split becomes committed jobs of the lane's queue as far as
it has room, REFUND jobs at the tail and REPLAN jobs behind the sale's last one or at the head, and what became no job
is added to the shortfall or the refund shortfall (R66, R67, R124). With no job and no request of the sale left, the
sale ends by what is then short, with SALE_FINISHED (R68, R109, R110). The counters see PLAN_EXACT or PLAN_SHORT, and
PLAN_STEPS (R69, R180). An empty list is left as it is (R53). -/
def Obligations.JobsCompletion : Prop :=
  ∀ s : State, s.Running →
    (s.planReqs = [] → exec .planRequestTaken s = .next s) ∧
      ∀ (r : PlanReq) (rest : List PlanReq) (x : Sale), s.planReqs = r :: rest → r.kind ≠ .quote →
        s.findSale r.lane r.tag = some x →
        let found := s.searchFor r.lane r.tag r.amount r.shielded
        let split := splitPlan r.lane (s.planOf found) s
        let made := split.1.take (16 - (s.laneJobs.get r.lane).length)
        let js := s.jobsOf r.lane r.tag s.nextJob made
        let missing := r.amount - min r.amount s.limits.payout + found.remainder + split.2 +
          s.sharesValue (split.1.drop (16 - (s.laneJobs.get r.lane).length))
        let q := s.laneJobs.get r.lane
        ∃ t, exec .planRequestTaken s = .next (t.conclude true [] []) ∧
          t.planReqs = rest ∧ t.reservations = s.reservations ∧ t.units = (s.commitAll made).units ∧
          Saw s t (planSamples r.lane
            (if r.amount - min r.amount s.limits.payout + found.remainder = 0 then .exact else .short)
            (s.planOf found) found.steps) ∧
          (r.kind = .refund → t.laneJobs = s.laneJobs.set r.lane (q ++ js)) ∧
          (r.kind = .replan →
            ((∀ j ∈ q, j.ofSale r.lane r.tag = false) → t.laneJobs = s.laneJobs.set r.lane (js ++ q)) ∧
            (∀ front j back, q = front ++ j :: back → j.ofSale r.lane r.tag = true →
              (∀ i ∈ back, i.ofSale r.lane r.tag = false) →
              t.laneJobs = s.laneJobs.set r.lane (front ++ j :: (js ++ back)))) ∧
          (∃ y, t.findSale r.lane r.tag = some y ∧
            (x.state = .paying → y.shortfall = min 999999 (x.shortfall + missing)) ∧
            (x.state = .refunding → ∀ f, x.refundShortfall = some f →
              y.refundShortfall = some (min 999999 (f + missing))) ∧
            y.plan = x.plan ∧ y.planned = x.planned ∧ y.outcome = x.outcome ∧ y.floorBlocked = x.floorBlocked ∧
            y.state = endState x.state y.shortfall (t.hasJobs r.lane r.tag || t.hasRequest r.lane r.tag)
              (decide ((s.escrows.get r.lane).owner = .sale r.tag)) ∧
            t.events.get r.lane.port = { s.events.get r.lane.port with
              finished := if y.state = x.state then (s.events.get r.lane.port).finished
                else pushLast (s.events.get r.lane.port).finished (r.tag, y.state) }) ∧
          t.boxes = s.boxes ∧ t.lanes = s.lanes ∧ t.escrows = s.escrows ∧ SameConfig s t ∧ SameMechs s t ∧
          SameSupply s t ∧ SameLinks s t ∧ SameService s t ∧ SameStore s t ∧ SameClock s t ∧ SameQueue s t ∧
          SamePaths s t

/-- What a search gives, whatever its levels and limits: at most the usable count of each level, at most P pieces, a
total that with the remainder makes the planned amount, and at most E steps (R58, R59, R60). What a request's search
walks: the enabled slots with recycle set, in descending value, each with its usable count M - Q - H, for the smaller
of the amount and the payout limit (R55, R56, R58). What its plan is: each walked slot whose count is above 0, in
descending value, within the usable counts and the piece limit, whose total with the remainder makes the planned
amount (R60). -/
def Obligations.SearchSound : Prop :=
  (∀ (l : Lane) (tag amount : Nat) (shielded : Bool) (s : State),
     let found := s.searchFor l tag amount shielded
     let plan := s.planOf found
     let o := s.lanes.get l.other
     found = search (s.walkedSlots.map fun d => ((s.denoms.get d).value, s.usable l tag shielded d))
         (min amount s.limits.payout) s.limits.piece s.limits.effort ∧
       (∀ d, d ∈ s.walkedSlots ↔ (s.denoms.get d).enabled = true ∧ (s.denoms.get d).recycle = true) ∧
       s.walkedSlots.Nodup ∧
       (s.DenomLaw → s.walkedSlots.Pairwise fun d e => (s.denoms.get e).value < (s.denoms.get d).value) ∧
       (∀ d, s.usable l tag shielded d =
         ((allUnits.filter fun u => decide ((s.units.get u).slot = some d) && decide ((s.units.get u).state = .active) &&
              (s.units.get u).mask.has l && !(s.mechs.get (unitKind u)).phase.isFault).map fun u =>
            (s.units.get u).count - (s.units.get u).committed).sum -
           ((s.reservations.filter fun r => decide (¬ (r.lane = l ∧ r.tag = tag))).map fun r =>
             planCount r.counts d).sum -
           (if shielded = true ∧ o.opened = true ∧ o.holding = true then
             (s.floors.get l.other).get d -
               ((s.reservations.filter fun r => decide (r.lane = l.other)).map fun r => planCount r.counts d).sum
           else 0)) ∧
       (∀ d n, (d, n) ∈ plan ↔ 0 < n ∧ ∃ i : Nat, s.walkedSlots[i]? = some d ∧ found.counts[i]? = some n) ∧
       (plan.map Prod.fst).Sublist s.walkedSlots ∧ (∀ e ∈ plan, e.2 ≤ s.usable l tag shielded e.1) ∧
       (plan.map Prod.snd).sum ≤ s.limits.piece ∧
       (plan.map fun e => e.2 * (s.denoms.get e.1).value).sum + found.remainder = min amount s.limits.payout) ∧
  ∀ (levels : List (Nat × Nat)) (c pieceLimit effortLimit : Nat),
    let r := search levels c pieceLimit effortLimit
    (r.counts = [] ∨ r.counts.length = levels.length) ∧
      (∀ e ∈ levels.zip r.counts, e.2 ≤ e.1.2) ∧ r.counts.sum ≤ pieceLimit ∧
      ((levels.zip r.counts).map fun e => e.2 * e.1.1).sum + r.remainder = c ∧ r.steps ≤ effortLimit

/-- A search that took fewer steps than the effort limit allows gives the smallest remainder there is: no choice of
counts within the usable counts, the planned amount and the piece limit leaves less (R58, R59). And for every search,
the order of the walk and the tie-break: with the values in the order in which the walk tries them, one step each, cut
at the effort limit, the first eligible leaf with remainder 0 ends the search and is its result; without one the
search takes every step allowed, up to the end of the walk, and its result is the first of the eligible leaves with
the smallest remainder, or, with no eligible leaf, the empty vector with remainder C (R58, R59). -/
def Obligations.SearchFindsBest : Prop :=
  (∀ (levels : List (Nat × Nat)) (c pieceLimit effortLimit : Nat) (ks : List Nat),
     (∀ e ∈ levels, 0 < e.1) → (search levels c pieceLimit effortLimit).steps < effortLimit →
     ks.length = levels.length → (∀ e ∈ levels.zip ks, e.2 ≤ e.1.2) → ks.sum ≤ pieceLimit →
     ((levels.zip ks).map fun e => e.2 * e.1.1).sum ≤ c →
     (search levels c pieceLimit effortLimit).remainder + ((levels.zip ks).map fun e => e.2 * e.1.1).sum ≤ c) ∧
    (∀ (levels : List (Nat × Nat)) (c pieceLimit effortLimit : Nat),
       let tried := (walkOrder levels c).take effortLimit
       let leaf := fun ks : List Nat => ks.length = levels.length ∧ ks.sum ≤ pieceLimit
       let left := fun ks : List Nat => c - ((levels.zip ks).map fun e => e.2 * e.1.1).sum
       let r := search levels c pieceLimit effortLimit
       (∀ (i : Nat) (ks : List Nat), tried[i]? = some ks → leaf ks → left ks = 0 →
         (∀ (j : Nat) (ms : List Nat), j < i → tried[j]? = some ms → leaf ms → left ms ≠ 0) →
         r = { counts := ks, remainder := 0, steps := i + 1 }) ∧
       ((∀ ks ∈ tried, leaf ks → left ks ≠ 0) →
         r.steps = tried.length ∧ ((∀ ks ∈ tried, ¬ leaf ks) → r.counts = [] ∧ r.remainder = c) ∧
         ∀ (i : Nat) (ks : List Nat), tried[i]? = some ks → leaf ks →
           (∀ (j : Nat) (ms : List Nat), tried[j]? = some ms → leaf ms →
             left ks ≤ left ms ∧ (j < i → left ks < left ms)) →
           r.counts = ks ∧ r.remainder = left ks))

/-- The withdrawal rule: with no slot over-reserved it does nothing; otherwise it leaves no slot over-reserved,
removes only entries that hold a slot that was over-reserved, keeps the others in their order, and moves no piece. It
goes from the youngest entry to the oldest, and an entry stays exactly where it holds no slot that is over-reserved by
the entries older than it, itself, and the younger ones that stayed; so none goes once no slot is over-reserved (R76).
Each withdrawn sale is TENDERED without plan and outcome, its tag joins PLAN_WITHDRAWN at its lane's port in the order
of the walk, and the counters see RESERVE_LOST with the slots of its counts (R77, R180). -/
def Obligations.Withdrawal : Prop :=
  ∀ s : State,
    ((∀ d, s.reservedTotal d ≤ s.backing d) → s.withdraw = (s, [])) ∧ s.withdraw.1.ReservationLaw ∧
      s.withdraw.1.reservations.Sublist s.reservations ∧
      (∀ r ∈ s.withdraw.2, r ∈ s.reservations ∧ ∃ e ∈ r.counts, 0 < e.2 ∧ s.backing e.1 < s.reservedTotal e.1) ∧
      (∀ r ∈ s.reservations, r ∈ s.withdraw.1.reservations ∨ ∃ w ∈ s.withdraw.2, w.lane = r.lane ∧ w.tag = r.tag) ∧
      (∀ r ∈ s.withdraw.2, ∀ x, s.withdraw.1.findSale r.lane r.tag = some x →
        x.state = .tendered ∧ x.plan = none ∧ x.outcome = none) ∧
      ((s.reservations.map fun r => (r.lane, r.tag)).Nodup → ∀ older r younger, s.reservations = older ++ r :: younger →
        let left := older ++ r :: younger.filter fun x => decide (x ∈ s.withdraw.1.reservations)
        (r ∈ s.withdraw.1.reservations ↔ ∀ e ∈ r.counts, 0 < e.2 → reservedIn left e.1 ≤ s.backing e.1) ∧
          (r ∈ s.withdraw.1.reservations ↔ r ∉ s.withdraw.2)) ∧
      (∀ l, s.withdraw.1.sales.get l = (s.sales.get l).map fun (x : Sale) =>
          if s.withdraw.2.any (fun r => decide (r.lane = l) && decide (r.tag = x.tag)) then
            { x with state := .tendered, plan := none, outcome := none }
          else x) ∧
      (∀ l, s.withdraw.1.events.get l.port = { s.events.get l.port with
        withdrawn := (s.withdraw.2.filter fun r => decide (r.lane = l)).foldl (fun ts r => pushLast ts r.tag)
          (s.events.get l.port).withdrawn }) ∧
      Saw s s.withdraw.1 (s.withdraw.2.map fun r =>
        { kind := .reserveLost, lane := .lane r.lane, slots := some (planMask r.counts), value := 1 }) ∧
      s.withdraw.1.units = s.units ∧ s.withdraw.1.boxes = s.boxes ∧ s.withdraw.1.lanes = s.lanes ∧
      s.withdraw.1.planReqs = s.planReqs ∧ s.withdraw.1.escrows = s.escrows

/-- An arbiter's decision: none while PFW is active or the mechanism is not READY; class 0 before class 1 before class
2; within class 1 the turn holder while it has allowance, else the other lane, with the turn states that follow; the
job taken is the first eligible one of its kind from the head of its place, and a job is eligible exactly where R98
says (R97, R98, R99, R100, R101, R105). The grant marks the job in flight and, for a class 0 job, the top entry in
transit; the counters see TURN_WAIT exactly where the lane not granted had an eligible job (R97, R101, R180). The
mechanism is then driven for the job's source and destination (R114); without an ejection in flight nothing is driven,
the model's choice (log 24). What closes an event: the withdrawal where backing fell, the sweep checks, the coin
arbiter, the note arbiter, and a write while PFW is active (R11, R76, R146, R97, R155; their order is read by
inference, log 7, log 8). -/
def Obligations.Arbitration : Prop :=
  (∀ (k : Kind) (s : State),
     let h := (s.turns.get k).holder
     let w := (s.turns.get k).allowance
     let mine := s.firstEligible k (s.laneJobs.get h)
     let others := s.firstEligible k (s.laneJobs.get h.other)
     let grants := fun (j : Job) (dest : Dest) (turn : Turn) (waits : Option Lane) =>
       ((s.arbitrate k).mechs.get k).phase =
           .ejecting { job := j.serial, source := j.source, dest := dest, attempt := 1, faultPending := false
                       ends := s.now + (match k with
                         | .coin => 400
                         | .note => 2000) } ∧
         (s.powered = true → (s.arbitrate k).drive k = some (j.source, dest)) ∧
         (s.arbitrate k).turns = s.turns.set k turn ∧ SameStores s (s.arbitrate k) ∧
         (s.arbitrate k).sales = s.sales ∧ SamePlans s (s.arbitrate k) ∧ (s.arbitrate k).lanes = s.lanes ∧
         (s.arbitrate k).allJobs =
           (s.allJobs.map fun i => if i.serial = j.serial then { i with inFlight := true } else i) ∧
         (∀ l, j.source ≠ .escrow l → (s.arbitrate k).escrows.get l = s.escrows.get l) ∧
         Saw s (s.arbitrate k) (match waits with
           | none => []
           | some o => [{ kind := .turnWait, lane := .lane o, slots := none, value := 1 }])
     (s.pfw = true ∨ (s.mechs.get k).phase ≠ .ready → s.arbitrate k = s) ∧
       (s.pfw = false → (s.mechs.get k).phase = .ready →
         (∀ j l rt, s.firstEligible k s.stackJobs = some j → j.source = .escrow l → s.topRoute l = some rt →
           grants j rt.noteDest (s.turns.get k) none ∧
             ∀ front n, (s.escrows.get l).entries = front ++ [n] →
               (s.arbitrate k).escrows.get l =
                 { s.escrows.get l with entries := front ++ [{ n with inTransit := true }] }) ∧
         (s.firstEligible k s.stackJobs = none →
           (∀ j, mine = some j → others = none → grants j j.dest
             (if 0 < w then { holder := h, allowance := w - 1 }
             else { holder := h, allowance := (s.lanes.get h).weight - 1 }) none) ∧
           (∀ j, mine = none → others = some j → grants j j.dest
             { holder := h.other, allowance := (s.lanes.get h.other).weight - 1 } none) ∧
           (∀ i j, mine = some i → others = some j → 0 < w →
             grants i i.dest { holder := h, allowance := w - 1 } (some h.other)) ∧
           (∀ i j, mine = some i → others = some j → w = 0 → grants j j.dest
             { holder := h.other, allowance := (s.lanes.get h.other).weight - 1 } (some h)) ∧
           (mine = none → others = none →
             (∀ j, s.firstEligible k s.serviceJobs = some j → grants j j.dest (s.turns.get k) none) ∧
             (s.firstEligible k s.serviceJobs = none → s.arbitrate k = s))))) ∧
    (∀ (k : Kind) (q : List Job) (j : Job) (s : State), s.firstEligible k q = some j → ∃ front back,
       q = front ++ j :: back ∧ (∀ i ∈ front, i.source.kind = k → s.eligibleJob i = false) ∧ j.source.kind = k ∧
         j.inFlight = false ∧ j.done < j.ordered ∧
         (∀ u, j.source = .unit u → (s.units.get u).state ≠ .jammed ∧
           (∀ l, j.dest = .cup l → (s.lanes.get l).cup ≠ s.limits.cup) ∧
           (∀ l, j.dest = .outlet l → (s.lanes.get l).outlet ≠ s.limits.outlet)) ∧
         (∀ l, j.source = .escrow l → ∃ front n, (s.escrows.get l).entries = front ++ [n] ∧ n.inTransit = false ∧
           s.route .note n.slot (decide ((s.escrows.get l).owner = .floatIn)) ≠ none)) ∧
    (∀ (k : Kind) (q : List Job) (s : State),
       (s.firstEligible k q = none ↔ ∀ j ∈ q, j.source.kind = k → s.eligibleJob j = false) ∧
         ∀ j, s.eligibleJob j = true ↔ j.inFlight = false ∧ j.done < j.ordered ∧
           (∀ u, j.source = .unit u → (s.units.get u).state ≠ .jammed ∧
             (∀ l, j.dest = .cup l → (s.lanes.get l).cup ≠ s.limits.cup) ∧
             (∀ l, j.dest = .outlet l → (s.lanes.get l).outlet ≠ s.limits.outlet)) ∧
           (∀ l, j.source = .escrow l → ∃ front n, (s.escrows.get l).entries = front ++ [n] ∧ n.inTransit = false ∧
             s.route .note n.slot (decide ((s.escrows.get l).owner = .floatIn)) ≠ none)) ∧
    (∀ (fall : Bool) (left : List Reservation) (stored : List UnitId) (s : State),
       (fall = true → s.conclude fall left stored =
           (s.withdraw.1.sweepChecks (left ++ s.withdraw.2) stored).settleEvent) ∧
         (fall = false → s.conclude fall left stored = (s.sweepChecks left stored).settleEvent) ∧
         s.settleEvent = (if s.pfw then ((s.arbitrate .coin).arbitrate .note).startWrite
           else (s.arbitrate .coin).arbitrate .note)) ∧
    (∀ s : State,
       (s.ejectorDrive = true ↔ s.powered = true ∧ ∃ e, s.mechs.coin.phase = .ejecting e) ∧
         (s.transportDrive = true ↔ s.powered = true ∧ ∃ e, s.mechs.note.phase = .ejecting e) ∧
         (s.powered = true → ∀ e, s.mechs.coin.phase = .ejecting e → s.diverter = some e.dest ∧
           ∀ u, e.source = .unit u → s.tubeSelect = some u) ∧
         (s.powered = true → ∀ e, s.mechs.note.phase = .ejecting e →
           s.transportSource = some e.source ∧ s.transportDest = some e.dest))

/-- A counter and a sample: taken when the kind, the lane and the slots agree with the select; then the value rises by
the mode's rule modulo 2^32 and the edge state is the comparison; otherwise the counter stays. Every counter decides
for itself; where one wraps, COUNTER_WRAP is raised at the service port with the number of a counter that wraps, over
a pending one too, and where none wraps no event changes (R181, R182). -/
def Obligations.CounterSample : Prop :=
  ∀ (c : Counter) (x : Sample),
    let cmp : Bool :=
      if c.select.invert then decide (x.value < c.select.threshold) else decide (c.select.threshold ≤ x.value)
    let slotsAgree : Prop :=
      match x.slots with
      | none => True
      | some m => if m = 0 then c.select.slotMask = 0 else m &&& c.select.slotMask ≠ 0
    let taken : Prop := x.kind = c.select.event ∧ c.select.laneMask.getLsbD x.lane.bit = true ∧ slotsAgree
    (¬ taken → c.after x = c) ∧
      (taken → (c.after x).select = c.select ∧ (c.after x).edge = cmp ∧
        (c.select.mode = .count → (c.after x).value = (c.value + x.value) % 2 ^ 32) ∧
        (c.select.mode = .occupancy → (c.after x).value = (c.value + if cmp then 1 else 0) % 2 ^ 32) ∧
        (c.select.mode = .edge → (c.after x).value = (c.value + if cmp && !c.edge then 1 else 0) % 2 ^ 32)) ∧
      ∀ s : State,
        let wraps : Fin 8 → Prop := fun n =>
          (s.counters.get n).takes x = true ∧ 2 ^ 32 ≤ (s.counters.get n).value + (s.counters.get n).rise x
        (∀ n, ((s.sample x).counters.get n) = (s.counters.get n).after x) ∧
          ((∀ n, ¬ wraps n) → (s.sample x).events = s.events) ∧
          ((∃ n, wraps n) → ∃ n, wraps n ∧
            (s.sample x).events = s.events.set .sp { s.events.get .sp with wrapped := some n }) ∧
          s.sample x = { s with counters := (s.sample x).counters, events := (s.sample x).events }

/-- PFW_ACTIVE arms the warning and ends both ejections: their jobs stay, their marks clear, their units become
UNCERTAIN, no count changes, and a FAULT stays; PFW_INACTIVE after an armed warning is a warm reset with cause
PFW_RECOVERY, otherwise only the level changes and the arbiters decide (R120, R157, R158). That the stopped job of an
ended ejection stays is read by inference (log 17). -/
def Obligations.PowerFailWarning : Prop :=
  ∀ s : State, s.Running →
    (s.pfw = true →
      exec .pfwActive s = .next s ∧
        (s.armed = true →
          exec .pfwInactive s = .next ({ s with pfw := false, armed := false }.warmReset .pfwRecovery)) ∧
        (s.armed = false → exec .pfwInactive s = .next { s with pfw := false }.settleEvent)) ∧
      (s.pfw = false → exec .pfwInactive s = .next s ∧ ∃ t,
        exec .pfwActive s = .next (t.conclude true [] []) ∧ t.pfw = true ∧ t.armed = true ∧
          (∀ k, (t.mechs.get k).sense = (s.mechs.get k).sense ∧
            ((∀ e, (s.mechs.get k).phase ≠ .ejecting e) → (t.mechs.get k).phase = (s.mechs.get k).phase) ∧
            (∀ e, (s.mechs.get k).phase = .ejecting e → (t.mechs.get k).phase = .ready)) ∧
          (∀ u, (t.units.get u).count = (s.units.get u).count ∧
            (t.units.get u).committed = (s.units.get u).committed ∧
            (s.UnitInFlight u → (s.units.get u).state ≠ .absent → (t.units.get u).state = .uncertain) ∧
            (¬ s.UnitInFlight u → (t.units.get u).state = (s.units.get u).state)) ∧
          (∀ l, t.escrows.get l = { s.escrows.get l with
            entries := if s.noteInFlight l then (s.escrows.get l).entries.map fun n => { n with inTransit := false }
              else (s.escrows.get l).entries }) ∧
          t.allJobs = (s.allJobs.map fun j => if s.jobInFlight j.serial then { j with inFlight := false } else j) ∧
          t.sales = s.sales ∧ SamePlans s t ∧ t.lanes = s.lanes ∧ t.boxes = s.boxes ∧ SameConfig s t ∧ SameLinks s t ∧
          SameEvents s t ∧ t.allJobs.map Job.serial = s.allJobs.map Job.serial)

/-- RESET_LINE takes a warm reset in its event, and so do the other causes by their own rows (PowerFailWarning,
RestartAndReplySent): what R160 keeps, clears and sets, and RESTARTED at every port (R159, R160, R161, R178); the unit
of an ejection in flight becomes UNCERTAIN (R120). The escrow entries keep their order, credited to NONE and out of
transit (R39). The dirty set keeps its members with their times, and is joined by the record of each unit and each
escrow whose state or owner the reset changes (R154, R160). A frame being sent goes on to its end and answers nothing
any more, and the waiting frames go (R169, R170). That an ORPHAN stack without entries has no owner afterwards is the
model's choice (log 36). Both controllers are READY, and their lines are tested in the first event after, which has a
statement of its own (R112; that R160's FAULT comes then is read by inference, log 11). What `flush` then begins while
PFW is active has a statement of its own. -/
def Obligations.WarmReset : Prop :=
  (∀ s : State, s.Running → exec .resetLine s = .next (s.warmReset .resetLine)) ∧
  ∀ (cause : RestartCause) (s : State), s.powered = true → ∃ t, s.warmReset cause = t.flush ∧
    SameConfig s t ∧ t.boxes = s.boxes ∧ t.counters = s.counters ∧ t.store = s.store ∧ t.writer = s.writer ∧
    t.scan = s.scan ∧ t.armed = s.armed ∧ t.key = s.key ∧ t.pfw = s.pfw ∧ t.powered = true ∧
    t.lastFailed = s.lastFailed ∧ t.nextJob = s.nextJob ∧ SamePaths s t ∧ SameQueue s t ∧ SameClock s t ∧
    t.lastCause = cause ∧ t.retest = true ∧
    (∀ u, (t.units.get u).settings = (s.units.get u).settings ∧ (t.units.get u).count = (s.units.get u).count ∧
      (t.units.get u).committed = 0 ∧ (t.units.get u).state ≠ .lockPending ∧
      (s.UnitInFlight u → (s.units.get u).state ≠ .absent → (t.units.get u).state = .uncertain) ∧
      (¬ s.UnitInFlight u → (t.units.get u).state =
        (if (s.units.get u).state = .lockPending then .locked else (s.units.get u).state))) ∧
    (∀ l, t.sales.get l = [] ∧ t.laneJobs.get l = [] ∧
      t.lanes.get l = { opened := false, holding := true, binding := .none, stray := 0, cup := 0, outlet := 0
                        weight := (s.lanes.get l).weight, blockedSale := none, asked := 0 } ∧
      t.escrows.get l =
        { entries := (s.escrows.get l).entries.map fun n => { slot := n.slot, credit := .nothing, inTransit := false }
          owner := if (s.escrows.get l).entries = [] then .none else .orphan
          status := .idle, sensorEmpty := (s.escrows.get l).sensorEmpty } ∧
      t.tallies.get l = Twelve.replicate 0) ∧
    t.planReqs = [] ∧ t.reservations = [] ∧ t.serviceJobs = [] ∧ t.stackJobs = [] ∧
    (∀ k, t.turns.get k = { holder := .a, allowance := (s.lanes.get .a).weight } ∧
      t.mechs.get k = { phase := .ready, sense := (s.mechs.get k).sense }) ∧
    (∀ u, t.transfers.get u =
      (s.transfers.get u).map fun x => { x with ended := if x.ended = .running then .restart else x.ended }) ∧
    (∀ p, t.ports.get p = { s.ports.get p with
        receiver := .hunt, outstanding := none, waiting := []
        sending := (s.ports.get p).sending.map fun f => { f with answers := false } } ∧
      t.events.get p = { EventSet.clear with restarted := some (cause, 0) }) ∧
    (dirtyLaw s.dirty → ∀ (r : RecordNo) (since : Nat), (r, since) ∈ t.dirty ↔
      (r, since) ∈ s.dirty ∨ since = s.now ∧ (∀ old, (r, old) ∉ s.dirty) ∧
        ((∃ u, r = recUnit u ∧
            (s.UnitInFlight u ∧ (s.units.get u).state ≠ .absent ∨ (s.units.get u).state = .lockPending)) ∨
          ∃ l, r = recEscrow l ∧
            (s.escrows.get l).owner ≠ if (s.escrows.get l).entries = [] then .none else .orphan))

/-- POWER_LOSS tears a write in progress; POWER_ON restores the part from the store, the rest as R163 gives, with
RESTARTED and the failed-record set; and what was written comes back as it stood (R152, R153, R156, R161, R162, R163). A
unit whose record is torn, blank or above its capacity is UNCERTAIN with count 0, one without a slot is ABSENT, one of
another kind than its slot is UNCERTAIN, LOCK_PENDING comes back LOCKED, and ABSENT under a slot comes back LOCKED with
count 0 (R12, R162); that the unit is UNCERTAIN with count 0 where its record is ABSENT and its slot of another kind is
read by inference (log 30). An escrow stack comes back with its slots, ORPHAN where it holds any or its record failed
(R39). Both controllers are READY, and their lines are tested in the first event after (R112, R163). Records as values
without bytes are the model's choice (log 22), and so are POWER_ON under supply and the clock that runs on (log 6), and
an ORPHAN record without entries that comes back without owner (log 36). A record joins the dirty set exactly where its
restored source differs from what it holds, none of a blank store (R162). While PFW is active the one with the lowest
number is in writing, with its content, in the same event (R155, R157; that it is the same event is read by inference,
log 8); otherwise the writer is IDLE. What a record restores and when it has failed: a good configuration record, whole
and within its ranges, loads its content, and any other loads the defaults of its rule (R2, R4, R13, R22, R54, R72, R80,
R104, R179); a cashbox that is not whole loads zero counts (R15); the failed-record set holds the records that are not
good, and none of a blank store (R153). -/
def Obligations.SupplyLossAndReturn : Prop :=
  (∀ s : State,
     (s.Running →
       (s.writer = .idle → exec .powerLoss s = .next { s with powered := false }) ∧
         (∀ x, s.writer = .writing x →
           exec .powerLoss s = .next { s with powered := false, writer := .idle, store := s.store.tear x })) ∧
       (s.powered = false → ∃ t, exec .powerOn s = .next t ∧ t.powered = true ∧ t.store = s.store ∧
         t.denoms = s.store.restoredDenoms ∧ t.floors = s.store.restoredFloors ∧
         t.limits = s.store.restoredLimits.limits ∧ (∀ u, t.units.get u = s.store.restoredUnit u) ∧
         (∀ u, let x := s.store.restoredSettings.get u
           (x.slot = none → t.units.get u = x.toUnit 0 .absent) ∧
             ∀ d, x.slot = some d →
               ((∀ i, s.store.units.get u = .whole i → x.capacity < i.count) → t.units.get u = x.toUnit 0 .uncertain) ∧
               ∀ i, s.store.units.get u = .whole i → i.count ≤ x.capacity →
                 t.units.get u = x.toUnit (if i.state = .absent then 0 else i.count)
                   (if (s.store.restoredDenoms.get d).kind ≠ unitKind u then .uncertain
                   else if i.state = .lockPending ∨ i.state = .absent then .locked else i.state)) ∧
         (∀ l, (t.escrows.get l).sensorEmpty = (s.escrows.get l).sensorEmpty ∧
           (∀ i, s.store.escrows.get l = .whole i → i.slots.length ≤ 8 →
             (∀ tag, i.owner = .sale tag → 1 ≤ tag ∧ tag ≤ 65535) →
             (t.escrows.get l).entries = (i.slots.map fun d => { slot := d, credit := .nothing, inTransit := false }) ∧
               (t.escrows.get l).owner = if i.slots = [] then .none else .orphan) ∧
           ((∀ i, s.store.escrows.get l = .whole i → 8 < i.slots.length ∨ ∃ tag, i.owner = .sale tag ∧
               ¬ (1 ≤ tag ∧ tag ≤ 65535)) → (t.escrows.get l).entries = [] ∧
             (t.escrows.get l).owner = if s.store.isBlank then .none else .orphan)) ∧
         (∀ k, (∀ x, s.store.boxes.get k = .whole x → (t.boxes.get k).counts = x) ∧
           ((∀ x, s.store.boxes.get k ≠ .whole x) → (t.boxes.get k).counts = Twelve.replicate 0) ∧
           (t.boxes.get k).capacity = (match k with
             | .coin => s.store.restoredLimits.coinCapacity
             | .note => s.store.restoredLimits.noteCapacity)) ∧
         (∀ l, (t.lanes.get l).weight = s.store.restoredWeights.get l ∧ (t.lanes.get l).opened = false ∧
           (t.lanes.get l).holding = true ∧ (t.lanes.get l).binding = .none ∧ (t.lanes.get l).stray = 0 ∧
           (t.lanes.get l).cup = 0 ∧ (t.lanes.get l).outlet = 0 ∧ (t.lanes.get l).blockedSale = none ∧
           t.sales.get l = [] ∧ t.laneJobs.get l = [] ∧ t.tallies.get l = Twelve.replicate 0 ∧
           (t.escrows.get l).status = .idle) ∧
         (∀ u, t.transfers.get u = none) ∧ t.planReqs = [] ∧ t.reservations = [] ∧ t.serviceJobs = [] ∧
         t.stackJobs = [] ∧
         (∀ k, t.turns.get k = { holder := .a, allowance := s.store.restoredWeights.a } ∧
           t.mechs.get k = { phase := .ready, sense := (s.mechs.get k).sense }) ∧ t.retest = true ∧
         (∀ n, t.counters.get n = { select := s.store.restoredSelects.get n, value := 0, edge := false }) ∧
         (∀ p, (t.ports.get p).receiver = .hunt ∧ (t.ports.get p).outstanding = none ∧
           t.events.get p = { EventSet.clear with restarted := some (.powerOn, s.store.failedSet) }) ∧
         (∀ (r : RecordNo) (since : Nat),
           ((r, since) ∈ t.dirty ∨ (∃ x, t.writer = .writing x ∧ x.record = r ∧ since = s.now)) ↔
             s.store.isBlank = false ∧ since = s.now ∧ s.store.content r ≠ some (t.image r)) ∧
         t.armed = false ∧ t.scan = 0 ∧ t.lastCause = .powerOn ∧ t.lastFailed = s.store.failedSet ∧
         (s.pfw = false → t.writer = .idle) ∧
         (s.pfw = true → (t.writer = .idle → t.dirty = []) ∧
           ∀ x, t.writer = .writing x → x = t.image x.record ∧ ∀ e ∈ t.dirty, x.record < e.1) ∧
         SameQueue s t ∧ SameClock s t ∧ t.key = s.key ∧ t.pfw = s.pfw)) ∧
    (∀ s : State, s.Running → s.writer = .idle → denomsInRange s.denoms = true →
       settingsInRange (s.units.map UnitRec.settings) = true → floorsInRange s.floors = true →
       s.limitsImage.inRange = true → weightsInRange (s.lanes.map LaneRec.weight) = true →
       (∀ r, s.store.content r = some (s.image r)) →
       (∀ u, (s.units.get u).count ≤ (s.units.get u).capacity ∧ ((s.units.get u).state = .absent ↔
         (s.units.get u).slot = none) ∧ ((s.units.get u).slot = none → (s.units.get u).count = 0) ∧
         ∀ d, (s.units.get u).slot = some d → (s.denoms.get d).kind = unitKind u) →
       ∃ t, exec .powerOn s = .next t ∧ t.denoms = s.denoms ∧ t.floors = s.floors ∧ t.limits = s.limits ∧
         t.boxes = s.boxes ∧ (∀ l, (t.lanes.get l).weight = (s.lanes.get l).weight) ∧
         (∀ u, t.units.get u = { s.units.get u with
           committed := 0
           state := if (s.units.get u).state = .lockPending then .locked else (s.units.get u).state })) ∧
    (∀ c : CountStore,
       let goodDenoms : Twelve Denom → Prop := fun x =>
         (∀ d, 1 ≤ (x.get d).value ∧ (x.get d).value ≤ 50000 ∧ (x.get d).lowWater ≤ 1000) ∧
           ∀ d e, d ≠ e → (x.get d).enabled = true → (x.get e).enabled = true → (x.get d).value ≠ (x.get e).value
       let goodSettings : Twelve UnitSettings → Prop := fun x => ∀ u,
         1 ≤ (x.get u).capacity ∧ (x.get u).capacity ≤ (if unitKind u = .coin then 400 else 120) ∧
           1 ≤ (x.get u).highWater ∧ (x.get u).highWater ≤ (x.get u).capacity ∧ (x.get u).sweepTarget < (x.get u).highWater
       let goodLimits : LimitsImage → Prop := fun x =>
         x.limits.payout ≤ 65535 ∧ 1 ≤ x.limits.piece ∧ x.limits.piece ≤ 60 ∧ 16 ≤ x.limits.effort ∧
           x.limits.effort ≤ 1024 ∧ 5 ≤ x.limits.hold ∧ x.limits.hold ≤ 250 ∧ 1 ≤ x.limits.cup ∧ x.limits.cup ≤ 60 ∧
           1 ≤ x.limits.outlet ∧ x.limits.outlet ≤ 20 ∧ 1 ≤ x.coinCapacity ∧ x.coinCapacity ≤ 3000 ∧
           1 ≤ x.noteCapacity ∧ x.noteCapacity ≤ 1000
       let goodFloors : PerLane (Twelve Nat) → Prop := fun x => ∀ l d, (x.get l).get d ≤ 255
       let goodWeights : PerLane Nat → Prop := fun x => ∀ l, 1 ≤ x.get l ∧ x.get l ≤ 15
       let goodSelects : Eight Select → Prop := fun x => ∀ n, (x.get n).threshold ≤ 16
       let goodUnit : UnitId → UnitImage → Prop := fun u i =>
         i.count ≤ (c.restoredSettings.get u).capacity ∧ ((c.restoredSettings.get u).slot = none → i.count = 0)
       let goodEscrow : EscrowImage → Prop := fun i =>
         i.slots.length ≤ 8 ∧ ∀ tag, i.owner = .sale tag → 1 ≤ tag ∧ tag ≤ 65535
       let failed : RecordNo → Prop := fun r => c.failedSet.getLsbD r.val = true
       (∀ x, c.denoms = .whole x → goodDenoms x → c.restoredDenoms = x) ∧
         ((∀ x, c.denoms = .whole x → ¬ goodDenoms x) → c.restoredDenoms = Twelve.replicate
           { value := 1, kind := .coin, enabled := false, accept := false, recycle := false, lowWater := 0 }) ∧
         (∀ x, c.settings = .whole x → goodSettings x → c.restoredSettings = x) ∧
         ((∀ x, c.settings = .whole x → ¬ goodSettings x) → ∀ u, c.restoredSettings.get u =
           if unitKind u = .coin then { slot := none, capacity := 100, highWater := 80, sweepTarget := 60, mask := .both }
           else { slot := none, capacity := 60, highWater := 48, sweepTarget := 36, mask := .both }) ∧
         (∀ x, c.floors = .whole x → goodFloors x → c.restoredFloors = x) ∧
         ((∀ x, c.floors = .whole x → ¬ goodFloors x) → ∀ l d, (c.restoredFloors.get l).get d = 0) ∧
         (∀ x, c.limits = .whole x → goodLimits x → c.restoredLimits = x) ∧
         ((∀ x, c.limits = .whole x → ¬ goodLimits x) → c.restoredLimits =
           { limits := { payout := 10000, piece := 30, effort := 256, hold := 30, cup := 25, outlet := 10 }
             coinCapacity := 1500, noteCapacity := 600 }) ∧
         (∀ x, c.weights = .whole x → goodWeights x → c.restoredWeights = x) ∧
         ((∀ x, c.weights = .whole x → ¬ goodWeights x) → ∀ l, c.restoredWeights.get l = 4) ∧
         (∀ x, c.selects = .whole x → goodSelects x → c.restoredSelects = x) ∧
         ((∀ x, c.selects = .whole x → ¬ goodSelects x) → ∀ n, c.restoredSelects.get n =
           { event := .pieceIn, laneMask := 0, slotMask := 0xFFF#12, mode := .count, threshold := 0, invert := false }) ∧
         (c.isBlank = true ↔ c = CountStore.blank) ∧ (c.isBlank = true → ∀ r, ¬ failed r) ∧
         (c.isBlank = false →
           (failed 0 ↔ ∀ x, c.denoms = .whole x → ¬ goodDenoms x) ∧
             (failed 1 ↔ ∀ x, c.settings = .whole x → ¬ goodSettings x) ∧
             (failed 2 ↔ ∀ x, c.floors = .whole x → ¬ goodFloors x) ∧
             (failed 3 ↔ ∀ x, c.limits = .whole x → ¬ goodLimits x) ∧
             (failed 4 ↔ ∀ x, c.weights = .whole x → ¬ goodWeights x) ∧
             (failed 5 ↔ ∀ x, c.selects = .whole x → ¬ goodSelects x) ∧
             (∀ u, failed (recUnit u) ↔ ∀ i, c.units.get u = .whole i → ¬ goodUnit u i) ∧
             (∀ k, failed (recBox k) ↔ ∀ x, c.boxes.get k ≠ .whole x) ∧
             ∀ l, failed (recEscrow l) ↔ ∀ i, c.escrows.get l = .whole i → ¬ goodEscrow i))

/-- The record writer: WRITE_BEGIN takes the first eligible record at or after the scan position, going on from 21 to
0, out of the dirty set with its source's content; WRITE_COMPLETE stores that content and moves the scan position
behind it (R154, R155). While PFW is active every dirty record is eligible at once, and an idle writer begins with the
first of them in the event that ends with `flush`; otherwise that closing does nothing (R157; log 8). -/
def Obligations.RecordWriter : Prop :=
  (∀ s : State, s.Running →
     (∀ (r : RecordNo) (since : Nat), s.writer = .idle → s.pfw = false → (r, since) ∈ s.dirty → since + 200 ≤ s.now →
       (∀ e ∈ s.dirty, e.2 + 200 ≤ s.now → e.1 ≠ r →
         (s.scan ≤ r ∧ (e.1 < s.scan ∨ r < e.1)) ∨ (r < s.scan ∧ r < e.1 ∧ e.1 < s.scan)) →
       exec .writeBegin s =
         .next { s with writer := .writing (s.image r), dirty := s.dirty.filter fun e => decide (e.1 ≠ r) }) ∧
       (∀ x, s.writer = .writing x →
         exec .writeBegin s = .next s ∧
           exec .writeComplete s =
             .next
               ({ s with
                 store := s.store.put x, writer := .idle
                 scan := if h : x.record.val + 1 < 22 then ⟨x.record.val + 1, h⟩ else 0 }.startWrite) ∧
           (s.store.put x).content x.record = some x)) ∧
    (∀ s : State,
       (s.pfw = false ∨ s.writer ≠ .idle ∨ s.dirty = [] → s.flush = s) ∧
         (s.pfw = true → s.flush = s.startWrite) ∧
         ∀ (r : RecordNo) (since : Nat), s.pfw = true → s.writer = .idle → (r, since) ∈ s.dirty →
           (∀ e ∈ s.dirty, e.1 ≠ r → (s.scan ≤ r ∧ (e.1 < s.scan ∨ r < e.1)) ∨ (r < s.scan ∧ r < e.1 ∧ e.1 < s.scan)) →
           s.flush = { s with writer := .writing (s.image r), dirty := s.dirty.filter fun e => decide (e.1 ≠ r) })

/-- The reset state meets every law that the steps keep. The reset state is the restore of a blank store, the model's
choice (log 1). -/
def Obligations.ResetMeetsLaws : Prop :=
  State.reset.DenomLaw ∧ State.reset.OrderLaw ∧ State.reset.EscrowLaw ∧ State.reset.EventLaw ∧ State.reset.CounterLaw ∧
    State.reset.ServiceQueueLaw ∧ State.reset.BusyLaw ∧ dirtyLaw State.reset.dirty ∧ State.reset.CapacityLaw ∧
    State.reset.ReservationLaw ∧ State.reset.UnitLaw ∧ State.reset.LaneQueueLaw ∧ State.reset.RequestLaw ∧
    State.reset.StackQueueLaw ∧ State.reset.BooksLaw

/-- Every step keeps: at most 4 sales a lane, no tag twice, every tag 1 to 65,535 (R25, R26, R27). -/
def Obligations.StepKeepsOrderLists : Prop :=
  ∀ s t : State, s.OrderLaw → step s = .next t → t.OrderLaw

/-- Every step keeps: at most 8 notes on an escrow stack (R39, R40). -/
def Obligations.StepKeepsEscrowRoom : Prop :=
  ∀ s t : State, s.EscrowLaw → step s = .next t → t.EscrowLaw

/-- Every step keeps: different values of enabled slots, counters below 2^32, and a dirty set that lists each record
once, in ascending number (R1, R139, R154, R179). And whatever command is taken, but for POWER_ON: a record whose
source it changes is in the dirty set afterwards, or in writing with the new content; a member keeps its joining time
and leaves only by the beginning of its write; and a record joins at the time of the event (R154, R155). -/
def Obligations.StepKeepsTables : Prop :=
  (∀ s t : State, step s = .next t →
     (s.DenomLaw → t.DenomLaw) ∧ (s.CounterLaw → t.CounterLaw) ∧ (dirtyLaw s.dirty → dirtyLaw t.dirty)) ∧
  ∀ (c : Instr) (s t : State), s.Running → c ≠ .powerOn → exec c s = .next t → ∀ r : RecordNo,
    (t.image r ≠ s.image r → (∃ since, (r, since) ∈ t.dirty) ∨ t.writer = .writing (t.image r)) ∧
      (∀ since, (r, since) ∈ s.dirty → (r, since) ∈ t.dirty ∨ ∃ x, t.writer = .writing x ∧ x.record = r) ∧
      ∀ since, (r, since) ∈ t.dirty → (r, since) ∈ s.dirty ∨ since = t.now

/-- Every step keeps: at most 8 service jobs, at most 16 jobs in a lane's queue, at most one class 0 job for an escrow
in the stack-down positions, at most one plan request a sale, at most 4 entries of a per-tag event list, at most two
waiting BUSY frames (R48, R90, R169, R174). -/
def Obligations.StepKeepsQueues : Prop :=
  ∀ s t : State, step s = .next t →
    (s.ServiceQueueLaw → t.ServiceQueueLaw) ∧ (s.LaneQueueLaw → t.LaneQueueLaw) ∧
    (s.StackQueueLaw → t.StackQueueLaw) ∧ (s.RequestLaw → t.RequestLaw) ∧ (s.EventLaw → t.EventLaw) ∧ (s.BusyLaw → t.BusyLaw)

/-- Every step keeps: no unit's count passes its capacity (R7), in step with the high-water marks within the
capacities, room at the drum that a stack-down in flight is bound for, and queued jobs that draw on units only (R4,
R89, R128). And every step keeps the books of the float: committed within count for every unit (R7), and for every
slot the reserved total within its backing (R57), in step with jobs and units that agree (R91, R114, R115), unit
states (R8, R10, R121, R137), and reservations, sales and plan requests that agree (R36, R48, R70, R71). That serial
numbers are distinct is about the model's own numbering (log 21). -/
def Obligations.StepKeepsCapacity : Prop :=
  (∀ s t : State, s.CapacityLaw → step s = .next t → t.CapacityLaw) ∧
    (∀ s t : State, s.BooksLaw → step s = .next t → t.BooksLaw)

/-- What no request of a lane port can change: the configuration, the unit settings and counts, the cashboxes, the
weights, the selects, key and warning, the other lane's record and its sales' money, the other ports' links (R172). -/
def Obligations.LanePortsIsolated : Prop :=
  ∀ (i : Instr) (l : Lane) (c : Command) (vs : List Nat) (s t : State), requestParts i = some (l.port, c, vs) →
    exec i s = .next t →
    SameConfig s t ∧ t.boxes = s.boxes ∧ SameSupply s t ∧ SameClock s t ∧ t.tallies = s.tallies ∧ SamePaths s t ∧
      (∀ u, (t.units.get u).settings = (s.units.get u).settings ∧ (t.units.get u).count = (s.units.get u).count) ∧
      (t.lanes.get l).weight = (s.lanes.get l).weight ∧ t.lanes.get l.other = s.lanes.get l.other ∧
      (∀ n, (t.counters.get n).select = (s.counters.get n).select) ∧
      (∀ p, p ≠ l.port → t.ports.get p = s.ports.get p) ∧
      ((t.sales.get l.other).map fun x => (x.tag, x.due, x.coinValue, x.noteValue, x.paid, x.refund)) =
        (s.sales.get l.other).map fun x => (x.tag, x.due, x.coinValue, x.noteValue, x.paid, x.refund)
end

