-- ==== Sys2Proof/Laws/State.lean ====
section
/-! SUPPORT. What each update of one record of State leaves, field by field, and the laws of the fixed tables. -/

namespace Sys2Proof

/-! ### Tables -/

theorem PerLane.get_set {α : Type} (t : PerLane α) (i j : Lane) (x : α) : (t.set i x).get j = if j = i then x else t.get j := by
  cases i <;> cases j <;> rfl

@[simp] theorem PerLane.get_set_same {α : Type} (t : PerLane α) (i : Lane) (x : α) : (t.set i x).get i = x := by
  simp [PerLane.get_set]

theorem PerLane.get_set_other {α : Type} (t : PerLane α) {i j : Lane} (h : j ≠ i) (x : α) : (t.set i x).get j = t.get j := by
  simp [PerLane.get_set, h]

theorem PerLane.get_modify {α : Type} (t : PerLane α) (i j : Lane) (f : α → α) :
    (t.modify i f).get j = if j = i then f (t.get i) else t.get j := by
  simp [PerLane.modify, PerLane.get_set]

@[simp] theorem PerLane.get_modify_same {α : Type} (t : PerLane α) (i : Lane) (f : α → α) :
    (t.modify i f).get i = f (t.get i) := by
  simp [PerLane.modify]

theorem PerLane.get_modify_other {α : Type} (t : PerLane α) {i j : Lane} (h : j ≠ i) (f : α → α) :
    (t.modify i f).get j = t.get j := by
  simp [PerLane.modify, PerLane.get_set_other t h]

theorem PerKind.get_set {α : Type} (t : PerKind α) (i j : Kind) (x : α) : (t.set i x).get j = if j = i then x else t.get j := by
  cases i <;> cases j <;> rfl

@[simp] theorem PerKind.get_set_same {α : Type} (t : PerKind α) (i : Kind) (x : α) : (t.set i x).get i = x := by
  simp [PerKind.get_set]

theorem PerKind.get_set_other {α : Type} (t : PerKind α) {i j : Kind} (h : j ≠ i) (x : α) : (t.set i x).get j = t.get j := by
  simp [PerKind.get_set, h]

theorem PerKind.get_modify {α : Type} (t : PerKind α) (i j : Kind) (f : α → α) :
    (t.modify i f).get j = if j = i then f (t.get i) else t.get j := by
  simp [PerKind.modify, PerKind.get_set]

@[simp] theorem PerKind.get_modify_same {α : Type} (t : PerKind α) (i : Kind) (f : α → α) :
    (t.modify i f).get i = f (t.get i) := by
  simp [PerKind.modify]

theorem PerKind.get_modify_other {α : Type} (t : PerKind α) {i j : Kind} (h : j ≠ i) (f : α → α) :
    (t.modify i f).get j = t.get j := by
  simp [PerKind.modify, PerKind.get_set_other t h]

theorem PerPort.get_set {α : Type} (t : PerPort α) (i j : Port) (x : α) : (t.set i x).get j = if j = i then x else t.get j := by
  cases i <;> cases j <;> rfl

@[simp] theorem PerPort.get_set_same {α : Type} (t : PerPort α) (i : Port) (x : α) : (t.set i x).get i = x := by
  simp [PerPort.get_set]

theorem PerPort.get_set_other {α : Type} (t : PerPort α) {i j : Port} (h : j ≠ i) (x : α) : (t.set i x).get j = t.get j := by
  simp [PerPort.get_set, h]

theorem PerPort.get_modify {α : Type} (t : PerPort α) (i j : Port) (f : α → α) :
    (t.modify i f).get j = if j = i then f (t.get i) else t.get j := by
  simp [PerPort.modify, PerPort.get_set]

@[simp] theorem PerPort.get_modify_same {α : Type} (t : PerPort α) (i : Port) (f : α → α) :
    (t.modify i f).get i = f (t.get i) := by
  simp [PerPort.modify]

theorem PerPort.get_modify_other {α : Type} (t : PerPort α) {i j : Port} (h : j ≠ i) (f : α → α) :
    (t.modify i f).get j = t.get j := by
  simp [PerPort.modify, PerPort.get_set_other t h]

theorem Twelve.get_set {α : Type} (t : Twelve α) (i j : Fin 12) (x : α) : (t.set i x).get j = if j = i then x else t.get j := by
  fin_cases i <;> fin_cases j <;> rfl

@[simp] theorem Twelve.get_set_same {α : Type} (t : Twelve α) (i : Fin 12) (x : α) : (t.set i x).get i = x := by
  simp [Twelve.get_set]

theorem Twelve.get_set_other {α : Type} (t : Twelve α) {i j : Fin 12} (h : j ≠ i) (x : α) : (t.set i x).get j = t.get j := by
  simp [Twelve.get_set, h]

theorem Twelve.get_modify {α : Type} (t : Twelve α) (i j : Fin 12) (f : α → α) :
    (t.modify i f).get j = if j = i then f (t.get i) else t.get j := by
  simp [Twelve.modify, Twelve.get_set]

@[simp] theorem Twelve.get_modify_same {α : Type} (t : Twelve α) (i : Fin 12) (f : α → α) :
    (t.modify i f).get i = f (t.get i) := by
  simp [Twelve.modify]

theorem Twelve.get_modify_other {α : Type} (t : Twelve α) {i j : Fin 12} (h : j ≠ i) (f : α → α) :
    (t.modify i f).get j = t.get j := by
  simp [Twelve.modify, Twelve.get_set_other t h]

theorem Eight.get_set {α : Type} (t : Eight α) (i j : Fin 8) (x : α) : (t.set i x).get j = if j = i then x else t.get j := by
  fin_cases i <;> fin_cases j <;> rfl

@[simp] theorem Eight.get_set_same {α : Type} (t : Eight α) (i : Fin 8) (x : α) : (t.set i x).get i = x := by
  simp [Eight.get_set]

theorem Eight.get_set_other {α : Type} (t : Eight α) {i j : Fin 8} (h : j ≠ i) (x : α) : (t.set i x).get j = t.get j := by
  simp [Eight.get_set, h]

@[simp] theorem PerLane.get_map {α β : Type} (t : PerLane α) (f : α → β) (l : Lane) : (t.map f).get l = f (t.get l) := by
  cases l <;> rfl

@[simp] theorem PerKind.get_map {α β : Type} (t : PerKind α) (f : α → β) (k : Kind) : (t.map f).get k = f (t.get k) := by
  cases k <;> rfl

@[simp] theorem PerPort.get_map {α β : Type} (t : PerPort α) (f : α → β) (p : Port) : (t.map f).get p = f (t.get p) := by
  cases p <;> rfl

@[simp] theorem Twelve.get_tabulate {α : Type} (f : Fin 12 → α) (i : Fin 12) : (Twelve.tabulate f).get i = f i := by
  fin_cases i <;> rfl

@[simp] theorem Twelve.get_map {α β : Type} (t : Twelve α) (f : α → β) (i : Fin 12) : (t.map f).get i = f (t.get i) := by
  simp [Twelve.map]

@[simp] theorem Twelve.get_replicate {α : Type} (x : α) (i : Fin 12) : (Twelve.replicate x).get i = x := by
  simp [Twelve.replicate]

@[simp] theorem Eight.get_tabulate {α : Type} (f : Fin 8 → α) (i : Fin 8) : (Eight.tabulate f).get i = f i := by
  fin_cases i <;> rfl

end Sys2Proof

namespace Sys2Proof.Machine

/-! ### modUnit -/

@[simp] theorem State.modUnit_pending (s : State) (u : UnitId) (f : UnitRec → UnitRec) :
    (s.modUnit u f).pending = s.pending := rfl
@[simp] theorem State.modUnit_now (s : State) (u : UnitId) (f : UnitRec → UnitRec) :
    (s.modUnit u f).now = s.now := rfl
@[simp] theorem State.modUnit_powered (s : State) (u : UnitId) (f : UnitRec → UnitRec) :
    (s.modUnit u f).powered = s.powered := rfl
@[simp] theorem State.modUnit_key (s : State) (u : UnitId) (f : UnitRec → UnitRec) :
    (s.modUnit u f).key = s.key := rfl
@[simp] theorem State.modUnit_pfw (s : State) (u : UnitId) (f : UnitRec → UnitRec) :
    (s.modUnit u f).pfw = s.pfw := rfl
@[simp] theorem State.modUnit_armed (s : State) (u : UnitId) (f : UnitRec → UnitRec) :
    (s.modUnit u f).armed = s.armed := rfl
@[simp] theorem State.modUnit_lastCause (s : State) (u : UnitId) (f : UnitRec → UnitRec) :
    (s.modUnit u f).lastCause = s.lastCause := rfl
@[simp] theorem State.modUnit_lastFailed (s : State) (u : UnitId) (f : UnitRec → UnitRec) :
    (s.modUnit u f).lastFailed = s.lastFailed := rfl
@[simp] theorem State.modUnit_denoms (s : State) (u : UnitId) (f : UnitRec → UnitRec) :
    (s.modUnit u f).denoms = s.denoms := rfl
@[simp] theorem State.modUnit_limits (s : State) (u : UnitId) (f : UnitRec → UnitRec) :
    (s.modUnit u f).limits = s.limits := rfl
@[simp] theorem State.modUnit_floors (s : State) (u : UnitId) (f : UnitRec → UnitRec) :
    (s.modUnit u f).floors = s.floors := rfl
@[simp] theorem State.modUnit_units (s : State) (u : UnitId) (f : UnitRec → UnitRec) :
    (s.modUnit u f).units = s.units.modify u f := rfl
@[simp] theorem State.modUnit_boxes (s : State) (u : UnitId) (f : UnitRec → UnitRec) :
    (s.modUnit u f).boxes = s.boxes := rfl
@[simp] theorem State.modUnit_lanes (s : State) (u : UnitId) (f : UnitRec → UnitRec) :
    (s.modUnit u f).lanes = s.lanes := rfl
@[simp] theorem State.modUnit_sales (s : State) (u : UnitId) (f : UnitRec → UnitRec) :
    (s.modUnit u f).sales = s.sales := rfl
@[simp] theorem State.modUnit_escrows (s : State) (u : UnitId) (f : UnitRec → UnitRec) :
    (s.modUnit u f).escrows = s.escrows := rfl
@[simp] theorem State.modUnit_planReqs (s : State) (u : UnitId) (f : UnitRec → UnitRec) :
    (s.modUnit u f).planReqs = s.planReqs := rfl
@[simp] theorem State.modUnit_reservations (s : State) (u : UnitId) (f : UnitRec → UnitRec) :
    (s.modUnit u f).reservations = s.reservations := rfl
@[simp] theorem State.modUnit_laneJobs (s : State) (u : UnitId) (f : UnitRec → UnitRec) :
    (s.modUnit u f).laneJobs = s.laneJobs := rfl
@[simp] theorem State.modUnit_serviceJobs (s : State) (u : UnitId) (f : UnitRec → UnitRec) :
    (s.modUnit u f).serviceJobs = s.serviceJobs := rfl
@[simp] theorem State.modUnit_stackJobs (s : State) (u : UnitId) (f : UnitRec → UnitRec) :
    (s.modUnit u f).stackJobs = s.stackJobs := rfl
@[simp] theorem State.modUnit_nextJob (s : State) (u : UnitId) (f : UnitRec → UnitRec) :
    (s.modUnit u f).nextJob = s.nextJob := rfl
@[simp] theorem State.modUnit_turns (s : State) (u : UnitId) (f : UnitRec → UnitRec) :
    (s.modUnit u f).turns = s.turns := rfl
@[simp] theorem State.modUnit_mechs (s : State) (u : UnitId) (f : UnitRec → UnitRec) :
    (s.modUnit u f).mechs = s.mechs := rfl
@[simp] theorem State.modUnit_tallies (s : State) (u : UnitId) (f : UnitRec → UnitRec) :
    (s.modUnit u f).tallies = s.tallies := rfl
@[simp] theorem State.modUnit_retest (s : State) (u : UnitId) (f : UnitRec → UnitRec) :
    (s.modUnit u f).retest = s.retest := rfl
@[simp] theorem State.modUnit_transfers (s : State) (u : UnitId) (f : UnitRec → UnitRec) :
    (s.modUnit u f).transfers = s.transfers := rfl
@[simp] theorem State.modUnit_ports (s : State) (u : UnitId) (f : UnitRec → UnitRec) :
    (s.modUnit u f).ports = s.ports := rfl
@[simp] theorem State.modUnit_events (s : State) (u : UnitId) (f : UnitRec → UnitRec) :
    (s.modUnit u f).events = s.events := rfl
@[simp] theorem State.modUnit_counters (s : State) (u : UnitId) (f : UnitRec → UnitRec) :
    (s.modUnit u f).counters = s.counters := rfl
@[simp] theorem State.modUnit_dirty (s : State) (u : UnitId) (f : UnitRec → UnitRec) :
    (s.modUnit u f).dirty = s.dirty := rfl
@[simp] theorem State.modUnit_writer (s : State) (u : UnitId) (f : UnitRec → UnitRec) :
    (s.modUnit u f).writer = s.writer := rfl
@[simp] theorem State.modUnit_scan (s : State) (u : UnitId) (f : UnitRec → UnitRec) :
    (s.modUnit u f).scan = s.scan := rfl
@[simp] theorem State.modUnit_store (s : State) (u : UnitId) (f : UnitRec → UnitRec) :
    (s.modUnit u f).store = s.store := rfl
@[simp] theorem State.modUnit_coinPaths (s : State) (u : UnitId) (f : UnitRec → UnitRec) :
    (s.modUnit u f).coinPaths = s.coinPaths := rfl

/-! ### modBox -/

@[simp] theorem State.modBox_pending (s : State) (k : Kind) (f : Cashbox → Cashbox) :
    (s.modBox k f).pending = s.pending := rfl
@[simp] theorem State.modBox_now (s : State) (k : Kind) (f : Cashbox → Cashbox) :
    (s.modBox k f).now = s.now := rfl
@[simp] theorem State.modBox_powered (s : State) (k : Kind) (f : Cashbox → Cashbox) :
    (s.modBox k f).powered = s.powered := rfl
@[simp] theorem State.modBox_key (s : State) (k : Kind) (f : Cashbox → Cashbox) :
    (s.modBox k f).key = s.key := rfl
@[simp] theorem State.modBox_pfw (s : State) (k : Kind) (f : Cashbox → Cashbox) :
    (s.modBox k f).pfw = s.pfw := rfl
@[simp] theorem State.modBox_armed (s : State) (k : Kind) (f : Cashbox → Cashbox) :
    (s.modBox k f).armed = s.armed := rfl
@[simp] theorem State.modBox_lastCause (s : State) (k : Kind) (f : Cashbox → Cashbox) :
    (s.modBox k f).lastCause = s.lastCause := rfl
@[simp] theorem State.modBox_lastFailed (s : State) (k : Kind) (f : Cashbox → Cashbox) :
    (s.modBox k f).lastFailed = s.lastFailed := rfl
@[simp] theorem State.modBox_denoms (s : State) (k : Kind) (f : Cashbox → Cashbox) :
    (s.modBox k f).denoms = s.denoms := rfl
@[simp] theorem State.modBox_limits (s : State) (k : Kind) (f : Cashbox → Cashbox) :
    (s.modBox k f).limits = s.limits := rfl
@[simp] theorem State.modBox_floors (s : State) (k : Kind) (f : Cashbox → Cashbox) :
    (s.modBox k f).floors = s.floors := rfl
@[simp] theorem State.modBox_units (s : State) (k : Kind) (f : Cashbox → Cashbox) :
    (s.modBox k f).units = s.units := rfl
@[simp] theorem State.modBox_boxes (s : State) (k : Kind) (f : Cashbox → Cashbox) :
    (s.modBox k f).boxes = s.boxes.modify k f := rfl
@[simp] theorem State.modBox_lanes (s : State) (k : Kind) (f : Cashbox → Cashbox) :
    (s.modBox k f).lanes = s.lanes := rfl
@[simp] theorem State.modBox_sales (s : State) (k : Kind) (f : Cashbox → Cashbox) :
    (s.modBox k f).sales = s.sales := rfl
@[simp] theorem State.modBox_escrows (s : State) (k : Kind) (f : Cashbox → Cashbox) :
    (s.modBox k f).escrows = s.escrows := rfl
@[simp] theorem State.modBox_planReqs (s : State) (k : Kind) (f : Cashbox → Cashbox) :
    (s.modBox k f).planReqs = s.planReqs := rfl
@[simp] theorem State.modBox_reservations (s : State) (k : Kind) (f : Cashbox → Cashbox) :
    (s.modBox k f).reservations = s.reservations := rfl
@[simp] theorem State.modBox_laneJobs (s : State) (k : Kind) (f : Cashbox → Cashbox) :
    (s.modBox k f).laneJobs = s.laneJobs := rfl
@[simp] theorem State.modBox_serviceJobs (s : State) (k : Kind) (f : Cashbox → Cashbox) :
    (s.modBox k f).serviceJobs = s.serviceJobs := rfl
@[simp] theorem State.modBox_stackJobs (s : State) (k : Kind) (f : Cashbox → Cashbox) :
    (s.modBox k f).stackJobs = s.stackJobs := rfl
@[simp] theorem State.modBox_nextJob (s : State) (k : Kind) (f : Cashbox → Cashbox) :
    (s.modBox k f).nextJob = s.nextJob := rfl
@[simp] theorem State.modBox_turns (s : State) (k : Kind) (f : Cashbox → Cashbox) :
    (s.modBox k f).turns = s.turns := rfl
@[simp] theorem State.modBox_mechs (s : State) (k : Kind) (f : Cashbox → Cashbox) :
    (s.modBox k f).mechs = s.mechs := rfl
@[simp] theorem State.modBox_tallies (s : State) (k : Kind) (f : Cashbox → Cashbox) :
    (s.modBox k f).tallies = s.tallies := rfl
@[simp] theorem State.modBox_retest (s : State) (k : Kind) (f : Cashbox → Cashbox) :
    (s.modBox k f).retest = s.retest := rfl
@[simp] theorem State.modBox_transfers (s : State) (k : Kind) (f : Cashbox → Cashbox) :
    (s.modBox k f).transfers = s.transfers := rfl
@[simp] theorem State.modBox_ports (s : State) (k : Kind) (f : Cashbox → Cashbox) :
    (s.modBox k f).ports = s.ports := rfl
@[simp] theorem State.modBox_events (s : State) (k : Kind) (f : Cashbox → Cashbox) :
    (s.modBox k f).events = s.events := rfl
@[simp] theorem State.modBox_counters (s : State) (k : Kind) (f : Cashbox → Cashbox) :
    (s.modBox k f).counters = s.counters := rfl
@[simp] theorem State.modBox_dirty (s : State) (k : Kind) (f : Cashbox → Cashbox) :
    (s.modBox k f).dirty = s.dirty := rfl
@[simp] theorem State.modBox_writer (s : State) (k : Kind) (f : Cashbox → Cashbox) :
    (s.modBox k f).writer = s.writer := rfl
@[simp] theorem State.modBox_scan (s : State) (k : Kind) (f : Cashbox → Cashbox) :
    (s.modBox k f).scan = s.scan := rfl
@[simp] theorem State.modBox_store (s : State) (k : Kind) (f : Cashbox → Cashbox) :
    (s.modBox k f).store = s.store := rfl
@[simp] theorem State.modBox_coinPaths (s : State) (k : Kind) (f : Cashbox → Cashbox) :
    (s.modBox k f).coinPaths = s.coinPaths := rfl

/-! ### modLane -/

@[simp] theorem State.modLane_pending (s : State) (l : Lane) (f : LaneRec → LaneRec) :
    (s.modLane l f).pending = s.pending := rfl
@[simp] theorem State.modLane_now (s : State) (l : Lane) (f : LaneRec → LaneRec) :
    (s.modLane l f).now = s.now := rfl
@[simp] theorem State.modLane_powered (s : State) (l : Lane) (f : LaneRec → LaneRec) :
    (s.modLane l f).powered = s.powered := rfl
@[simp] theorem State.modLane_key (s : State) (l : Lane) (f : LaneRec → LaneRec) :
    (s.modLane l f).key = s.key := rfl
@[simp] theorem State.modLane_pfw (s : State) (l : Lane) (f : LaneRec → LaneRec) :
    (s.modLane l f).pfw = s.pfw := rfl
@[simp] theorem State.modLane_armed (s : State) (l : Lane) (f : LaneRec → LaneRec) :
    (s.modLane l f).armed = s.armed := rfl
@[simp] theorem State.modLane_lastCause (s : State) (l : Lane) (f : LaneRec → LaneRec) :
    (s.modLane l f).lastCause = s.lastCause := rfl
@[simp] theorem State.modLane_lastFailed (s : State) (l : Lane) (f : LaneRec → LaneRec) :
    (s.modLane l f).lastFailed = s.lastFailed := rfl
@[simp] theorem State.modLane_denoms (s : State) (l : Lane) (f : LaneRec → LaneRec) :
    (s.modLane l f).denoms = s.denoms := rfl
@[simp] theorem State.modLane_limits (s : State) (l : Lane) (f : LaneRec → LaneRec) :
    (s.modLane l f).limits = s.limits := rfl
@[simp] theorem State.modLane_floors (s : State) (l : Lane) (f : LaneRec → LaneRec) :
    (s.modLane l f).floors = s.floors := rfl
@[simp] theorem State.modLane_units (s : State) (l : Lane) (f : LaneRec → LaneRec) :
    (s.modLane l f).units = s.units := rfl
@[simp] theorem State.modLane_boxes (s : State) (l : Lane) (f : LaneRec → LaneRec) :
    (s.modLane l f).boxes = s.boxes := rfl
@[simp] theorem State.modLane_lanes (s : State) (l : Lane) (f : LaneRec → LaneRec) :
    (s.modLane l f).lanes = s.lanes.modify l f := rfl
@[simp] theorem State.modLane_sales (s : State) (l : Lane) (f : LaneRec → LaneRec) :
    (s.modLane l f).sales = s.sales := rfl
@[simp] theorem State.modLane_escrows (s : State) (l : Lane) (f : LaneRec → LaneRec) :
    (s.modLane l f).escrows = s.escrows := rfl
@[simp] theorem State.modLane_planReqs (s : State) (l : Lane) (f : LaneRec → LaneRec) :
    (s.modLane l f).planReqs = s.planReqs := rfl
@[simp] theorem State.modLane_reservations (s : State) (l : Lane) (f : LaneRec → LaneRec) :
    (s.modLane l f).reservations = s.reservations := rfl
@[simp] theorem State.modLane_laneJobs (s : State) (l : Lane) (f : LaneRec → LaneRec) :
    (s.modLane l f).laneJobs = s.laneJobs := rfl
@[simp] theorem State.modLane_serviceJobs (s : State) (l : Lane) (f : LaneRec → LaneRec) :
    (s.modLane l f).serviceJobs = s.serviceJobs := rfl
@[simp] theorem State.modLane_stackJobs (s : State) (l : Lane) (f : LaneRec → LaneRec) :
    (s.modLane l f).stackJobs = s.stackJobs := rfl
@[simp] theorem State.modLane_nextJob (s : State) (l : Lane) (f : LaneRec → LaneRec) :
    (s.modLane l f).nextJob = s.nextJob := rfl
@[simp] theorem State.modLane_turns (s : State) (l : Lane) (f : LaneRec → LaneRec) :
    (s.modLane l f).turns = s.turns := rfl
@[simp] theorem State.modLane_mechs (s : State) (l : Lane) (f : LaneRec → LaneRec) :
    (s.modLane l f).mechs = s.mechs := rfl
@[simp] theorem State.modLane_tallies (s : State) (l : Lane) (f : LaneRec → LaneRec) :
    (s.modLane l f).tallies = s.tallies := rfl
@[simp] theorem State.modLane_retest (s : State) (l : Lane) (f : LaneRec → LaneRec) :
    (s.modLane l f).retest = s.retest := rfl
@[simp] theorem State.modLane_transfers (s : State) (l : Lane) (f : LaneRec → LaneRec) :
    (s.modLane l f).transfers = s.transfers := rfl
@[simp] theorem State.modLane_ports (s : State) (l : Lane) (f : LaneRec → LaneRec) :
    (s.modLane l f).ports = s.ports := rfl
@[simp] theorem State.modLane_events (s : State) (l : Lane) (f : LaneRec → LaneRec) :
    (s.modLane l f).events = s.events := rfl
@[simp] theorem State.modLane_counters (s : State) (l : Lane) (f : LaneRec → LaneRec) :
    (s.modLane l f).counters = s.counters := rfl
@[simp] theorem State.modLane_dirty (s : State) (l : Lane) (f : LaneRec → LaneRec) :
    (s.modLane l f).dirty = s.dirty := rfl
@[simp] theorem State.modLane_writer (s : State) (l : Lane) (f : LaneRec → LaneRec) :
    (s.modLane l f).writer = s.writer := rfl
@[simp] theorem State.modLane_scan (s : State) (l : Lane) (f : LaneRec → LaneRec) :
    (s.modLane l f).scan = s.scan := rfl
@[simp] theorem State.modLane_store (s : State) (l : Lane) (f : LaneRec → LaneRec) :
    (s.modLane l f).store = s.store := rfl
@[simp] theorem State.modLane_coinPaths (s : State) (l : Lane) (f : LaneRec → LaneRec) :
    (s.modLane l f).coinPaths = s.coinPaths := rfl

/-! ### modSales -/

@[simp] theorem State.modSales_pending (s : State) (l : Lane) (f : List Sale → List Sale) :
    (s.modSales l f).pending = s.pending := rfl
@[simp] theorem State.modSales_now (s : State) (l : Lane) (f : List Sale → List Sale) :
    (s.modSales l f).now = s.now := rfl
@[simp] theorem State.modSales_powered (s : State) (l : Lane) (f : List Sale → List Sale) :
    (s.modSales l f).powered = s.powered := rfl
@[simp] theorem State.modSales_key (s : State) (l : Lane) (f : List Sale → List Sale) :
    (s.modSales l f).key = s.key := rfl
@[simp] theorem State.modSales_pfw (s : State) (l : Lane) (f : List Sale → List Sale) :
    (s.modSales l f).pfw = s.pfw := rfl
@[simp] theorem State.modSales_armed (s : State) (l : Lane) (f : List Sale → List Sale) :
    (s.modSales l f).armed = s.armed := rfl
@[simp] theorem State.modSales_lastCause (s : State) (l : Lane) (f : List Sale → List Sale) :
    (s.modSales l f).lastCause = s.lastCause := rfl
@[simp] theorem State.modSales_lastFailed (s : State) (l : Lane) (f : List Sale → List Sale) :
    (s.modSales l f).lastFailed = s.lastFailed := rfl
@[simp] theorem State.modSales_denoms (s : State) (l : Lane) (f : List Sale → List Sale) :
    (s.modSales l f).denoms = s.denoms := rfl
@[simp] theorem State.modSales_limits (s : State) (l : Lane) (f : List Sale → List Sale) :
    (s.modSales l f).limits = s.limits := rfl
@[simp] theorem State.modSales_floors (s : State) (l : Lane) (f : List Sale → List Sale) :
    (s.modSales l f).floors = s.floors := rfl
@[simp] theorem State.modSales_units (s : State) (l : Lane) (f : List Sale → List Sale) :
    (s.modSales l f).units = s.units := rfl
@[simp] theorem State.modSales_boxes (s : State) (l : Lane) (f : List Sale → List Sale) :
    (s.modSales l f).boxes = s.boxes := rfl
@[simp] theorem State.modSales_lanes (s : State) (l : Lane) (f : List Sale → List Sale) :
    (s.modSales l f).lanes = s.lanes := rfl
@[simp] theorem State.modSales_sales (s : State) (l : Lane) (f : List Sale → List Sale) :
    (s.modSales l f).sales = s.sales.modify l f := rfl
@[simp] theorem State.modSales_escrows (s : State) (l : Lane) (f : List Sale → List Sale) :
    (s.modSales l f).escrows = s.escrows := rfl
@[simp] theorem State.modSales_planReqs (s : State) (l : Lane) (f : List Sale → List Sale) :
    (s.modSales l f).planReqs = s.planReqs := rfl
@[simp] theorem State.modSales_reservations (s : State) (l : Lane) (f : List Sale → List Sale) :
    (s.modSales l f).reservations = s.reservations := rfl
@[simp] theorem State.modSales_laneJobs (s : State) (l : Lane) (f : List Sale → List Sale) :
    (s.modSales l f).laneJobs = s.laneJobs := rfl
@[simp] theorem State.modSales_serviceJobs (s : State) (l : Lane) (f : List Sale → List Sale) :
    (s.modSales l f).serviceJobs = s.serviceJobs := rfl
@[simp] theorem State.modSales_stackJobs (s : State) (l : Lane) (f : List Sale → List Sale) :
    (s.modSales l f).stackJobs = s.stackJobs := rfl
@[simp] theorem State.modSales_nextJob (s : State) (l : Lane) (f : List Sale → List Sale) :
    (s.modSales l f).nextJob = s.nextJob := rfl
@[simp] theorem State.modSales_turns (s : State) (l : Lane) (f : List Sale → List Sale) :
    (s.modSales l f).turns = s.turns := rfl
@[simp] theorem State.modSales_mechs (s : State) (l : Lane) (f : List Sale → List Sale) :
    (s.modSales l f).mechs = s.mechs := rfl
@[simp] theorem State.modSales_tallies (s : State) (l : Lane) (f : List Sale → List Sale) :
    (s.modSales l f).tallies = s.tallies := rfl
@[simp] theorem State.modSales_retest (s : State) (l : Lane) (f : List Sale → List Sale) :
    (s.modSales l f).retest = s.retest := rfl
@[simp] theorem State.modSales_transfers (s : State) (l : Lane) (f : List Sale → List Sale) :
    (s.modSales l f).transfers = s.transfers := rfl
@[simp] theorem State.modSales_ports (s : State) (l : Lane) (f : List Sale → List Sale) :
    (s.modSales l f).ports = s.ports := rfl
@[simp] theorem State.modSales_events (s : State) (l : Lane) (f : List Sale → List Sale) :
    (s.modSales l f).events = s.events := rfl
@[simp] theorem State.modSales_counters (s : State) (l : Lane) (f : List Sale → List Sale) :
    (s.modSales l f).counters = s.counters := rfl
@[simp] theorem State.modSales_dirty (s : State) (l : Lane) (f : List Sale → List Sale) :
    (s.modSales l f).dirty = s.dirty := rfl
@[simp] theorem State.modSales_writer (s : State) (l : Lane) (f : List Sale → List Sale) :
    (s.modSales l f).writer = s.writer := rfl
@[simp] theorem State.modSales_scan (s : State) (l : Lane) (f : List Sale → List Sale) :
    (s.modSales l f).scan = s.scan := rfl
@[simp] theorem State.modSales_store (s : State) (l : Lane) (f : List Sale → List Sale) :
    (s.modSales l f).store = s.store := rfl
@[simp] theorem State.modSales_coinPaths (s : State) (l : Lane) (f : List Sale → List Sale) :
    (s.modSales l f).coinPaths = s.coinPaths := rfl

/-! ### modEscrow -/

@[simp] theorem State.modEscrow_pending (s : State) (l : Lane) (f : Escrow → Escrow) :
    (s.modEscrow l f).pending = s.pending := rfl
@[simp] theorem State.modEscrow_now (s : State) (l : Lane) (f : Escrow → Escrow) :
    (s.modEscrow l f).now = s.now := rfl
@[simp] theorem State.modEscrow_powered (s : State) (l : Lane) (f : Escrow → Escrow) :
    (s.modEscrow l f).powered = s.powered := rfl
@[simp] theorem State.modEscrow_key (s : State) (l : Lane) (f : Escrow → Escrow) :
    (s.modEscrow l f).key = s.key := rfl
@[simp] theorem State.modEscrow_pfw (s : State) (l : Lane) (f : Escrow → Escrow) :
    (s.modEscrow l f).pfw = s.pfw := rfl
@[simp] theorem State.modEscrow_armed (s : State) (l : Lane) (f : Escrow → Escrow) :
    (s.modEscrow l f).armed = s.armed := rfl
@[simp] theorem State.modEscrow_lastCause (s : State) (l : Lane) (f : Escrow → Escrow) :
    (s.modEscrow l f).lastCause = s.lastCause := rfl
@[simp] theorem State.modEscrow_lastFailed (s : State) (l : Lane) (f : Escrow → Escrow) :
    (s.modEscrow l f).lastFailed = s.lastFailed := rfl
@[simp] theorem State.modEscrow_denoms (s : State) (l : Lane) (f : Escrow → Escrow) :
    (s.modEscrow l f).denoms = s.denoms := rfl
@[simp] theorem State.modEscrow_limits (s : State) (l : Lane) (f : Escrow → Escrow) :
    (s.modEscrow l f).limits = s.limits := rfl
@[simp] theorem State.modEscrow_floors (s : State) (l : Lane) (f : Escrow → Escrow) :
    (s.modEscrow l f).floors = s.floors := rfl
@[simp] theorem State.modEscrow_units (s : State) (l : Lane) (f : Escrow → Escrow) :
    (s.modEscrow l f).units = s.units := rfl
@[simp] theorem State.modEscrow_boxes (s : State) (l : Lane) (f : Escrow → Escrow) :
    (s.modEscrow l f).boxes = s.boxes := rfl
@[simp] theorem State.modEscrow_lanes (s : State) (l : Lane) (f : Escrow → Escrow) :
    (s.modEscrow l f).lanes = s.lanes := rfl
@[simp] theorem State.modEscrow_sales (s : State) (l : Lane) (f : Escrow → Escrow) :
    (s.modEscrow l f).sales = s.sales := rfl
@[simp] theorem State.modEscrow_escrows (s : State) (l : Lane) (f : Escrow → Escrow) :
    (s.modEscrow l f).escrows = s.escrows.modify l f := rfl
@[simp] theorem State.modEscrow_planReqs (s : State) (l : Lane) (f : Escrow → Escrow) :
    (s.modEscrow l f).planReqs = s.planReqs := rfl
@[simp] theorem State.modEscrow_reservations (s : State) (l : Lane) (f : Escrow → Escrow) :
    (s.modEscrow l f).reservations = s.reservations := rfl
@[simp] theorem State.modEscrow_laneJobs (s : State) (l : Lane) (f : Escrow → Escrow) :
    (s.modEscrow l f).laneJobs = s.laneJobs := rfl
@[simp] theorem State.modEscrow_serviceJobs (s : State) (l : Lane) (f : Escrow → Escrow) :
    (s.modEscrow l f).serviceJobs = s.serviceJobs := rfl
@[simp] theorem State.modEscrow_stackJobs (s : State) (l : Lane) (f : Escrow → Escrow) :
    (s.modEscrow l f).stackJobs = s.stackJobs := rfl
@[simp] theorem State.modEscrow_nextJob (s : State) (l : Lane) (f : Escrow → Escrow) :
    (s.modEscrow l f).nextJob = s.nextJob := rfl
@[simp] theorem State.modEscrow_turns (s : State) (l : Lane) (f : Escrow → Escrow) :
    (s.modEscrow l f).turns = s.turns := rfl
@[simp] theorem State.modEscrow_mechs (s : State) (l : Lane) (f : Escrow → Escrow) :
    (s.modEscrow l f).mechs = s.mechs := rfl
@[simp] theorem State.modEscrow_tallies (s : State) (l : Lane) (f : Escrow → Escrow) :
    (s.modEscrow l f).tallies = s.tallies := rfl
@[simp] theorem State.modEscrow_retest (s : State) (l : Lane) (f : Escrow → Escrow) :
    (s.modEscrow l f).retest = s.retest := rfl
@[simp] theorem State.modEscrow_transfers (s : State) (l : Lane) (f : Escrow → Escrow) :
    (s.modEscrow l f).transfers = s.transfers := rfl
@[simp] theorem State.modEscrow_ports (s : State) (l : Lane) (f : Escrow → Escrow) :
    (s.modEscrow l f).ports = s.ports := rfl
@[simp] theorem State.modEscrow_events (s : State) (l : Lane) (f : Escrow → Escrow) :
    (s.modEscrow l f).events = s.events := rfl
@[simp] theorem State.modEscrow_counters (s : State) (l : Lane) (f : Escrow → Escrow) :
    (s.modEscrow l f).counters = s.counters := rfl
@[simp] theorem State.modEscrow_dirty (s : State) (l : Lane) (f : Escrow → Escrow) :
    (s.modEscrow l f).dirty = s.dirty := rfl
@[simp] theorem State.modEscrow_writer (s : State) (l : Lane) (f : Escrow → Escrow) :
    (s.modEscrow l f).writer = s.writer := rfl
@[simp] theorem State.modEscrow_scan (s : State) (l : Lane) (f : Escrow → Escrow) :
    (s.modEscrow l f).scan = s.scan := rfl
@[simp] theorem State.modEscrow_store (s : State) (l : Lane) (f : Escrow → Escrow) :
    (s.modEscrow l f).store = s.store := rfl
@[simp] theorem State.modEscrow_coinPaths (s : State) (l : Lane) (f : Escrow → Escrow) :
    (s.modEscrow l f).coinPaths = s.coinPaths := rfl

/-! ### modLaneJobs -/

@[simp] theorem State.modLaneJobs_pending (s : State) (l : Lane) (f : List Job → List Job) :
    (s.modLaneJobs l f).pending = s.pending := rfl
@[simp] theorem State.modLaneJobs_now (s : State) (l : Lane) (f : List Job → List Job) :
    (s.modLaneJobs l f).now = s.now := rfl
@[simp] theorem State.modLaneJobs_powered (s : State) (l : Lane) (f : List Job → List Job) :
    (s.modLaneJobs l f).powered = s.powered := rfl
@[simp] theorem State.modLaneJobs_key (s : State) (l : Lane) (f : List Job → List Job) :
    (s.modLaneJobs l f).key = s.key := rfl
@[simp] theorem State.modLaneJobs_pfw (s : State) (l : Lane) (f : List Job → List Job) :
    (s.modLaneJobs l f).pfw = s.pfw := rfl
@[simp] theorem State.modLaneJobs_armed (s : State) (l : Lane) (f : List Job → List Job) :
    (s.modLaneJobs l f).armed = s.armed := rfl
@[simp] theorem State.modLaneJobs_lastCause (s : State) (l : Lane) (f : List Job → List Job) :
    (s.modLaneJobs l f).lastCause = s.lastCause := rfl
@[simp] theorem State.modLaneJobs_lastFailed (s : State) (l : Lane) (f : List Job → List Job) :
    (s.modLaneJobs l f).lastFailed = s.lastFailed := rfl
@[simp] theorem State.modLaneJobs_denoms (s : State) (l : Lane) (f : List Job → List Job) :
    (s.modLaneJobs l f).denoms = s.denoms := rfl
@[simp] theorem State.modLaneJobs_limits (s : State) (l : Lane) (f : List Job → List Job) :
    (s.modLaneJobs l f).limits = s.limits := rfl
@[simp] theorem State.modLaneJobs_floors (s : State) (l : Lane) (f : List Job → List Job) :
    (s.modLaneJobs l f).floors = s.floors := rfl
@[simp] theorem State.modLaneJobs_units (s : State) (l : Lane) (f : List Job → List Job) :
    (s.modLaneJobs l f).units = s.units := rfl
@[simp] theorem State.modLaneJobs_boxes (s : State) (l : Lane) (f : List Job → List Job) :
    (s.modLaneJobs l f).boxes = s.boxes := rfl
@[simp] theorem State.modLaneJobs_lanes (s : State) (l : Lane) (f : List Job → List Job) :
    (s.modLaneJobs l f).lanes = s.lanes := rfl
@[simp] theorem State.modLaneJobs_sales (s : State) (l : Lane) (f : List Job → List Job) :
    (s.modLaneJobs l f).sales = s.sales := rfl
@[simp] theorem State.modLaneJobs_escrows (s : State) (l : Lane) (f : List Job → List Job) :
    (s.modLaneJobs l f).escrows = s.escrows := rfl
@[simp] theorem State.modLaneJobs_planReqs (s : State) (l : Lane) (f : List Job → List Job) :
    (s.modLaneJobs l f).planReqs = s.planReqs := rfl
@[simp] theorem State.modLaneJobs_reservations (s : State) (l : Lane) (f : List Job → List Job) :
    (s.modLaneJobs l f).reservations = s.reservations := rfl
@[simp] theorem State.modLaneJobs_laneJobs (s : State) (l : Lane) (f : List Job → List Job) :
    (s.modLaneJobs l f).laneJobs = s.laneJobs.modify l f := rfl
@[simp] theorem State.modLaneJobs_serviceJobs (s : State) (l : Lane) (f : List Job → List Job) :
    (s.modLaneJobs l f).serviceJobs = s.serviceJobs := rfl
@[simp] theorem State.modLaneJobs_stackJobs (s : State) (l : Lane) (f : List Job → List Job) :
    (s.modLaneJobs l f).stackJobs = s.stackJobs := rfl
@[simp] theorem State.modLaneJobs_nextJob (s : State) (l : Lane) (f : List Job → List Job) :
    (s.modLaneJobs l f).nextJob = s.nextJob := rfl
@[simp] theorem State.modLaneJobs_turns (s : State) (l : Lane) (f : List Job → List Job) :
    (s.modLaneJobs l f).turns = s.turns := rfl
@[simp] theorem State.modLaneJobs_mechs (s : State) (l : Lane) (f : List Job → List Job) :
    (s.modLaneJobs l f).mechs = s.mechs := rfl
@[simp] theorem State.modLaneJobs_tallies (s : State) (l : Lane) (f : List Job → List Job) :
    (s.modLaneJobs l f).tallies = s.tallies := rfl
@[simp] theorem State.modLaneJobs_retest (s : State) (l : Lane) (f : List Job → List Job) :
    (s.modLaneJobs l f).retest = s.retest := rfl
@[simp] theorem State.modLaneJobs_transfers (s : State) (l : Lane) (f : List Job → List Job) :
    (s.modLaneJobs l f).transfers = s.transfers := rfl
@[simp] theorem State.modLaneJobs_ports (s : State) (l : Lane) (f : List Job → List Job) :
    (s.modLaneJobs l f).ports = s.ports := rfl
@[simp] theorem State.modLaneJobs_events (s : State) (l : Lane) (f : List Job → List Job) :
    (s.modLaneJobs l f).events = s.events := rfl
@[simp] theorem State.modLaneJobs_counters (s : State) (l : Lane) (f : List Job → List Job) :
    (s.modLaneJobs l f).counters = s.counters := rfl
@[simp] theorem State.modLaneJobs_dirty (s : State) (l : Lane) (f : List Job → List Job) :
    (s.modLaneJobs l f).dirty = s.dirty := rfl
@[simp] theorem State.modLaneJobs_writer (s : State) (l : Lane) (f : List Job → List Job) :
    (s.modLaneJobs l f).writer = s.writer := rfl
@[simp] theorem State.modLaneJobs_scan (s : State) (l : Lane) (f : List Job → List Job) :
    (s.modLaneJobs l f).scan = s.scan := rfl
@[simp] theorem State.modLaneJobs_store (s : State) (l : Lane) (f : List Job → List Job) :
    (s.modLaneJobs l f).store = s.store := rfl
@[simp] theorem State.modLaneJobs_coinPaths (s : State) (l : Lane) (f : List Job → List Job) :
    (s.modLaneJobs l f).coinPaths = s.coinPaths := rfl

/-! ### modMech -/

@[simp] theorem State.modMech_pending (s : State) (k : Kind) (f : Mechanism → Mechanism) :
    (s.modMech k f).pending = s.pending := rfl
@[simp] theorem State.modMech_now (s : State) (k : Kind) (f : Mechanism → Mechanism) :
    (s.modMech k f).now = s.now := rfl
@[simp] theorem State.modMech_powered (s : State) (k : Kind) (f : Mechanism → Mechanism) :
    (s.modMech k f).powered = s.powered := rfl
@[simp] theorem State.modMech_key (s : State) (k : Kind) (f : Mechanism → Mechanism) :
    (s.modMech k f).key = s.key := rfl
@[simp] theorem State.modMech_pfw (s : State) (k : Kind) (f : Mechanism → Mechanism) :
    (s.modMech k f).pfw = s.pfw := rfl
@[simp] theorem State.modMech_armed (s : State) (k : Kind) (f : Mechanism → Mechanism) :
    (s.modMech k f).armed = s.armed := rfl
@[simp] theorem State.modMech_lastCause (s : State) (k : Kind) (f : Mechanism → Mechanism) :
    (s.modMech k f).lastCause = s.lastCause := rfl
@[simp] theorem State.modMech_lastFailed (s : State) (k : Kind) (f : Mechanism → Mechanism) :
    (s.modMech k f).lastFailed = s.lastFailed := rfl
@[simp] theorem State.modMech_denoms (s : State) (k : Kind) (f : Mechanism → Mechanism) :
    (s.modMech k f).denoms = s.denoms := rfl
@[simp] theorem State.modMech_limits (s : State) (k : Kind) (f : Mechanism → Mechanism) :
    (s.modMech k f).limits = s.limits := rfl
@[simp] theorem State.modMech_floors (s : State) (k : Kind) (f : Mechanism → Mechanism) :
    (s.modMech k f).floors = s.floors := rfl
@[simp] theorem State.modMech_units (s : State) (k : Kind) (f : Mechanism → Mechanism) :
    (s.modMech k f).units = s.units := rfl
@[simp] theorem State.modMech_boxes (s : State) (k : Kind) (f : Mechanism → Mechanism) :
    (s.modMech k f).boxes = s.boxes := rfl
@[simp] theorem State.modMech_lanes (s : State) (k : Kind) (f : Mechanism → Mechanism) :
    (s.modMech k f).lanes = s.lanes := rfl
@[simp] theorem State.modMech_sales (s : State) (k : Kind) (f : Mechanism → Mechanism) :
    (s.modMech k f).sales = s.sales := rfl
@[simp] theorem State.modMech_escrows (s : State) (k : Kind) (f : Mechanism → Mechanism) :
    (s.modMech k f).escrows = s.escrows := rfl
@[simp] theorem State.modMech_planReqs (s : State) (k : Kind) (f : Mechanism → Mechanism) :
    (s.modMech k f).planReqs = s.planReqs := rfl
@[simp] theorem State.modMech_reservations (s : State) (k : Kind) (f : Mechanism → Mechanism) :
    (s.modMech k f).reservations = s.reservations := rfl
@[simp] theorem State.modMech_laneJobs (s : State) (k : Kind) (f : Mechanism → Mechanism) :
    (s.modMech k f).laneJobs = s.laneJobs := rfl
@[simp] theorem State.modMech_serviceJobs (s : State) (k : Kind) (f : Mechanism → Mechanism) :
    (s.modMech k f).serviceJobs = s.serviceJobs := rfl
@[simp] theorem State.modMech_stackJobs (s : State) (k : Kind) (f : Mechanism → Mechanism) :
    (s.modMech k f).stackJobs = s.stackJobs := rfl
@[simp] theorem State.modMech_nextJob (s : State) (k : Kind) (f : Mechanism → Mechanism) :
    (s.modMech k f).nextJob = s.nextJob := rfl
@[simp] theorem State.modMech_turns (s : State) (k : Kind) (f : Mechanism → Mechanism) :
    (s.modMech k f).turns = s.turns := rfl
@[simp] theorem State.modMech_mechs (s : State) (k : Kind) (f : Mechanism → Mechanism) :
    (s.modMech k f).mechs = s.mechs.modify k f := rfl
@[simp] theorem State.modMech_tallies (s : State) (k : Kind) (f : Mechanism → Mechanism) :
    (s.modMech k f).tallies = s.tallies := rfl
@[simp] theorem State.modMech_retest (s : State) (k : Kind) (f : Mechanism → Mechanism) :
    (s.modMech k f).retest = s.retest := rfl
@[simp] theorem State.modMech_transfers (s : State) (k : Kind) (f : Mechanism → Mechanism) :
    (s.modMech k f).transfers = s.transfers := rfl
@[simp] theorem State.modMech_ports (s : State) (k : Kind) (f : Mechanism → Mechanism) :
    (s.modMech k f).ports = s.ports := rfl
@[simp] theorem State.modMech_events (s : State) (k : Kind) (f : Mechanism → Mechanism) :
    (s.modMech k f).events = s.events := rfl
@[simp] theorem State.modMech_counters (s : State) (k : Kind) (f : Mechanism → Mechanism) :
    (s.modMech k f).counters = s.counters := rfl
@[simp] theorem State.modMech_dirty (s : State) (k : Kind) (f : Mechanism → Mechanism) :
    (s.modMech k f).dirty = s.dirty := rfl
@[simp] theorem State.modMech_writer (s : State) (k : Kind) (f : Mechanism → Mechanism) :
    (s.modMech k f).writer = s.writer := rfl
@[simp] theorem State.modMech_scan (s : State) (k : Kind) (f : Mechanism → Mechanism) :
    (s.modMech k f).scan = s.scan := rfl
@[simp] theorem State.modMech_store (s : State) (k : Kind) (f : Mechanism → Mechanism) :
    (s.modMech k f).store = s.store := rfl
@[simp] theorem State.modMech_coinPaths (s : State) (k : Kind) (f : Mechanism → Mechanism) :
    (s.modMech k f).coinPaths = s.coinPaths := rfl

/-! ### modTransfer -/

@[simp] theorem State.modTransfer_pending (s : State) (u : UnitId) (f : Option Transfer → Option Transfer) :
    (s.modTransfer u f).pending = s.pending := rfl
@[simp] theorem State.modTransfer_now (s : State) (u : UnitId) (f : Option Transfer → Option Transfer) :
    (s.modTransfer u f).now = s.now := rfl
@[simp] theorem State.modTransfer_powered (s : State) (u : UnitId) (f : Option Transfer → Option Transfer) :
    (s.modTransfer u f).powered = s.powered := rfl
@[simp] theorem State.modTransfer_key (s : State) (u : UnitId) (f : Option Transfer → Option Transfer) :
    (s.modTransfer u f).key = s.key := rfl
@[simp] theorem State.modTransfer_pfw (s : State) (u : UnitId) (f : Option Transfer → Option Transfer) :
    (s.modTransfer u f).pfw = s.pfw := rfl
@[simp] theorem State.modTransfer_armed (s : State) (u : UnitId) (f : Option Transfer → Option Transfer) :
    (s.modTransfer u f).armed = s.armed := rfl
@[simp] theorem State.modTransfer_lastCause (s : State) (u : UnitId) (f : Option Transfer → Option Transfer) :
    (s.modTransfer u f).lastCause = s.lastCause := rfl
@[simp] theorem State.modTransfer_lastFailed (s : State) (u : UnitId) (f : Option Transfer → Option Transfer) :
    (s.modTransfer u f).lastFailed = s.lastFailed := rfl
@[simp] theorem State.modTransfer_denoms (s : State) (u : UnitId) (f : Option Transfer → Option Transfer) :
    (s.modTransfer u f).denoms = s.denoms := rfl
@[simp] theorem State.modTransfer_limits (s : State) (u : UnitId) (f : Option Transfer → Option Transfer) :
    (s.modTransfer u f).limits = s.limits := rfl
@[simp] theorem State.modTransfer_floors (s : State) (u : UnitId) (f : Option Transfer → Option Transfer) :
    (s.modTransfer u f).floors = s.floors := rfl
@[simp] theorem State.modTransfer_units (s : State) (u : UnitId) (f : Option Transfer → Option Transfer) :
    (s.modTransfer u f).units = s.units := rfl
@[simp] theorem State.modTransfer_boxes (s : State) (u : UnitId) (f : Option Transfer → Option Transfer) :
    (s.modTransfer u f).boxes = s.boxes := rfl
@[simp] theorem State.modTransfer_lanes (s : State) (u : UnitId) (f : Option Transfer → Option Transfer) :
    (s.modTransfer u f).lanes = s.lanes := rfl
@[simp] theorem State.modTransfer_sales (s : State) (u : UnitId) (f : Option Transfer → Option Transfer) :
    (s.modTransfer u f).sales = s.sales := rfl
@[simp] theorem State.modTransfer_escrows (s : State) (u : UnitId) (f : Option Transfer → Option Transfer) :
    (s.modTransfer u f).escrows = s.escrows := rfl
@[simp] theorem State.modTransfer_planReqs (s : State) (u : UnitId) (f : Option Transfer → Option Transfer) :
    (s.modTransfer u f).planReqs = s.planReqs := rfl
@[simp] theorem State.modTransfer_reservations (s : State) (u : UnitId) (f : Option Transfer → Option Transfer) :
    (s.modTransfer u f).reservations = s.reservations := rfl
@[simp] theorem State.modTransfer_laneJobs (s : State) (u : UnitId) (f : Option Transfer → Option Transfer) :
    (s.modTransfer u f).laneJobs = s.laneJobs := rfl
@[simp] theorem State.modTransfer_serviceJobs (s : State) (u : UnitId) (f : Option Transfer → Option Transfer) :
    (s.modTransfer u f).serviceJobs = s.serviceJobs := rfl
@[simp] theorem State.modTransfer_stackJobs (s : State) (u : UnitId) (f : Option Transfer → Option Transfer) :
    (s.modTransfer u f).stackJobs = s.stackJobs := rfl
@[simp] theorem State.modTransfer_nextJob (s : State) (u : UnitId) (f : Option Transfer → Option Transfer) :
    (s.modTransfer u f).nextJob = s.nextJob := rfl
@[simp] theorem State.modTransfer_turns (s : State) (u : UnitId) (f : Option Transfer → Option Transfer) :
    (s.modTransfer u f).turns = s.turns := rfl
@[simp] theorem State.modTransfer_mechs (s : State) (u : UnitId) (f : Option Transfer → Option Transfer) :
    (s.modTransfer u f).mechs = s.mechs := rfl
@[simp] theorem State.modTransfer_tallies (s : State) (u : UnitId) (f : Option Transfer → Option Transfer) :
    (s.modTransfer u f).tallies = s.tallies := rfl
@[simp] theorem State.modTransfer_retest (s : State) (u : UnitId) (f : Option Transfer → Option Transfer) :
    (s.modTransfer u f).retest = s.retest := rfl
@[simp] theorem State.modTransfer_transfers (s : State) (u : UnitId) (f : Option Transfer → Option Transfer) :
    (s.modTransfer u f).transfers = s.transfers.modify u f := rfl
@[simp] theorem State.modTransfer_ports (s : State) (u : UnitId) (f : Option Transfer → Option Transfer) :
    (s.modTransfer u f).ports = s.ports := rfl
@[simp] theorem State.modTransfer_events (s : State) (u : UnitId) (f : Option Transfer → Option Transfer) :
    (s.modTransfer u f).events = s.events := rfl
@[simp] theorem State.modTransfer_counters (s : State) (u : UnitId) (f : Option Transfer → Option Transfer) :
    (s.modTransfer u f).counters = s.counters := rfl
@[simp] theorem State.modTransfer_dirty (s : State) (u : UnitId) (f : Option Transfer → Option Transfer) :
    (s.modTransfer u f).dirty = s.dirty := rfl
@[simp] theorem State.modTransfer_writer (s : State) (u : UnitId) (f : Option Transfer → Option Transfer) :
    (s.modTransfer u f).writer = s.writer := rfl
@[simp] theorem State.modTransfer_scan (s : State) (u : UnitId) (f : Option Transfer → Option Transfer) :
    (s.modTransfer u f).scan = s.scan := rfl
@[simp] theorem State.modTransfer_store (s : State) (u : UnitId) (f : Option Transfer → Option Transfer) :
    (s.modTransfer u f).store = s.store := rfl
@[simp] theorem State.modTransfer_coinPaths (s : State) (u : UnitId) (f : Option Transfer → Option Transfer) :
    (s.modTransfer u f).coinPaths = s.coinPaths := rfl

/-! ### modTally -/

@[simp] theorem State.modTally_pending (s : State) (l : Lane) (f : Twelve Nat → Twelve Nat) :
    (s.modTally l f).pending = s.pending := rfl
@[simp] theorem State.modTally_now (s : State) (l : Lane) (f : Twelve Nat → Twelve Nat) :
    (s.modTally l f).now = s.now := rfl
@[simp] theorem State.modTally_powered (s : State) (l : Lane) (f : Twelve Nat → Twelve Nat) :
    (s.modTally l f).powered = s.powered := rfl
@[simp] theorem State.modTally_key (s : State) (l : Lane) (f : Twelve Nat → Twelve Nat) :
    (s.modTally l f).key = s.key := rfl
@[simp] theorem State.modTally_pfw (s : State) (l : Lane) (f : Twelve Nat → Twelve Nat) :
    (s.modTally l f).pfw = s.pfw := rfl
@[simp] theorem State.modTally_armed (s : State) (l : Lane) (f : Twelve Nat → Twelve Nat) :
    (s.modTally l f).armed = s.armed := rfl
@[simp] theorem State.modTally_lastCause (s : State) (l : Lane) (f : Twelve Nat → Twelve Nat) :
    (s.modTally l f).lastCause = s.lastCause := rfl
@[simp] theorem State.modTally_lastFailed (s : State) (l : Lane) (f : Twelve Nat → Twelve Nat) :
    (s.modTally l f).lastFailed = s.lastFailed := rfl
@[simp] theorem State.modTally_denoms (s : State) (l : Lane) (f : Twelve Nat → Twelve Nat) :
    (s.modTally l f).denoms = s.denoms := rfl
@[simp] theorem State.modTally_limits (s : State) (l : Lane) (f : Twelve Nat → Twelve Nat) :
    (s.modTally l f).limits = s.limits := rfl
@[simp] theorem State.modTally_floors (s : State) (l : Lane) (f : Twelve Nat → Twelve Nat) :
    (s.modTally l f).floors = s.floors := rfl
@[simp] theorem State.modTally_units (s : State) (l : Lane) (f : Twelve Nat → Twelve Nat) :
    (s.modTally l f).units = s.units := rfl
@[simp] theorem State.modTally_boxes (s : State) (l : Lane) (f : Twelve Nat → Twelve Nat) :
    (s.modTally l f).boxes = s.boxes := rfl
@[simp] theorem State.modTally_lanes (s : State) (l : Lane) (f : Twelve Nat → Twelve Nat) :
    (s.modTally l f).lanes = s.lanes := rfl
@[simp] theorem State.modTally_sales (s : State) (l : Lane) (f : Twelve Nat → Twelve Nat) :
    (s.modTally l f).sales = s.sales := rfl
@[simp] theorem State.modTally_escrows (s : State) (l : Lane) (f : Twelve Nat → Twelve Nat) :
    (s.modTally l f).escrows = s.escrows := rfl
@[simp] theorem State.modTally_planReqs (s : State) (l : Lane) (f : Twelve Nat → Twelve Nat) :
    (s.modTally l f).planReqs = s.planReqs := rfl
@[simp] theorem State.modTally_reservations (s : State) (l : Lane) (f : Twelve Nat → Twelve Nat) :
    (s.modTally l f).reservations = s.reservations := rfl
@[simp] theorem State.modTally_laneJobs (s : State) (l : Lane) (f : Twelve Nat → Twelve Nat) :
    (s.modTally l f).laneJobs = s.laneJobs := rfl
@[simp] theorem State.modTally_serviceJobs (s : State) (l : Lane) (f : Twelve Nat → Twelve Nat) :
    (s.modTally l f).serviceJobs = s.serviceJobs := rfl
@[simp] theorem State.modTally_stackJobs (s : State) (l : Lane) (f : Twelve Nat → Twelve Nat) :
    (s.modTally l f).stackJobs = s.stackJobs := rfl
@[simp] theorem State.modTally_nextJob (s : State) (l : Lane) (f : Twelve Nat → Twelve Nat) :
    (s.modTally l f).nextJob = s.nextJob := rfl
@[simp] theorem State.modTally_turns (s : State) (l : Lane) (f : Twelve Nat → Twelve Nat) :
    (s.modTally l f).turns = s.turns := rfl
@[simp] theorem State.modTally_mechs (s : State) (l : Lane) (f : Twelve Nat → Twelve Nat) :
    (s.modTally l f).mechs = s.mechs := rfl
@[simp] theorem State.modTally_tallies (s : State) (l : Lane) (f : Twelve Nat → Twelve Nat) :
    (s.modTally l f).tallies = s.tallies.modify l f := rfl
@[simp] theorem State.modTally_retest (s : State) (l : Lane) (f : Twelve Nat → Twelve Nat) :
    (s.modTally l f).retest = s.retest := rfl
@[simp] theorem State.modTally_transfers (s : State) (l : Lane) (f : Twelve Nat → Twelve Nat) :
    (s.modTally l f).transfers = s.transfers := rfl
@[simp] theorem State.modTally_ports (s : State) (l : Lane) (f : Twelve Nat → Twelve Nat) :
    (s.modTally l f).ports = s.ports := rfl
@[simp] theorem State.modTally_events (s : State) (l : Lane) (f : Twelve Nat → Twelve Nat) :
    (s.modTally l f).events = s.events := rfl
@[simp] theorem State.modTally_counters (s : State) (l : Lane) (f : Twelve Nat → Twelve Nat) :
    (s.modTally l f).counters = s.counters := rfl
@[simp] theorem State.modTally_dirty (s : State) (l : Lane) (f : Twelve Nat → Twelve Nat) :
    (s.modTally l f).dirty = s.dirty := rfl
@[simp] theorem State.modTally_writer (s : State) (l : Lane) (f : Twelve Nat → Twelve Nat) :
    (s.modTally l f).writer = s.writer := rfl
@[simp] theorem State.modTally_scan (s : State) (l : Lane) (f : Twelve Nat → Twelve Nat) :
    (s.modTally l f).scan = s.scan := rfl
@[simp] theorem State.modTally_store (s : State) (l : Lane) (f : Twelve Nat → Twelve Nat) :
    (s.modTally l f).store = s.store := rfl
@[simp] theorem State.modTally_coinPaths (s : State) (l : Lane) (f : Twelve Nat → Twelve Nat) :
    (s.modTally l f).coinPaths = s.coinPaths := rfl

/-! ### modPort -/

@[simp] theorem State.modPort_pending (s : State) (p : Port) (f : PortUnit → PortUnit) :
    (s.modPort p f).pending = s.pending := rfl
@[simp] theorem State.modPort_now (s : State) (p : Port) (f : PortUnit → PortUnit) :
    (s.modPort p f).now = s.now := rfl
@[simp] theorem State.modPort_powered (s : State) (p : Port) (f : PortUnit → PortUnit) :
    (s.modPort p f).powered = s.powered := rfl
@[simp] theorem State.modPort_key (s : State) (p : Port) (f : PortUnit → PortUnit) :
    (s.modPort p f).key = s.key := rfl
@[simp] theorem State.modPort_pfw (s : State) (p : Port) (f : PortUnit → PortUnit) :
    (s.modPort p f).pfw = s.pfw := rfl
@[simp] theorem State.modPort_armed (s : State) (p : Port) (f : PortUnit → PortUnit) :
    (s.modPort p f).armed = s.armed := rfl
@[simp] theorem State.modPort_lastCause (s : State) (p : Port) (f : PortUnit → PortUnit) :
    (s.modPort p f).lastCause = s.lastCause := rfl
@[simp] theorem State.modPort_lastFailed (s : State) (p : Port) (f : PortUnit → PortUnit) :
    (s.modPort p f).lastFailed = s.lastFailed := rfl
@[simp] theorem State.modPort_denoms (s : State) (p : Port) (f : PortUnit → PortUnit) :
    (s.modPort p f).denoms = s.denoms := rfl
@[simp] theorem State.modPort_limits (s : State) (p : Port) (f : PortUnit → PortUnit) :
    (s.modPort p f).limits = s.limits := rfl
@[simp] theorem State.modPort_floors (s : State) (p : Port) (f : PortUnit → PortUnit) :
    (s.modPort p f).floors = s.floors := rfl
@[simp] theorem State.modPort_units (s : State) (p : Port) (f : PortUnit → PortUnit) :
    (s.modPort p f).units = s.units := rfl
@[simp] theorem State.modPort_boxes (s : State) (p : Port) (f : PortUnit → PortUnit) :
    (s.modPort p f).boxes = s.boxes := rfl
@[simp] theorem State.modPort_lanes (s : State) (p : Port) (f : PortUnit → PortUnit) :
    (s.modPort p f).lanes = s.lanes := rfl
@[simp] theorem State.modPort_sales (s : State) (p : Port) (f : PortUnit → PortUnit) :
    (s.modPort p f).sales = s.sales := rfl
@[simp] theorem State.modPort_escrows (s : State) (p : Port) (f : PortUnit → PortUnit) :
    (s.modPort p f).escrows = s.escrows := rfl
@[simp] theorem State.modPort_planReqs (s : State) (p : Port) (f : PortUnit → PortUnit) :
    (s.modPort p f).planReqs = s.planReqs := rfl
@[simp] theorem State.modPort_reservations (s : State) (p : Port) (f : PortUnit → PortUnit) :
    (s.modPort p f).reservations = s.reservations := rfl
@[simp] theorem State.modPort_laneJobs (s : State) (p : Port) (f : PortUnit → PortUnit) :
    (s.modPort p f).laneJobs = s.laneJobs := rfl
@[simp] theorem State.modPort_serviceJobs (s : State) (p : Port) (f : PortUnit → PortUnit) :
    (s.modPort p f).serviceJobs = s.serviceJobs := rfl
@[simp] theorem State.modPort_stackJobs (s : State) (p : Port) (f : PortUnit → PortUnit) :
    (s.modPort p f).stackJobs = s.stackJobs := rfl
@[simp] theorem State.modPort_nextJob (s : State) (p : Port) (f : PortUnit → PortUnit) :
    (s.modPort p f).nextJob = s.nextJob := rfl
@[simp] theorem State.modPort_turns (s : State) (p : Port) (f : PortUnit → PortUnit) :
    (s.modPort p f).turns = s.turns := rfl
@[simp] theorem State.modPort_mechs (s : State) (p : Port) (f : PortUnit → PortUnit) :
    (s.modPort p f).mechs = s.mechs := rfl
@[simp] theorem State.modPort_tallies (s : State) (p : Port) (f : PortUnit → PortUnit) :
    (s.modPort p f).tallies = s.tallies := rfl
@[simp] theorem State.modPort_retest (s : State) (p : Port) (f : PortUnit → PortUnit) :
    (s.modPort p f).retest = s.retest := rfl
@[simp] theorem State.modPort_transfers (s : State) (p : Port) (f : PortUnit → PortUnit) :
    (s.modPort p f).transfers = s.transfers := rfl
@[simp] theorem State.modPort_ports (s : State) (p : Port) (f : PortUnit → PortUnit) :
    (s.modPort p f).ports = s.ports.modify p f := rfl
@[simp] theorem State.modPort_events (s : State) (p : Port) (f : PortUnit → PortUnit) :
    (s.modPort p f).events = s.events := rfl
@[simp] theorem State.modPort_counters (s : State) (p : Port) (f : PortUnit → PortUnit) :
    (s.modPort p f).counters = s.counters := rfl
@[simp] theorem State.modPort_dirty (s : State) (p : Port) (f : PortUnit → PortUnit) :
    (s.modPort p f).dirty = s.dirty := rfl
@[simp] theorem State.modPort_writer (s : State) (p : Port) (f : PortUnit → PortUnit) :
    (s.modPort p f).writer = s.writer := rfl
@[simp] theorem State.modPort_scan (s : State) (p : Port) (f : PortUnit → PortUnit) :
    (s.modPort p f).scan = s.scan := rfl
@[simp] theorem State.modPort_store (s : State) (p : Port) (f : PortUnit → PortUnit) :
    (s.modPort p f).store = s.store := rfl
@[simp] theorem State.modPort_coinPaths (s : State) (p : Port) (f : PortUnit → PortUnit) :
    (s.modPort p f).coinPaths = s.coinPaths := rfl

/-! ### modEvents -/

@[simp] theorem State.modEvents_pending (s : State) (p : Port) (f : EventSet → EventSet) :
    (s.modEvents p f).pending = s.pending := rfl
@[simp] theorem State.modEvents_now (s : State) (p : Port) (f : EventSet → EventSet) :
    (s.modEvents p f).now = s.now := rfl
@[simp] theorem State.modEvents_powered (s : State) (p : Port) (f : EventSet → EventSet) :
    (s.modEvents p f).powered = s.powered := rfl
@[simp] theorem State.modEvents_key (s : State) (p : Port) (f : EventSet → EventSet) :
    (s.modEvents p f).key = s.key := rfl
@[simp] theorem State.modEvents_pfw (s : State) (p : Port) (f : EventSet → EventSet) :
    (s.modEvents p f).pfw = s.pfw := rfl
@[simp] theorem State.modEvents_armed (s : State) (p : Port) (f : EventSet → EventSet) :
    (s.modEvents p f).armed = s.armed := rfl
@[simp] theorem State.modEvents_lastCause (s : State) (p : Port) (f : EventSet → EventSet) :
    (s.modEvents p f).lastCause = s.lastCause := rfl
@[simp] theorem State.modEvents_lastFailed (s : State) (p : Port) (f : EventSet → EventSet) :
    (s.modEvents p f).lastFailed = s.lastFailed := rfl
@[simp] theorem State.modEvents_denoms (s : State) (p : Port) (f : EventSet → EventSet) :
    (s.modEvents p f).denoms = s.denoms := rfl
@[simp] theorem State.modEvents_limits (s : State) (p : Port) (f : EventSet → EventSet) :
    (s.modEvents p f).limits = s.limits := rfl
@[simp] theorem State.modEvents_floors (s : State) (p : Port) (f : EventSet → EventSet) :
    (s.modEvents p f).floors = s.floors := rfl
@[simp] theorem State.modEvents_units (s : State) (p : Port) (f : EventSet → EventSet) :
    (s.modEvents p f).units = s.units := rfl
@[simp] theorem State.modEvents_boxes (s : State) (p : Port) (f : EventSet → EventSet) :
    (s.modEvents p f).boxes = s.boxes := rfl
@[simp] theorem State.modEvents_lanes (s : State) (p : Port) (f : EventSet → EventSet) :
    (s.modEvents p f).lanes = s.lanes := rfl
@[simp] theorem State.modEvents_sales (s : State) (p : Port) (f : EventSet → EventSet) :
    (s.modEvents p f).sales = s.sales := rfl
@[simp] theorem State.modEvents_escrows (s : State) (p : Port) (f : EventSet → EventSet) :
    (s.modEvents p f).escrows = s.escrows := rfl
@[simp] theorem State.modEvents_planReqs (s : State) (p : Port) (f : EventSet → EventSet) :
    (s.modEvents p f).planReqs = s.planReqs := rfl
@[simp] theorem State.modEvents_reservations (s : State) (p : Port) (f : EventSet → EventSet) :
    (s.modEvents p f).reservations = s.reservations := rfl
@[simp] theorem State.modEvents_laneJobs (s : State) (p : Port) (f : EventSet → EventSet) :
    (s.modEvents p f).laneJobs = s.laneJobs := rfl
@[simp] theorem State.modEvents_serviceJobs (s : State) (p : Port) (f : EventSet → EventSet) :
    (s.modEvents p f).serviceJobs = s.serviceJobs := rfl
@[simp] theorem State.modEvents_stackJobs (s : State) (p : Port) (f : EventSet → EventSet) :
    (s.modEvents p f).stackJobs = s.stackJobs := rfl
@[simp] theorem State.modEvents_nextJob (s : State) (p : Port) (f : EventSet → EventSet) :
    (s.modEvents p f).nextJob = s.nextJob := rfl
@[simp] theorem State.modEvents_turns (s : State) (p : Port) (f : EventSet → EventSet) :
    (s.modEvents p f).turns = s.turns := rfl
@[simp] theorem State.modEvents_mechs (s : State) (p : Port) (f : EventSet → EventSet) :
    (s.modEvents p f).mechs = s.mechs := rfl
@[simp] theorem State.modEvents_tallies (s : State) (p : Port) (f : EventSet → EventSet) :
    (s.modEvents p f).tallies = s.tallies := rfl
@[simp] theorem State.modEvents_retest (s : State) (p : Port) (f : EventSet → EventSet) :
    (s.modEvents p f).retest = s.retest := rfl
@[simp] theorem State.modEvents_transfers (s : State) (p : Port) (f : EventSet → EventSet) :
    (s.modEvents p f).transfers = s.transfers := rfl
@[simp] theorem State.modEvents_ports (s : State) (p : Port) (f : EventSet → EventSet) :
    (s.modEvents p f).ports = s.ports := rfl
@[simp] theorem State.modEvents_events (s : State) (p : Port) (f : EventSet → EventSet) :
    (s.modEvents p f).events = s.events.modify p f := rfl
@[simp] theorem State.modEvents_counters (s : State) (p : Port) (f : EventSet → EventSet) :
    (s.modEvents p f).counters = s.counters := rfl
@[simp] theorem State.modEvents_dirty (s : State) (p : Port) (f : EventSet → EventSet) :
    (s.modEvents p f).dirty = s.dirty := rfl
@[simp] theorem State.modEvents_writer (s : State) (p : Port) (f : EventSet → EventSet) :
    (s.modEvents p f).writer = s.writer := rfl
@[simp] theorem State.modEvents_scan (s : State) (p : Port) (f : EventSet → EventSet) :
    (s.modEvents p f).scan = s.scan := rfl
@[simp] theorem State.modEvents_store (s : State) (p : Port) (f : EventSet → EventSet) :
    (s.modEvents p f).store = s.store := rfl
@[simp] theorem State.modEvents_coinPaths (s : State) (p : Port) (f : EventSet → EventSet) :
    (s.modEvents p f).coinPaths = s.coinPaths := rfl

end Sys2Proof.Machine
end

