-- ==== Sys2Proof/Laws/Frames.lean ====
section
/-! SUPPORT. For each shared operation, one lemma that says which parts of the state it leaves alone. The parts are
those of Safety.lean; simp reads each part's fields out of them. -/

namespace Sys2Proof.Machine

/-! ### Records and lists -/

@[simp] theorem State.modSale_keeps (s : State) (l : Lane) (tag : Nat) (f : Sale → Sale) :
    SameQueue s (s.modSale l tag f) ∧ SameClock s (s.modSale l tag f) ∧ SameSupply s (s.modSale l tag f) ∧
    SameConfig s (s.modSale l tag f) ∧ SameStores s (s.modSale l tag f) ∧ (s.modSale l tag f).lanes = s.lanes ∧
    (s.modSale l tag f).escrows = s.escrows ∧ SamePlans s (s.modSale l tag f) ∧ SameJobs s (s.modSale l tag f) ∧
    SameMechs s (s.modSale l tag f) ∧ SameService s (s.modSale l tag f) ∧ SameLinks s (s.modSale l tag f) ∧
    SameEvents s (s.modSale l tag f) ∧ SameStore s (s.modSale l tag f) ∧ SamePaths s (s.modSale l tag f) := by
  simp [State.modSale]

@[simp] theorem State.markDirty_keeps (s : State) (r : RecordNo) :
    SameQueue s (s.markDirty r) ∧ SameClock s (s.markDirty r) ∧ SameSupply s (s.markDirty r) ∧
    SameConfig s (s.markDirty r) ∧ SameStores s (s.markDirty r) ∧ SameLanes s (s.markDirty r) ∧
    SamePlans s (s.markDirty r) ∧ SameJobs s (s.markDirty r) ∧ SameMechs s (s.markDirty r) ∧
    SameService s (s.markDirty r) ∧ SameLinks s (s.markDirty r) ∧ SameEvents s (s.markDirty r) ∧
    (s.markDirty r).writer = s.writer ∧ (s.markDirty r).scan = s.scan ∧ (s.markDirty r).store = s.store ∧
    SamePaths s (s.markDirty r) := by
  simp [State.markDirty]

@[simp] theorem State.markIf_keeps (s : State) (b : Bool) (r : RecordNo) :
    SameQueue s (s.markIf b r) ∧ SameClock s (s.markIf b r) ∧ SameSupply s (s.markIf b r) ∧
    SameConfig s (s.markIf b r) ∧ SameStores s (s.markIf b r) ∧ SameLanes s (s.markIf b r) ∧
    SamePlans s (s.markIf b r) ∧ SameJobs s (s.markIf b r) ∧ SameMechs s (s.markIf b r) ∧
    SameService s (s.markIf b r) ∧ SameLinks s (s.markIf b r) ∧ SameEvents s (s.markIf b r) ∧
    (s.markIf b r).writer = s.writer ∧ (s.markIf b r).scan = s.scan ∧ (s.markIf b r).store = s.store ∧
    SamePaths s (s.markIf b r) := by
  simp only [State.markIf]
  (repeat' split) <;> simp

@[simp] theorem State.raiseWithdrawn_keeps (s : State) (l : Lane) (tag : Nat) :
    SameQueue s (s.raiseWithdrawn l tag) ∧ SameClock s (s.raiseWithdrawn l tag) ∧
    SameSupply s (s.raiseWithdrawn l tag) ∧ SameConfig s (s.raiseWithdrawn l tag) ∧
    SameStores s (s.raiseWithdrawn l tag) ∧ SameLanes s (s.raiseWithdrawn l tag) ∧
    SamePlans s (s.raiseWithdrawn l tag) ∧ SameJobs s (s.raiseWithdrawn l tag) ∧
    SameMechs s (s.raiseWithdrawn l tag) ∧ SameService s (s.raiseWithdrawn l tag) ∧
    SameLinks s (s.raiseWithdrawn l tag) ∧ (s.raiseWithdrawn l tag).counters = s.counters ∧
    SameStore s (s.raiseWithdrawn l tag) ∧ SamePaths s (s.raiseWithdrawn l tag) := by
  simp [State.raiseWithdrawn]

@[simp] theorem State.raiseExpired_keeps (s : State) (l : Lane) (tag : Nat) :
    SameQueue s (s.raiseExpired l tag) ∧ SameClock s (s.raiseExpired l tag) ∧ SameSupply s (s.raiseExpired l tag) ∧
    SameConfig s (s.raiseExpired l tag) ∧ SameStores s (s.raiseExpired l tag) ∧
    SameLanes s (s.raiseExpired l tag) ∧ SamePlans s (s.raiseExpired l tag) ∧ SameJobs s (s.raiseExpired l tag) ∧
    SameMechs s (s.raiseExpired l tag) ∧ SameService s (s.raiseExpired l tag) ∧
    SameLinks s (s.raiseExpired l tag) ∧ (s.raiseExpired l tag).counters = s.counters ∧
    SameStore s (s.raiseExpired l tag) ∧ SamePaths s (s.raiseExpired l tag) := by
  simp [State.raiseExpired]

@[simp] theorem State.raiseFinished_keeps (s : State) (l : Lane) (tag : Nat) (st : SaleState) :
    SameQueue s (s.raiseFinished l tag st) ∧ SameClock s (s.raiseFinished l tag st) ∧
    SameSupply s (s.raiseFinished l tag st) ∧ SameConfig s (s.raiseFinished l tag st) ∧
    SameStores s (s.raiseFinished l tag st) ∧ SameLanes s (s.raiseFinished l tag st) ∧
    SamePlans s (s.raiseFinished l tag st) ∧ SameJobs s (s.raiseFinished l tag st) ∧
    SameMechs s (s.raiseFinished l tag st) ∧ SameService s (s.raiseFinished l tag st) ∧
    SameLinks s (s.raiseFinished l tag st) ∧ (s.raiseFinished l tag st).counters = s.counters ∧
    SameStore s (s.raiseFinished l tag st) ∧ SamePaths s (s.raiseFinished l tag st) := by
  simp [State.raiseFinished]

@[simp] theorem State.raiseEscrowFault_keeps (s : State) (l : Lane) (tag : Nat) :
    SameQueue s (s.raiseEscrowFault l tag) ∧ SameClock s (s.raiseEscrowFault l tag) ∧
    SameSupply s (s.raiseEscrowFault l tag) ∧ SameConfig s (s.raiseEscrowFault l tag) ∧
    SameStores s (s.raiseEscrowFault l tag) ∧ SameLanes s (s.raiseEscrowFault l tag) ∧
    SamePlans s (s.raiseEscrowFault l tag) ∧ SameJobs s (s.raiseEscrowFault l tag) ∧
    SameMechs s (s.raiseEscrowFault l tag) ∧ SameService s (s.raiseEscrowFault l tag) ∧
    SameLinks s (s.raiseEscrowFault l tag) ∧ (s.raiseEscrowFault l tag).counters = s.counters ∧
    SameStore s (s.raiseEscrowFault l tag) ∧ SamePaths s (s.raiseEscrowFault l tag) := by
  simp [State.raiseEscrowFault]

@[simp] theorem State.raiseGranted_keeps (s : State) (l : Lane) (tag : Nat) :
    SameQueue s (s.raiseGranted l tag) ∧ SameClock s (s.raiseGranted l tag) ∧ SameSupply s (s.raiseGranted l tag) ∧
    SameConfig s (s.raiseGranted l tag) ∧ SameStores s (s.raiseGranted l tag) ∧
    SameLanes s (s.raiseGranted l tag) ∧ SamePlans s (s.raiseGranted l tag) ∧ SameJobs s (s.raiseGranted l tag) ∧
    SameMechs s (s.raiseGranted l tag) ∧ SameService s (s.raiseGranted l tag) ∧
    SameLinks s (s.raiseGranted l tag) ∧ (s.raiseGranted l tag).counters = s.counters ∧
    SameStore s (s.raiseGranted l tag) ∧ SamePaths s (s.raiseGranted l tag) := by
  simp [State.raiseGranted]

@[simp] theorem State.raiseStray_keeps (s : State) (l : Lane) (v : Nat) :
    SameQueue s (s.raiseStray l v) ∧ SameClock s (s.raiseStray l v) ∧ SameSupply s (s.raiseStray l v) ∧
    SameConfig s (s.raiseStray l v) ∧ SameStores s (s.raiseStray l v) ∧ SameLanes s (s.raiseStray l v) ∧
    SamePlans s (s.raiseStray l v) ∧ SameJobs s (s.raiseStray l v) ∧ SameMechs s (s.raiseStray l v) ∧
    SameService s (s.raiseStray l v) ∧ SameLinks s (s.raiseStray l v) ∧ (s.raiseStray l v).counters = s.counters ∧
    SameStore s (s.raiseStray l v) ∧ SamePaths s (s.raiseStray l v) := by
  simp [State.raiseStray]

@[simp] theorem State.raiseWrapped_keeps (s : State) (n : Fin 8) :
    SameQueue s (s.raiseWrapped n) ∧ SameClock s (s.raiseWrapped n) ∧ SameSupply s (s.raiseWrapped n) ∧
    SameConfig s (s.raiseWrapped n) ∧ SameStores s (s.raiseWrapped n) ∧ SameLanes s (s.raiseWrapped n) ∧
    SamePlans s (s.raiseWrapped n) ∧ SameJobs s (s.raiseWrapped n) ∧ SameMechs s (s.raiseWrapped n) ∧
    SameService s (s.raiseWrapped n) ∧ SameLinks s (s.raiseWrapped n) ∧ (s.raiseWrapped n).counters = s.counters ∧
    SameStore s (s.raiseWrapped n) ∧ SamePaths s (s.raiseWrapped n) := by
  simp [State.raiseWrapped]

@[simp] theorem State.raiseTransferDone_keeps (s : State) (u : UnitId) (k : TransferKind) (n : Nat) :
    SameQueue s (s.raiseTransferDone u k n) ∧ SameClock s (s.raiseTransferDone u k n) ∧
    SameSupply s (s.raiseTransferDone u k n) ∧ SameConfig s (s.raiseTransferDone u k n) ∧
    SameStores s (s.raiseTransferDone u k n) ∧ SameLanes s (s.raiseTransferDone u k n) ∧
    SamePlans s (s.raiseTransferDone u k n) ∧ SameJobs s (s.raiseTransferDone u k n) ∧
    SameMechs s (s.raiseTransferDone u k n) ∧ SameService s (s.raiseTransferDone u k n) ∧
    SameLinks s (s.raiseTransferDone u k n) ∧ (s.raiseTransferDone u k n).counters = s.counters ∧
    SameStore s (s.raiseTransferDone u k n) ∧ SamePaths s (s.raiseTransferDone u k n) := by
  simp [State.raiseTransferDone]

@[simp] theorem State.sample_keeps (s : State) (x : Sample) :
    SameQueue s (s.sample x) ∧ SameClock s (s.sample x) ∧ SameSupply s (s.sample x) ∧ SameConfig s (s.sample x) ∧
    SameStores s (s.sample x) ∧ SameLanes s (s.sample x) ∧ SamePlans s (s.sample x) ∧ SameJobs s (s.sample x) ∧
    SameMechs s (s.sample x) ∧ SameService s (s.sample x) ∧ SameLinks s (s.sample x) ∧ SameStore s (s.sample x) ∧
    SamePaths s (s.sample x) := by
  simp only [State.sample]
  (repeat' split) <;> simp

@[simp] theorem State.pushFrame_keeps (s : State) (p : Port) (f : Frame) :
    SameQueue s (s.pushFrame p f) ∧ SameClock s (s.pushFrame p f) ∧ SameSupply s (s.pushFrame p f) ∧
    SameConfig s (s.pushFrame p f) ∧ SameStores s (s.pushFrame p f) ∧ SameLanes s (s.pushFrame p f) ∧
    SamePlans s (s.pushFrame p f) ∧ SameJobs s (s.pushFrame p f) ∧ SameMechs s (s.pushFrame p f) ∧
    SameService s (s.pushFrame p f) ∧ SameEvents s (s.pushFrame p f) ∧ SameStore s (s.pushFrame p f) ∧
    SamePaths s (s.pushFrame p f) := by
  simp [State.pushFrame]

@[simp] theorem State.sampleRefused_keeps (s : State) (p : Port) :
    SameQueue s (s.sampleRefused p) ∧ SameClock s (s.sampleRefused p) ∧ SameSupply s (s.sampleRefused p) ∧
    SameConfig s (s.sampleRefused p) ∧ SameStores s (s.sampleRefused p) ∧ SameLanes s (s.sampleRefused p) ∧
    SamePlans s (s.sampleRefused p) ∧ SameJobs s (s.sampleRefused p) ∧ SameMechs s (s.sampleRefused p) ∧
    SameService s (s.sampleRefused p) ∧ SameLinks s (s.sampleRefused p) ∧ SameStore s (s.sampleRefused p) ∧
    SamePaths s (s.sampleRefused p) := by
  simp [State.sampleRefused]

@[simp] theorem State.answer_keeps (s : State) (p : Port) (c : Command) (data : List Field) :
    SameQueue s (s.answer p c data) ∧ SameClock s (s.answer p c data) ∧ SameSupply s (s.answer p c data) ∧
    SameConfig s (s.answer p c data) ∧ SameStores s (s.answer p c data) ∧ SameLanes s (s.answer p c data) ∧
    SamePlans s (s.answer p c data) ∧ SameJobs s (s.answer p c data) ∧ SameMechs s (s.answer p c data) ∧
    SameService s (s.answer p c data) ∧ SameEvents s (s.answer p c data) ∧ SameStore s (s.answer p c data) ∧
    SamePaths s (s.answer p c data) := by
  simp [State.answer]

@[simp] theorem State.refuseByte_keeps (s : State) (p : Port) (b : Byte) (code : ReplyCode) :
    SameQueue s (s.refuseByte p b code) ∧ SameClock s (s.refuseByte p b code) ∧
    SameSupply s (s.refuseByte p b code) ∧ SameConfig s (s.refuseByte p b code) ∧
    SameStores s (s.refuseByte p b code) ∧ SameLanes s (s.refuseByte p b code) ∧
    SamePlans s (s.refuseByte p b code) ∧ SameJobs s (s.refuseByte p b code) ∧
    SameMechs s (s.refuseByte p b code) ∧ SameService s (s.refuseByte p b code) ∧
    SameStore s (s.refuseByte p b code) ∧ SamePaths s (s.refuseByte p b code) := by
  simp [State.refuseByte]

@[simp] theorem State.refuse_keeps (s : State) (p : Port) (c : Command) (code : ReplyCode) :
    SameQueue s (s.refuse p c code) ∧ SameClock s (s.refuse p c code) ∧ SameSupply s (s.refuse p c code) ∧
    SameConfig s (s.refuse p c code) ∧ SameStores s (s.refuse p c code) ∧ SameLanes s (s.refuse p c code) ∧
    SamePlans s (s.refuse p c code) ∧ SameJobs s (s.refuse p c code) ∧ SameMechs s (s.refuse p c code) ∧
    SameService s (s.refuse p c code) ∧ SameStore s (s.refuse p c code) ∧ SamePaths s (s.refuse p c code) := by
  simp [State.refuse]

@[simp] theorem State.busyFrame_keeps (s : State) (p : Port) (b : Byte) :
    SameQueue s (s.busyFrame p b) ∧ SameClock s (s.busyFrame p b) ∧ SameSupply s (s.busyFrame p b) ∧
    SameConfig s (s.busyFrame p b) ∧ SameStores s (s.busyFrame p b) ∧ SameLanes s (s.busyFrame p b) ∧
    SamePlans s (s.busyFrame p b) ∧ SameJobs s (s.busyFrame p b) ∧ SameMechs s (s.busyFrame p b) ∧
    SameService s (s.busyFrame p b) ∧ SameStore s (s.busyFrame p b) ∧ SamePaths s (s.busyFrame p b) := by
  simp only [State.busyFrame]
  (repeat' split) <;> simp

@[simp] theorem State.setOutstanding_keeps (s : State) (p : Port) (b : Byte) :
    SameQueue s (s.setOutstanding p b) ∧ SameClock s (s.setOutstanding p b) ∧ SameSupply s (s.setOutstanding p b) ∧
    SameConfig s (s.setOutstanding p b) ∧ SameStores s (s.setOutstanding p b) ∧
    SameLanes s (s.setOutstanding p b) ∧ SamePlans s (s.setOutstanding p b) ∧ SameJobs s (s.setOutstanding p b) ∧
    SameMechs s (s.setOutstanding p b) ∧ SameService s (s.setOutstanding p b) ∧
    SameEvents s (s.setOutstanding p b) ∧ SameStore s (s.setOutstanding p b) ∧ SamePaths s (s.setOutstanding p b) := by
  simp [State.setOutstanding]

@[simp] theorem State.addStray_keeps (s : State) (l : Lane) (v : Nat) :
    SameQueue s (s.addStray l v) ∧ SameClock s (s.addStray l v) ∧ SameSupply s (s.addStray l v) ∧
    SameConfig s (s.addStray l v) ∧ SameStores s (s.addStray l v) ∧ (s.addStray l v).sales = s.sales ∧
    (s.addStray l v).escrows = s.escrows ∧ SamePlans s (s.addStray l v) ∧ SameJobs s (s.addStray l v) ∧
    SameMechs s (s.addStray l v) ∧ SameService s (s.addStray l v) ∧ SameLinks s (s.addStray l v) ∧
    (s.addStray l v).counters = s.counters ∧ SameStore s (s.addStray l v) ∧ SamePaths s (s.addStray l v) := by
  simp only [State.addStray]
  (repeat' split) <;> simp

@[simp] theorem State.creditSale_keeps (s : State) (l : Lane) (tag : Nat) (k : Kind) (v : Nat) :
    SameQueue s (s.creditSale l tag k v) ∧ SameClock s (s.creditSale l tag k v) ∧
    SameSupply s (s.creditSale l tag k v) ∧ SameConfig s (s.creditSale l tag k v) ∧
    SameStores s (s.creditSale l tag k v) ∧ (s.creditSale l tag k v).escrows = s.escrows ∧
    SamePlans s (s.creditSale l tag k v) ∧ SameJobs s (s.creditSale l tag k v) ∧
    SameMechs s (s.creditSale l tag k v) ∧ SameService s (s.creditSale l tag k v) ∧
    SameLinks s (s.creditSale l tag k v) ∧ (s.creditSale l tag k v).counters = s.counters ∧
    SameStore s (s.creditSale l tag k v) ∧ SamePaths s (s.creditSale l tag k v) := by
  simp only [State.creditSale]
  (repeat' split) <;> simp

@[simp] theorem State.finishSale_keeps (s : State) (l : Lane) (tag : Nat) (st : SaleState) :
    SameQueue s (s.finishSale l tag st) ∧ SameClock s (s.finishSale l tag st) ∧
    SameSupply s (s.finishSale l tag st) ∧ SameConfig s (s.finishSale l tag st) ∧
    SameStores s (s.finishSale l tag st) ∧ (s.finishSale l tag st).lanes = s.lanes ∧
    (s.finishSale l tag st).escrows = s.escrows ∧ SamePlans s (s.finishSale l tag st) ∧
    SameJobs s (s.finishSale l tag st) ∧ SameMechs s (s.finishSale l tag st) ∧
    SameService s (s.finishSale l tag st) ∧ SameLinks s (s.finishSale l tag st) ∧
    (s.finishSale l tag st).counters = s.counters ∧ SameStore s (s.finishSale l tag st) ∧
    SamePaths s (s.finishSale l tag st) := by
  simp [State.finishSale]

@[simp] theorem State.settleTest_keeps (s : State) (l : Lane) (tag : Nat) :
    SameQueue s (s.settleTest l tag) ∧ SameClock s (s.settleTest l tag) ∧ SameSupply s (s.settleTest l tag) ∧
    SameConfig s (s.settleTest l tag) ∧ SameStores s (s.settleTest l tag) ∧ (s.settleTest l tag).lanes = s.lanes ∧
    (s.settleTest l tag).escrows = s.escrows ∧ SamePlans s (s.settleTest l tag) ∧ SameJobs s (s.settleTest l tag) ∧
    SameMechs s (s.settleTest l tag) ∧ SameService s (s.settleTest l tag) ∧ SameLinks s (s.settleTest l tag) ∧
    (s.settleTest l tag).counters = s.counters ∧ SameStore s (s.settleTest l tag) ∧ SamePaths s (s.settleTest l tag) := by
  simp only [State.settleTest]
  (repeat' split) <;> simp

@[simp] theorem State.clearNeedOf_keeps (s : State) (l : Lane) (tag : Nat) :
    SameQueue s (s.clearNeedOf l tag) ∧ SameClock s (s.clearNeedOf l tag) ∧ SameSupply s (s.clearNeedOf l tag) ∧
    SameConfig s (s.clearNeedOf l tag) ∧ SameStores s (s.clearNeedOf l tag) ∧
    (s.clearNeedOf l tag).sales = s.sales ∧ (s.clearNeedOf l tag).escrows = s.escrows ∧
    SamePlans s (s.clearNeedOf l tag) ∧ SameJobs s (s.clearNeedOf l tag) ∧ SameMechs s (s.clearNeedOf l tag) ∧
    SameService s (s.clearNeedOf l tag) ∧ SameLinks s (s.clearNeedOf l tag) ∧ SameEvents s (s.clearNeedOf l tag) ∧
    SameStore s (s.clearNeedOf l tag) ∧ SamePaths s (s.clearNeedOf l tag) := by
  simp only [State.clearNeedOf]
  (repeat' split) <;> simp

@[simp] theorem State.placeRequest_keeps (s : State) (l : Lane) (tag : Nat) (k : RequestKind) (v : Nat) :
    SameQueue s (s.placeRequest l tag k v) ∧ SameClock s (s.placeRequest l tag k v) ∧
    SameSupply s (s.placeRequest l tag k v) ∧ SameConfig s (s.placeRequest l tag k v) ∧
    SameStores s (s.placeRequest l tag k v) ∧ SameLanes s (s.placeRequest l tag k v) ∧
    (s.placeRequest l tag k v).reservations = s.reservations ∧ SameJobs s (s.placeRequest l tag k v) ∧
    SameMechs s (s.placeRequest l tag k v) ∧ SameService s (s.placeRequest l tag k v) ∧
    SameLinks s (s.placeRequest l tag k v) ∧ SameEvents s (s.placeRequest l tag k v) ∧
    SameStore s (s.placeRequest l tag k v) ∧ SamePaths s (s.placeRequest l tag k v) := by
  simp only [State.placeRequest]
  (repeat' split) <;> simp

@[simp] theorem State.dropRequest_keeps (s : State) (l : Lane) (tag : Nat) :
    SameQueue s (s.dropRequest l tag) ∧ SameClock s (s.dropRequest l tag) ∧ SameSupply s (s.dropRequest l tag) ∧
    SameConfig s (s.dropRequest l tag) ∧ SameStores s (s.dropRequest l tag) ∧ SameLanes s (s.dropRequest l tag) ∧
    (s.dropRequest l tag).reservations = s.reservations ∧ SameJobs s (s.dropRequest l tag) ∧
    SameMechs s (s.dropRequest l tag) ∧ SameService s (s.dropRequest l tag) ∧ SameLinks s (s.dropRequest l tag) ∧
    SameEvents s (s.dropRequest l tag) ∧ SameStore s (s.dropRequest l tag) ∧ SamePaths s (s.dropRequest l tag) := by
  simp [State.dropRequest]

@[simp] theorem State.dropReservation_keeps (s : State) (l : Lane) (tag : Nat) :
    SameQueue s (s.dropReservation l tag) ∧ SameClock s (s.dropReservation l tag) ∧
    SameSupply s (s.dropReservation l tag) ∧ SameConfig s (s.dropReservation l tag) ∧
    SameStores s (s.dropReservation l tag) ∧ SameLanes s (s.dropReservation l tag) ∧
    (s.dropReservation l tag).planReqs = s.planReqs ∧ SameJobs s (s.dropReservation l tag) ∧
    SameMechs s (s.dropReservation l tag) ∧ SameService s (s.dropReservation l tag) ∧
    SameLinks s (s.dropReservation l tag) ∧ SameEvents s (s.dropReservation l tag) ∧
    SameStore s (s.dropReservation l tag) ∧ SamePaths s (s.dropReservation l tag) := by
  simp [State.dropReservation]

@[simp] theorem State.lapse_keeps (s : State) (l : Lane) (tag : Nat) :
    SameQueue s (s.lapse l tag) ∧ SameClock s (s.lapse l tag) ∧ SameSupply s (s.lapse l tag) ∧
    SameConfig s (s.lapse l tag) ∧ SameStores s (s.lapse l tag) ∧ (s.lapse l tag).lanes = s.lanes ∧
    (s.lapse l tag).escrows = s.escrows ∧ (s.lapse l tag).planReqs = s.planReqs ∧ SameJobs s (s.lapse l tag) ∧
    SameMechs s (s.lapse l tag) ∧ SameService s (s.lapse l tag) ∧ SameLinks s (s.lapse l tag) ∧
    SameEvents s (s.lapse l tag) ∧ SameStore s (s.lapse l tag) ∧ SamePaths s (s.lapse l tag) := by
  simp [State.lapse]

@[simp] theorem State.sampleLost_keeps (s : State) (r : Reservation) :
    SameQueue s (s.sampleLost r) ∧ SameClock s (s.sampleLost r) ∧ SameSupply s (s.sampleLost r) ∧
    SameConfig s (s.sampleLost r) ∧ SameStores s (s.sampleLost r) ∧ SameLanes s (s.sampleLost r) ∧
    SamePlans s (s.sampleLost r) ∧ SameJobs s (s.sampleLost r) ∧ SameMechs s (s.sampleLost r) ∧
    SameService s (s.sampleLost r) ∧ SameLinks s (s.sampleLost r) ∧ SameStore s (s.sampleLost r) ∧
    SamePaths s (s.sampleLost r) := by
  simp [State.sampleLost]

@[simp] theorem State.setUnitState_keeps (s : State) (u : UnitId) (x : UnitState) :
    SameQueue s (s.setUnitState u x) ∧ SameClock s (s.setUnitState u x) ∧ SameSupply s (s.setUnitState u x) ∧
    SameConfig s (s.setUnitState u x) ∧ (s.setUnitState u x).boxes = s.boxes ∧ SameLanes s (s.setUnitState u x) ∧
    SamePlans s (s.setUnitState u x) ∧ SameJobs s (s.setUnitState u x) ∧ SameMechs s (s.setUnitState u x) ∧
    SameService s (s.setUnitState u x) ∧ SameLinks s (s.setUnitState u x) ∧ SameEvents s (s.setUnitState u x) ∧
    (s.setUnitState u x).writer = s.writer ∧ (s.setUnitState u x).scan = s.scan ∧
    (s.setUnitState u x).store = s.store ∧ SamePaths s (s.setUnitState u x) := by
  simp [State.setUnitState]

@[simp] theorem State.lockIfDone_keeps (s : State) (u : UnitId) :
    SameQueue s (s.lockIfDone u) ∧ SameClock s (s.lockIfDone u) ∧ SameSupply s (s.lockIfDone u) ∧
    SameConfig s (s.lockIfDone u) ∧ (s.lockIfDone u).boxes = s.boxes ∧ SameLanes s (s.lockIfDone u) ∧
    SamePlans s (s.lockIfDone u) ∧ SameJobs s (s.lockIfDone u) ∧ SameMechs s (s.lockIfDone u) ∧
    SameService s (s.lockIfDone u) ∧ SameLinks s (s.lockIfDone u) ∧ SameEvents s (s.lockIfDone u) ∧
    (s.lockIfDone u).writer = s.writer ∧ (s.lockIfDone u).scan = s.scan ∧ (s.lockIfDone u).store = s.store ∧
    SamePaths s (s.lockIfDone u) := by
  simp only [State.lockIfDone]
  (repeat' split) <;> simp

@[simp] theorem State.release_keeps (s : State) (u : UnitId) (n : Nat) :
    SameQueue s (s.release u n) ∧ SameClock s (s.release u n) ∧ SameSupply s (s.release u n) ∧
    SameConfig s (s.release u n) ∧ (s.release u n).boxes = s.boxes ∧ SameLanes s (s.release u n) ∧
    SamePlans s (s.release u n) ∧ SameJobs s (s.release u n) ∧ SameMechs s (s.release u n) ∧
    SameService s (s.release u n) ∧ SameLinks s (s.release u n) ∧ SameEvents s (s.release u n) ∧
    (s.release u n).writer = s.writer ∧ (s.release u n).scan = s.scan ∧ (s.release u n).store = s.store ∧
    SamePaths s (s.release u n) := by
  simp [State.release]

@[simp] theorem State.countIn_keeps (s : State) (u : UnitId) :
    SameQueue s (s.countIn u) ∧ SameClock s (s.countIn u) ∧ SameSupply s (s.countIn u) ∧
    SameConfig s (s.countIn u) ∧ (s.countIn u).boxes = s.boxes ∧ SameLanes s (s.countIn u) ∧
    SamePlans s (s.countIn u) ∧ SameJobs s (s.countIn u) ∧ SameMechs s (s.countIn u) ∧
    SameService s (s.countIn u) ∧ SameLinks s (s.countIn u) ∧ SameEvents s (s.countIn u) ∧
    (s.countIn u).writer = s.writer ∧ (s.countIn u).scan = s.scan ∧ (s.countIn u).store = s.store ∧
    SamePaths s (s.countIn u) := by
  simp [State.countIn]

@[simp] theorem State.countOut_keeps (s : State) (u : UnitId) :
    SameQueue s (s.countOut u) ∧ SameClock s (s.countOut u) ∧ SameSupply s (s.countOut u) ∧
    SameConfig s (s.countOut u) ∧ (s.countOut u).boxes = s.boxes ∧ SameLanes s (s.countOut u) ∧
    SamePlans s (s.countOut u) ∧ SameJobs s (s.countOut u) ∧ SameMechs s (s.countOut u) ∧
    SameService s (s.countOut u) ∧ SameLinks s (s.countOut u) ∧ SameEvents s (s.countOut u) ∧
    (s.countOut u).writer = s.writer ∧ (s.countOut u).scan = s.scan ∧ (s.countOut u).store = s.store ∧
    SamePaths s (s.countOut u) := by
  simp [State.countOut]

@[simp] theorem State.boxIn_keeps (s : State) (k : Kind) (d : Slot) :
    SameQueue s (s.boxIn k d) ∧ SameClock s (s.boxIn k d) ∧ SameSupply s (s.boxIn k d) ∧
    SameConfig s (s.boxIn k d) ∧ (s.boxIn k d).units = s.units ∧ SameLanes s (s.boxIn k d) ∧
    SamePlans s (s.boxIn k d) ∧ SameJobs s (s.boxIn k d) ∧ SameMechs s (s.boxIn k d) ∧
    SameService s (s.boxIn k d) ∧ SameLinks s (s.boxIn k d) ∧ SameEvents s (s.boxIn k d) ∧
    (s.boxIn k d).writer = s.writer ∧ (s.boxIn k d).scan = s.scan ∧ (s.boxIn k d).store = s.store ∧
    SamePaths s (s.boxIn k d) := by
  simp only [State.boxIn]
  (repeat' split) <;> simp

@[simp] theorem State.modJob_keeps (s : State) (n : Nat) (f : Job → Job) :
    SameQueue s (s.modJob n f) ∧ SameClock s (s.modJob n f) ∧ SameSupply s (s.modJob n f) ∧
    SameConfig s (s.modJob n f) ∧ SameStores s (s.modJob n f) ∧ SameLanes s (s.modJob n f) ∧
    SamePlans s (s.modJob n f) ∧ (s.modJob n f).nextJob = s.nextJob ∧ SameMechs s (s.modJob n f) ∧
    SameService s (s.modJob n f) ∧ SameLinks s (s.modJob n f) ∧ SameEvents s (s.modJob n f) ∧
    SameStore s (s.modJob n f) ∧ SamePaths s (s.modJob n f) := by
  simp [State.modJob]

@[simp] theorem State.dropJobs_keeps (s : State) (p : Job → Bool) :
    SameQueue s (s.dropJobs p) ∧ SameClock s (s.dropJobs p) ∧ SameSupply s (s.dropJobs p) ∧
    SameConfig s (s.dropJobs p) ∧ SameStores s (s.dropJobs p) ∧ SameLanes s (s.dropJobs p) ∧
    SamePlans s (s.dropJobs p) ∧ (s.dropJobs p).nextJob = s.nextJob ∧ SameMechs s (s.dropJobs p) ∧
    SameService s (s.dropJobs p) ∧ SameLinks s (s.dropJobs p) ∧ SameEvents s (s.dropJobs p) ∧
    SameStore s (s.dropJobs p) ∧ SamePaths s (s.dropJobs p) := by
  simp [State.dropJobs]

@[simp] theorem State.dropJob_keeps (s : State) (n : Nat) :
    SameQueue s (s.dropJob n) ∧ SameClock s (s.dropJob n) ∧ SameSupply s (s.dropJob n) ∧
    SameConfig s (s.dropJob n) ∧ SameStores s (s.dropJob n) ∧ SameLanes s (s.dropJob n) ∧
    SamePlans s (s.dropJob n) ∧ (s.dropJob n).nextJob = s.nextJob ∧ SameMechs s (s.dropJob n) ∧
    SameService s (s.dropJob n) ∧ SameLinks s (s.dropJob n) ∧ SameEvents s (s.dropJob n) ∧
    SameStore s (s.dropJob n) ∧ SamePaths s (s.dropJob n) := by
  simp [State.dropJob]

@[simp] theorem State.startTransfer_keeps (s : State) (u : UnitId) (k : TransferKind) (n : Nat) :
    SameQueue s (s.startTransfer u k n) ∧ SameClock s (s.startTransfer u k n) ∧
    SameSupply s (s.startTransfer u k n) ∧ SameConfig s (s.startTransfer u k n) ∧
    SameStores s (s.startTransfer u k n) ∧ SameLanes s (s.startTransfer u k n) ∧
    SamePlans s (s.startTransfer u k n) ∧ SameJobs s (s.startTransfer u k n) ∧
    SameMechs s (s.startTransfer u k n) ∧ (s.startTransfer u k n).tallies = s.tallies ∧
    SameLinks s (s.startTransfer u k n) ∧ SameEvents s (s.startTransfer u k n) ∧
    SameStore s (s.startTransfer u k n) ∧ SamePaths s (s.startTransfer u k n) := by
  simp [State.startTransfer]

@[simp] theorem State.transferMoved_keeps (s : State) (u : UnitId) :
    SameQueue s (s.transferMoved u) ∧ SameClock s (s.transferMoved u) ∧ SameSupply s (s.transferMoved u) ∧
    SameConfig s (s.transferMoved u) ∧ SameStores s (s.transferMoved u) ∧ SameLanes s (s.transferMoved u) ∧
    SamePlans s (s.transferMoved u) ∧ SameJobs s (s.transferMoved u) ∧ SameMechs s (s.transferMoved u) ∧
    (s.transferMoved u).tallies = s.tallies ∧ SameLinks s (s.transferMoved u) ∧ SameEvents s (s.transferMoved u) ∧
    SameStore s (s.transferMoved u) ∧ SamePaths s (s.transferMoved u) := by
  simp [State.transferMoved]

@[simp] theorem State.endTransfer_keeps (s : State) (u : UnitId) (x : TransferEnd) :
    SameQueue s (s.endTransfer u x) ∧ SameClock s (s.endTransfer u x) ∧ SameSupply s (s.endTransfer u x) ∧
    SameConfig s (s.endTransfer u x) ∧ SameStores s (s.endTransfer u x) ∧ SameLanes s (s.endTransfer u x) ∧
    SamePlans s (s.endTransfer u x) ∧ SameJobs s (s.endTransfer u x) ∧ SameMechs s (s.endTransfer u x) ∧
    (s.endTransfer u x).tallies = s.tallies ∧ SameLinks s (s.endTransfer u x) ∧
    (s.endTransfer u x).counters = s.counters ∧ SameStore s (s.endTransfer u x) ∧ SamePaths s (s.endTransfer u x) := by
  simp only [State.endTransfer]
  (repeat' split) <;> simp

@[simp] theorem State.placeService_keeps (s : State) (u : UnitId) (k : TransferKind) (n : Nat) :
    SameQueue s (s.placeService u k n) ∧ SameClock s (s.placeService u k n) ∧ SameSupply s (s.placeService u k n) ∧
    SameConfig s (s.placeService u k n) ∧ (s.placeService u k n).boxes = s.boxes ∧
    SameLanes s (s.placeService u k n) ∧ SamePlans s (s.placeService u k n) ∧
    (s.placeService u k n).laneJobs = s.laneJobs ∧ (s.placeService u k n).stackJobs = s.stackJobs ∧
    SameMechs s (s.placeService u k n) ∧ (s.placeService u k n).tallies = s.tallies ∧
    SameLinks s (s.placeService u k n) ∧ SameEvents s (s.placeService u k n) ∧ SameStore s (s.placeService u k n) ∧
    SamePaths s (s.placeService u k n) := by
  simp only [State.placeService]
  (repeat' split) <;> simp

@[simp] theorem State.placeStackDown_keeps (s : State) (l : Lane) :
    SameQueue s (s.placeStackDown l) ∧ SameClock s (s.placeStackDown l) ∧ SameSupply s (s.placeStackDown l) ∧
    SameConfig s (s.placeStackDown l) ∧ SameStores s (s.placeStackDown l) ∧ SameLanes s (s.placeStackDown l) ∧
    SamePlans s (s.placeStackDown l) ∧ (s.placeStackDown l).laneJobs = s.laneJobs ∧
    (s.placeStackDown l).serviceJobs = s.serviceJobs ∧ SameMechs s (s.placeStackDown l) ∧
    SameService s (s.placeStackDown l) ∧ SameLinks s (s.placeStackDown l) ∧ SameEvents s (s.placeStackDown l) ∧
    SameStore s (s.placeStackDown l) ∧ SamePaths s (s.placeStackDown l) := by
  simp [State.placeStackDown]

theorem State.placeStackDown_sources (s : State) (l : Lane) :
    (s.placeStackDown l).stackJobs.map Job.source =
      ((s.stackJobs.map Job.source).filter fun x => decide (x ≠ .escrow l)) ++ [.escrow l] := by
  simp [State.placeStackDown, List.filter_map, Function.comp_def]

@[simp] theorem State.growStackDown_keeps (s : State) (l : Lane) :
    SameQueue s (s.growStackDown l) ∧ SameClock s (s.growStackDown l) ∧ SameSupply s (s.growStackDown l) ∧
    SameConfig s (s.growStackDown l) ∧ SameStores s (s.growStackDown l) ∧ SameLanes s (s.growStackDown l) ∧
    SamePlans s (s.growStackDown l) ∧ (s.growStackDown l).laneJobs = s.laneJobs ∧
    (s.growStackDown l).serviceJobs = s.serviceJobs ∧ (s.growStackDown l).nextJob = s.nextJob ∧ SameMechs s (s.growStackDown l) ∧
    SameService s (s.growStackDown l) ∧ SameLinks s (s.growStackDown l) ∧ SameEvents s (s.growStackDown l) ∧
    SameStore s (s.growStackDown l) ∧ SamePaths s (s.growStackDown l) := by
  simp [State.growStackDown]

@[simp] theorem State.growStackDown_sources (s : State) (l : Lane) :
    (s.growStackDown l).stackJobs.map Job.source = s.stackJobs.map Job.source := by
  simp only [State.growStackDown, List.map_map]
  exact List.map_congr_left fun j _ => by simp only [Function.comp_apply]; split <;> rfl

@[simp] theorem State.setOwner_keeps (s : State) (l : Lane) (o : EscrowOwner) :
    SameQueue s (s.setOwner l o) ∧ SameClock s (s.setOwner l o) ∧ SameSupply s (s.setOwner l o) ∧
    SameConfig s (s.setOwner l o) ∧ SameStores s (s.setOwner l o) ∧ (s.setOwner l o).lanes = s.lanes ∧
    (s.setOwner l o).sales = s.sales ∧ SamePlans s (s.setOwner l o) ∧ SameJobs s (s.setOwner l o) ∧
    SameMechs s (s.setOwner l o) ∧ SameService s (s.setOwner l o) ∧ SameLinks s (s.setOwner l o) ∧
    SameEvents s (s.setOwner l o) ∧ (s.setOwner l o).writer = s.writer ∧ (s.setOwner l o).scan = s.scan ∧
    (s.setOwner l o).store = s.store ∧ SamePaths s (s.setOwner l o) := by
  simp [State.setOwner]

@[simp] theorem State.setEscrowStatus_keeps (s : State) (l : Lane) (x : EscrowStatus) :
    SameQueue s (s.setEscrowStatus l x) ∧ SameClock s (s.setEscrowStatus l x) ∧
    SameSupply s (s.setEscrowStatus l x) ∧ SameConfig s (s.setEscrowStatus l x) ∧
    SameStores s (s.setEscrowStatus l x) ∧ (s.setEscrowStatus l x).lanes = s.lanes ∧
    (s.setEscrowStatus l x).sales = s.sales ∧ SamePlans s (s.setEscrowStatus l x) ∧
    SameJobs s (s.setEscrowStatus l x) ∧ SameMechs s (s.setEscrowStatus l x) ∧
    SameService s (s.setEscrowStatus l x) ∧ SameLinks s (s.setEscrowStatus l x) ∧
    SameEvents s (s.setEscrowStatus l x) ∧ SameStore s (s.setEscrowStatus l x) ∧ SamePaths s (s.setEscrowStatus l x) := by
  simp [State.setEscrowStatus]

@[simp] theorem State.returnSucceeds_keeps (s : State) (l : Lane) :
    SameQueue s (s.returnSucceeds l) ∧ SameClock s (s.returnSucceeds l) ∧ SameSupply s (s.returnSucceeds l) ∧
    SameConfig s (s.returnSucceeds l) ∧ SameStores s (s.returnSucceeds l) ∧ SamePlans s (s.returnSucceeds l) ∧
    SameJobs s (s.returnSucceeds l) ∧ SameMechs s (s.returnSucceeds l) ∧ SameService s (s.returnSucceeds l) ∧
    SameLinks s (s.returnSucceeds l) ∧ (s.returnSucceeds l).counters = s.counters ∧
    (s.returnSucceeds l).writer = s.writer ∧ (s.returnSucceeds l).scan = s.scan ∧
    (s.returnSucceeds l).store = s.store ∧ SamePaths s (s.returnSucceeds l) := by
  simp only [State.returnSucceeds]
  (repeat' split) <;> simp

@[simp] theorem State.beginReturn_keeps (s : State) (l : Lane) :
    SameQueue s (s.beginReturn l) ∧ SameClock s (s.beginReturn l) ∧ SameSupply s (s.beginReturn l) ∧
    SameConfig s (s.beginReturn l) ∧ SameStores s (s.beginReturn l) ∧ SamePlans s (s.beginReturn l) ∧
    SameJobs s (s.beginReturn l) ∧ SameMechs s (s.beginReturn l) ∧ SameService s (s.beginReturn l) ∧
    SameLinks s (s.beginReturn l) ∧ (s.beginReturn l).counters = s.counters ∧ (s.beginReturn l).writer = s.writer ∧
    (s.beginReturn l).scan = s.scan ∧ (s.beginReturn l).store = s.store ∧ SamePaths s (s.beginReturn l) := by
  simp only [State.beginReturn]
  (repeat' split) <;> simp

@[simp] theorem State.returnFails_keeps (s : State) (l : Lane) :
    SameQueue s (s.returnFails l) ∧ SameClock s (s.returnFails l) ∧ SameSupply s (s.returnFails l) ∧
    SameConfig s (s.returnFails l) ∧ SameStores s (s.returnFails l) ∧ (s.returnFails l).lanes = s.lanes ∧
    (s.returnFails l).sales = s.sales ∧ SamePlans s (s.returnFails l) ∧ SameJobs s (s.returnFails l) ∧
    SameMechs s (s.returnFails l) ∧ SameService s (s.returnFails l) ∧ SameLinks s (s.returnFails l) ∧
    (s.returnFails l).counters = s.counters ∧ SameStore s (s.returnFails l) ∧ SamePaths s (s.returnFails l) := by
  simp only [State.returnFails]
  (repeat' split) <;> simp

@[simp] theorem State.startWrite_keeps (s : State) :
    SameQueue s s.startWrite ∧ SameClock s s.startWrite ∧ SameSupply s s.startWrite ∧ SameConfig s s.startWrite ∧
    SameStores s s.startWrite ∧ SameLanes s s.startWrite ∧ SamePlans s s.startWrite ∧ SameJobs s s.startWrite ∧
    SameMechs s s.startWrite ∧ SameService s s.startWrite ∧ SameLinks s s.startWrite ∧ SameEvents s s.startWrite ∧
    s.startWrite.scan = s.scan ∧ s.startWrite.store = s.store ∧ SamePaths s s.startWrite := by
  simp only [State.startWrite]
  (repeat' split) <;> simp

@[simp] theorem State.flush_keeps (s : State) :
    SameQueue s s.flush ∧ SameClock s s.flush ∧ SameSupply s s.flush ∧ SameConfig s s.flush ∧
    SameStores s s.flush ∧ SameLanes s s.flush ∧ SamePlans s s.flush ∧ SameJobs s s.flush ∧ SameMechs s s.flush ∧
    SameService s s.flush ∧ SameLinks s s.flush ∧ SameEvents s s.flush ∧ s.flush.scan = s.scan ∧
    s.flush.store = s.store ∧ SamePaths s s.flush := by
  simp only [State.flush]
  (repeat' split) <;> simp

@[simp] theorem State.advanceTo_keeps (s : State) (t : Nat) :
    SameQueue s (s.advanceTo t) ∧ SameSupply s (s.advanceTo t) ∧ SameConfig s (s.advanceTo t) ∧
    SameStores s (s.advanceTo t) ∧ SameLanes s (s.advanceTo t) ∧ SamePlans s (s.advanceTo t) ∧
    SameJobs s (s.advanceTo t) ∧ SameMechs s (s.advanceTo t) ∧ SameService s (s.advanceTo t) ∧
    SameLinks s (s.advanceTo t) ∧ SameEvents s (s.advanceTo t) ∧ SameStore s (s.advanceTo t) ∧
    SamePaths s (s.advanceTo t) := by
  simp [State.advanceTo]

/-! ### What follows a change (Machine/Float.lean) -/

@[simp] theorem State.withdrawOne_keeps (s : State) (r : Reservation) :
    SameQueue s (s.withdrawOne r) ∧ SameClock s (s.withdrawOne r) ∧ SameSupply s (s.withdrawOne r) ∧
    SameConfig s (s.withdrawOne r) ∧ SameStores s (s.withdrawOne r) ∧ (s.withdrawOne r).lanes = s.lanes ∧
    (s.withdrawOne r).escrows = s.escrows ∧ (s.withdrawOne r).planReqs = s.planReqs ∧
    SameJobs s (s.withdrawOne r) ∧ SameMechs s (s.withdrawOne r) ∧ SameService s (s.withdrawOne r) ∧
    SameLinks s (s.withdrawOne r) ∧ SameStore s (s.withdrawOne r) ∧ SamePaths s (s.withdrawOne r) := by
  simp [State.withdrawOne]

@[simp] theorem withdrawWalk_keeps (s : State) (rs : List Reservation) :
    SameQueue s (withdrawWalk rs s).1 ∧ SameClock s (withdrawWalk rs s).1 ∧ SameSupply s (withdrawWalk rs s).1 ∧
    SameConfig s (withdrawWalk rs s).1 ∧ SameStores s (withdrawWalk rs s).1 ∧
    (withdrawWalk rs s).1.lanes = s.lanes ∧ (withdrawWalk rs s).1.escrows = s.escrows ∧
    (withdrawWalk rs s).1.planReqs = s.planReqs ∧ SameJobs s (withdrawWalk rs s).1 ∧
    SameMechs s (withdrawWalk rs s).1 ∧ SameService s (withdrawWalk rs s).1 ∧ SameLinks s (withdrawWalk rs s).1 ∧
    SameStore s (withdrawWalk rs s).1 ∧ SamePaths s (withdrawWalk rs s).1 := by
  induction rs generalizing s with
  | nil => simp [withdrawWalk]
  | cons r rs ih =>
    have h := ih (s.withdrawOne r)
    have h' := ih s
    simp only [withdrawWalk]
    split
    · split <;> simp_all
    · simp

@[simp] theorem withdraw_keeps (s : State) :
    SameQueue s s.withdraw.1 ∧ SameClock s s.withdraw.1 ∧ SameSupply s s.withdraw.1 ∧ SameConfig s s.withdraw.1 ∧
    SameStores s s.withdraw.1 ∧ s.withdraw.1.lanes = s.lanes ∧ s.withdraw.1.escrows = s.escrows ∧
    s.withdraw.1.planReqs = s.planReqs ∧ SameJobs s s.withdraw.1 ∧ SameMechs s s.withdraw.1 ∧
    SameService s s.withdraw.1 ∧ SameLinks s s.withdraw.1 ∧ SameStore s s.withdraw.1 ∧ SamePaths s s.withdraw.1 := by
  simp [State.withdraw]

@[simp] theorem State.sweepCheck_keeps (s : State) (u : UnitId) :
    SameQueue s (s.sweepCheck u) ∧ SameClock s (s.sweepCheck u) ∧ SameSupply s (s.sweepCheck u) ∧
    SameConfig s (s.sweepCheck u) ∧ (s.sweepCheck u).boxes = s.boxes ∧ SameLanes s (s.sweepCheck u) ∧
    SamePlans s (s.sweepCheck u) ∧ (s.sweepCheck u).laneJobs = s.laneJobs ∧
    (s.sweepCheck u).stackJobs = s.stackJobs ∧ SameMechs s (s.sweepCheck u) ∧
    (s.sweepCheck u).tallies = s.tallies ∧ SameLinks s (s.sweepCheck u) ∧ SameEvents s (s.sweepCheck u) ∧
    SameStore s (s.sweepCheck u) ∧ SamePaths s (s.sweepCheck u) := by
  simp only [State.sweepCheck]
  (repeat' split) <;> simp

@[simp] theorem State.sweepChecks_keeps (s : State) (left : List Reservation) (stored : List UnitId) :
    SameQueue s (s.sweepChecks left stored) ∧ SameClock s (s.sweepChecks left stored) ∧
    SameSupply s (s.sweepChecks left stored) ∧ SameConfig s (s.sweepChecks left stored) ∧
    (s.sweepChecks left stored).boxes = s.boxes ∧ SameLanes s (s.sweepChecks left stored) ∧
    SamePlans s (s.sweepChecks left stored) ∧ (s.sweepChecks left stored).laneJobs = s.laneJobs ∧
    (s.sweepChecks left stored).stackJobs = s.stackJobs ∧ SameMechs s (s.sweepChecks left stored) ∧
    (s.sweepChecks left stored).tallies = s.tallies ∧ SameLinks s (s.sweepChecks left stored) ∧
    SameEvents s (s.sweepChecks left stored) ∧ SameStore s (s.sweepChecks left stored) ∧
    SamePaths s (s.sweepChecks left stored) := by
  unfold State.sweepChecks
  have h : ∀ (us : List UnitId) (t : State),
      (let r := us.foldl (fun s u => if s.sweepDue left stored u then s.sweepCheck u else s) t
       SameQueue t r ∧ SameClock t r ∧ SameSupply t r ∧ SameConfig t r ∧ r.boxes = t.boxes ∧ SameLanes t r ∧
       SamePlans t r ∧ r.laneJobs = t.laneJobs ∧ r.stackJobs = t.stackJobs ∧ SameMechs t r ∧
       r.tallies = t.tallies ∧ SameLinks t r ∧ SameEvents t r ∧ SameStore t r ∧ SamePaths t r) := by
    intro us
    induction us with
    | nil => simp
    | cons u us ih =>
      intro t
      simp only [List.foldl_cons]
      split
      · simpa using ih (t.sweepCheck u)
      · simpa using ih t
  simpa using h allUnits s

@[simp] theorem State.startEjection_keeps (s : State) (k : Kind) (j : Job) (x : Dest) :
    SameQueue s (s.startEjection k j x) ∧ SameClock s (s.startEjection k j x) ∧
    SameSupply s (s.startEjection k j x) ∧ SameConfig s (s.startEjection k j x) ∧
    SameStores s (s.startEjection k j x) ∧ SameLanes s (s.startEjection k j x) ∧
    SamePlans s (s.startEjection k j x) ∧ (s.startEjection k j x).nextJob = s.nextJob ∧
    (s.startEjection k j x).turns = s.turns ∧ (s.startEjection k j x).retest = s.retest ∧
    SameService s (s.startEjection k j x) ∧
    SameLinks s (s.startEjection k j x) ∧ SameEvents s (s.startEjection k j x) ∧
    SameStore s (s.startEjection k j x) ∧ SamePaths s (s.startEjection k j x) := by
  simp [State.startEjection]

@[simp] theorem State.grantStackDown_keeps (s : State) (j : Job) :
    SameQueue s (s.grantStackDown j) ∧ SameClock s (s.grantStackDown j) ∧ SameSupply s (s.grantStackDown j) ∧
    SameConfig s (s.grantStackDown j) ∧ SameStores s (s.grantStackDown j) ∧ (s.grantStackDown j).lanes = s.lanes ∧
    (s.grantStackDown j).sales = s.sales ∧ SamePlans s (s.grantStackDown j) ∧
    (s.grantStackDown j).nextJob = s.nextJob ∧ (s.grantStackDown j).turns = s.turns ∧ (s.grantStackDown j).retest = s.retest ∧
    SameService s (s.grantStackDown j) ∧ SameLinks s (s.grantStackDown j) ∧ SameEvents s (s.grantStackDown j) ∧
    SameStore s (s.grantStackDown j) ∧ SamePaths s (s.grantStackDown j) := by
  simp only [State.grantStackDown]
  (repeat' split) <;> simp

@[simp] theorem State.setTurn_keeps (s : State) (k : Kind) (t : Turn) :
    SameQueue s (s.setTurn k t) ∧ (s.setTurn k t).retest = s.retest ∧
    SameClock s (s.setTurn k t) ∧ SameSupply s (s.setTurn k t) ∧
    SameConfig s (s.setTurn k t) ∧ SameStores s (s.setTurn k t) ∧ SameLanes s (s.setTurn k t) ∧
    SamePlans s (s.setTurn k t) ∧ SameJobs s (s.setTurn k t) ∧ (s.setTurn k t).mechs = s.mechs ∧
    SameService s (s.setTurn k t) ∧ SameLinks s (s.setTurn k t) ∧ SameEvents s (s.setTurn k t) ∧
    SameStore s (s.setTurn k t) ∧ SamePaths s (s.setTurn k t) := by
  simp [State.setTurn]

@[simp] theorem State.grantLane_keeps (s : State) (k : Kind) (l : Lane) (j : Job) (w : Bool) :
    SameQueue s (s.grantLane k l j w) ∧ (s.grantLane k l j w).retest = s.retest ∧
    SameClock s (s.grantLane k l j w) ∧ SameSupply s (s.grantLane k l j w) ∧
    SameConfig s (s.grantLane k l j w) ∧ SameStores s (s.grantLane k l j w) ∧ SameLanes s (s.grantLane k l j w) ∧
    SamePlans s (s.grantLane k l j w) ∧ (s.grantLane k l j w).nextJob = s.nextJob ∧
    SameService s (s.grantLane k l j w) ∧ SameLinks s (s.grantLane k l j w) ∧ SameStore s (s.grantLane k l j w) ∧
    SamePaths s (s.grantLane k l j w) := by
  simp only [State.grantLane]
  (repeat' split) <;> simp

@[simp] theorem State.grantFirst_keeps (s : State) (k : Kind) :
    SameQueue s (s.grantFirst k) ∧ (s.grantFirst k).retest = s.retest ∧
    SameClock s (s.grantFirst k) ∧ SameSupply s (s.grantFirst k) ∧
    SameConfig s (s.grantFirst k) ∧ SameStores s (s.grantFirst k) ∧ (s.grantFirst k).lanes = s.lanes ∧
    (s.grantFirst k).sales = s.sales ∧ SamePlans s (s.grantFirst k) ∧ (s.grantFirst k).nextJob = s.nextJob ∧
    SameService s (s.grantFirst k) ∧ SameLinks s (s.grantFirst k) ∧ SameStore s (s.grantFirst k) ∧
    SamePaths s (s.grantFirst k) := by
  simp only [State.grantFirst]
  (repeat' split) <;> simp

@[simp] theorem State.arbitrate_keeps (s : State) (k : Kind) :
    SameQueue s (s.arbitrate k) ∧ (s.arbitrate k).retest = s.retest ∧
    SameClock s (s.arbitrate k) ∧ SameSupply s (s.arbitrate k) ∧
    SameConfig s (s.arbitrate k) ∧ SameStores s (s.arbitrate k) ∧ (s.arbitrate k).lanes = s.lanes ∧
    (s.arbitrate k).sales = s.sales ∧ SamePlans s (s.arbitrate k) ∧ (s.arbitrate k).nextJob = s.nextJob ∧
    SameService s (s.arbitrate k) ∧ SameLinks s (s.arbitrate k) ∧ SameStore s (s.arbitrate k) ∧
    SamePaths s (s.arbitrate k) := by
  simp only [State.arbitrate]
  (repeat' split) <;> simp

@[simp] theorem State.settleEvent_keeps (s : State) :
    SameQueue s s.settleEvent ∧ s.settleEvent.retest = s.retest ∧
    SameClock s s.settleEvent ∧ SameSupply s s.settleEvent ∧
    SameConfig s s.settleEvent ∧ SameStores s s.settleEvent ∧ s.settleEvent.lanes = s.lanes ∧
    s.settleEvent.sales = s.sales ∧ SamePlans s s.settleEvent ∧ s.settleEvent.nextJob = s.nextJob ∧
    SameService s s.settleEvent ∧ SameLinks s s.settleEvent ∧ s.settleEvent.scan = s.scan ∧
    s.settleEvent.store = s.store ∧ SamePaths s s.settleEvent := by
  simp [State.settleEvent]

@[simp] theorem State.conclude_keeps (s : State) (fall : Bool) (left : List Reservation) (stored : List UnitId) :
    SameQueue s (s.conclude fall left stored) ∧ (s.conclude fall left stored).retest = s.retest ∧
    SameClock s (s.conclude fall left stored) ∧
    SameSupply s (s.conclude fall left stored) ∧ SameConfig s (s.conclude fall left stored) ∧
    (s.conclude fall left stored).boxes = s.boxes ∧ (s.conclude fall left stored).lanes = s.lanes ∧
    (s.conclude fall left stored).planReqs = s.planReqs ∧ (s.conclude fall left stored).tallies = s.tallies ∧
    SameLinks s (s.conclude fall left stored) ∧ (s.conclude fall left stored).scan = s.scan ∧
    (s.conclude fall left stored).store = s.store ∧ SamePaths s (s.conclude fall left stored) := by
  simp only [State.conclude]
  (repeat' split) <;> simp

/-! ### Plans and sales (Machine/Search.lean, Machine/Sales.lean, Machine/Lanes.lean) -/

@[simp] theorem State.commit_keeps (s : State) (u : UnitId) (n : Nat) :
    SameQueue s (s.commit u n) ∧ SameClock s (s.commit u n) ∧ SameSupply s (s.commit u n) ∧
    SameConfig s (s.commit u n) ∧ (s.commit u n).boxes = s.boxes ∧ SameLanes s (s.commit u n) ∧
    SamePlans s (s.commit u n) ∧ SameJobs s (s.commit u n) ∧ SameMechs s (s.commit u n) ∧
    SameService s (s.commit u n) ∧ SameLinks s (s.commit u n) ∧ SameEvents s (s.commit u n) ∧
    SameStore s (s.commit u n) ∧ SamePaths s (s.commit u n) := by
  simp [State.commit]

@[simp] theorem State.commitAll_keeps (s : State) (xs : List Share) :
    SameQueue s (s.commitAll xs) ∧ SameClock s (s.commitAll xs) ∧ SameSupply s (s.commitAll xs) ∧
    SameConfig s (s.commitAll xs) ∧ (s.commitAll xs).boxes = s.boxes ∧ SameLanes s (s.commitAll xs) ∧
    SamePlans s (s.commitAll xs) ∧ SameJobs s (s.commitAll xs) ∧ SameMechs s (s.commitAll xs) ∧
    SameService s (s.commitAll xs) ∧ SameLinks s (s.commitAll xs) ∧ SameEvents s (s.commitAll xs) ∧
    SameStore s (s.commitAll xs) ∧ SamePaths s (s.commitAll xs) := by
  unfold State.commitAll
  induction xs generalizing s with
  | nil => simp
  | cons x xs ih => simpa using ih (s.commit x.unit x.pieces)

@[simp] theorem State.placeShares_keeps (s : State) (l : Lane) (tag : Nat) (xs : List Share) (f : List Job → List Job → List Job) :
    SameQueue s (s.placeShares l tag xs f) ∧ SameClock s (s.placeShares l tag xs f) ∧
    SameSupply s (s.placeShares l tag xs f) ∧ SameConfig s (s.placeShares l tag xs f) ∧
    (s.placeShares l tag xs f).boxes = s.boxes ∧ SameLanes s (s.placeShares l tag xs f) ∧
    SamePlans s (s.placeShares l tag xs f) ∧ (s.placeShares l tag xs f).serviceJobs = s.serviceJobs ∧
    (s.placeShares l tag xs f).stackJobs = s.stackJobs ∧ SameMechs s (s.placeShares l tag xs f) ∧
    SameService s (s.placeShares l tag xs f) ∧ SameLinks s (s.placeShares l tag xs f) ∧
    SameEvents s (s.placeShares l tag xs f) ∧ SameStore s (s.placeShares l tag xs f) ∧
    SamePaths s (s.placeShares l tag xs f) := by
  simp [State.placeShares]

@[simp] theorem State.openTender_keeps (s : State) (l : Lane) (tag : Nat) :
    SameQueue s (s.openTender l tag) ∧ SameClock s (s.openTender l tag) ∧ SameSupply s (s.openTender l tag) ∧
    SameConfig s (s.openTender l tag) ∧ SameStores s (s.openTender l tag) ∧ SamePlans s (s.openTender l tag) ∧
    SameJobs s (s.openTender l tag) ∧ SameMechs s (s.openTender l tag) ∧ SameService s (s.openTender l tag) ∧
    SameLinks s (s.openTender l tag) ∧ SameEvents s (s.openTender l tag) ∧ (s.openTender l tag).writer = s.writer ∧
    (s.openTender l tag).scan = s.scan ∧ (s.openTender l tag).store = s.store ∧ SamePaths s (s.openTender l tag) := by
  simp [State.openTender]

@[simp] theorem State.unbind_keeps (s : State) (l : Lane) :
    SameQueue s (s.unbind l) ∧ SameClock s (s.unbind l) ∧ SameSupply s (s.unbind l) ∧ SameConfig s (s.unbind l) ∧
    SameStores s (s.unbind l) ∧ (s.unbind l).sales = s.sales ∧ (s.unbind l).escrows = s.escrows ∧
    SamePlans s (s.unbind l) ∧ SameJobs s (s.unbind l) ∧ SameMechs s (s.unbind l) ∧ SameService s (s.unbind l) ∧
    SameLinks s (s.unbind l) ∧ SameEvents s (s.unbind l) ∧ SameStore s (s.unbind l) ∧ SamePaths s (s.unbind l) := by
  simp [State.unbind]

@[simp] theorem State.closeTender_keeps (s : State) (l : Lane) (tag : Nat) :
    SameQueue s (s.closeTender l tag) ∧ SameClock s (s.closeTender l tag) ∧ SameSupply s (s.closeTender l tag) ∧
    SameConfig s (s.closeTender l tag) ∧ SameStores s (s.closeTender l tag) ∧ SamePlans s (s.closeTender l tag) ∧
    SameJobs s (s.closeTender l tag) ∧ SameMechs s (s.closeTender l tag) ∧ SameService s (s.closeTender l tag) ∧
    SameLinks s (s.closeTender l tag) ∧ SameEvents s (s.closeTender l tag) ∧
    (s.closeTender l tag).writer = s.writer ∧ (s.closeTender l tag).scan = s.scan ∧
    (s.closeTender l tag).store = s.store ∧ SamePaths s (s.closeTender l tag) := by
  simp only [State.closeTender]
  (repeat' split) <;> simp

@[simp] theorem State.beforeQuote_keeps (s : State) (l : Lane) (x : Sale) :
    SameQueue s (s.beforeQuote l x) ∧ SameClock s (s.beforeQuote l x) ∧ SameSupply s (s.beforeQuote l x) ∧
    SameConfig s (s.beforeQuote l x) ∧ SameStores s (s.beforeQuote l x) ∧
    (s.beforeQuote l x).planReqs = s.planReqs ∧ SameJobs s (s.beforeQuote l x) ∧ SameMechs s (s.beforeQuote l x) ∧
    SameService s (s.beforeQuote l x) ∧ SameLinks s (s.beforeQuote l x) ∧ SameEvents s (s.beforeQuote l x) ∧
    (s.beforeQuote l x).writer = s.writer ∧ (s.beforeQuote l x).scan = s.scan ∧
    (s.beforeQuote l x).store = s.store ∧ SamePaths s (s.beforeQuote l x) := by
  simp only [State.beforeQuote]
  (repeat' split) <;> simp

@[simp] theorem State.payOut_keeps (s : State) (l : Lane) (tag : Nat) (xs : List Share) (v : Nat) :
    SameQueue s (s.payOut l tag xs v) ∧ SameClock s (s.payOut l tag xs v) ∧ SameSupply s (s.payOut l tag xs v) ∧
    SameConfig s (s.payOut l tag xs v) ∧ (s.payOut l tag xs v).boxes = s.boxes ∧
    (s.payOut l tag xs v).serviceJobs = s.serviceJobs ∧ SameMechs s (s.payOut l tag xs v) ∧
    SameService s (s.payOut l tag xs v) ∧ SameLinks s (s.payOut l tag xs v) ∧ SameEvents s (s.payOut l tag xs v) ∧
    (s.payOut l tag xs v).writer = s.writer ∧ (s.payOut l tag xs v).scan = s.scan ∧
    (s.payOut l tag xs v).store = s.store ∧ SamePaths s (s.payOut l tag xs v) := by
  simp only [State.payOut]
  (repeat' split) <;> simp

@[simp] theorem State.beforeCancel_keeps (s : State) (l : Lane) (x : Sale) :
    SameQueue s (s.beforeCancel l x) ∧ SameClock s (s.beforeCancel l x) ∧ SameSupply s (s.beforeCancel l x) ∧
    SameConfig s (s.beforeCancel l x) ∧ SameStores s (s.beforeCancel l x) ∧
    (s.beforeCancel l x).escrows = s.escrows ∧ (s.beforeCancel l x).planReqs = s.planReqs ∧
    SameJobs s (s.beforeCancel l x) ∧ SameMechs s (s.beforeCancel l x) ∧ SameService s (s.beforeCancel l x) ∧
    SameLinks s (s.beforeCancel l x) ∧ SameEvents s (s.beforeCancel l x) ∧ SameStore s (s.beforeCancel l x) ∧
    SamePaths s (s.beforeCancel l x) := by
  simp only [State.beforeCancel]
  (repeat' split) <;> simp

@[simp] theorem State.returnStack_keeps (s : State) (l : Lane) (tag : Nat) :
    SameQueue s (s.returnStack l tag) ∧ SameClock s (s.returnStack l tag) ∧ SameSupply s (s.returnStack l tag) ∧
    SameConfig s (s.returnStack l tag) ∧ SameStores s (s.returnStack l tag) ∧ SamePlans s (s.returnStack l tag) ∧
    SameJobs s (s.returnStack l tag) ∧ SameMechs s (s.returnStack l tag) ∧ SameService s (s.returnStack l tag) ∧
    SameLinks s (s.returnStack l tag) ∧ (s.returnStack l tag).counters = s.counters ∧
    (s.returnStack l tag).writer = s.writer ∧ (s.returnStack l tag).scan = s.scan ∧
    (s.returnStack l tag).store = s.store ∧ SamePaths s (s.returnStack l tag) := by
  simp only [State.returnStack]
  (repeat' split) <;> simp

@[simp] theorem State.cancelTendered_keeps (s : State) (l : Lane) (x : Sale) :
    SameQueue s (s.cancelTendered l x) ∧ SameClock s (s.cancelTendered l x) ∧ SameSupply s (s.cancelTendered l x) ∧
    SameConfig s (s.cancelTendered l x) ∧ SameStores s (s.cancelTendered l x) ∧ SameJobs s (s.cancelTendered l x) ∧
    SameMechs s (s.cancelTendered l x) ∧ SameService s (s.cancelTendered l x) ∧
    SameLinks s (s.cancelTendered l x) ∧ (s.cancelTendered l x).counters = s.counters ∧
    (s.cancelTendered l x).writer = s.writer ∧ (s.cancelTendered l x).scan = s.scan ∧
    (s.cancelTendered l x).store = s.store ∧ SamePaths s (s.cancelTendered l x) := by
  simp only [State.cancelTendered]
  (repeat' split) <;> simp

@[simp] theorem State.releaseJobs_keeps (s : State) (js : List Job) :
    SameQueue s (s.releaseJobs js) ∧ SameClock s (s.releaseJobs js) ∧ SameSupply s (s.releaseJobs js) ∧
    SameConfig s (s.releaseJobs js) ∧ (s.releaseJobs js).boxes = s.boxes ∧ SameLanes s (s.releaseJobs js) ∧
    SamePlans s (s.releaseJobs js) ∧ SameJobs s (s.releaseJobs js) ∧ SameMechs s (s.releaseJobs js) ∧
    SameService s (s.releaseJobs js) ∧ SameLinks s (s.releaseJobs js) ∧ SameEvents s (s.releaseJobs js) ∧
    (s.releaseJobs js).writer = s.writer ∧ (s.releaseJobs js).scan = s.scan ∧ (s.releaseJobs js).store = s.store ∧
    SamePaths s (s.releaseJobs js) := by
  unfold State.releaseJobs
  induction js generalizing s with
  | nil => simp
  | cons j js ih =>
    simp only [List.foldl_cons]
    cases j.source with
    | unit u => simpa using ih (s.release u j.undone)
    | escrow l => simpa using ih s

@[simp] theorem State.stopJobs_keeps (s : State) (l : Lane) (tag : Nat) :
    SameQueue s (s.stopJobs l tag) ∧ SameClock s (s.stopJobs l tag) ∧ SameSupply s (s.stopJobs l tag) ∧
    SameConfig s (s.stopJobs l tag) ∧ (s.stopJobs l tag).boxes = s.boxes ∧ SameLanes s (s.stopJobs l tag) ∧
    SamePlans s (s.stopJobs l tag) ∧ (s.stopJobs l tag).serviceJobs = s.serviceJobs ∧
    (s.stopJobs l tag).stackJobs = s.stackJobs ∧ (s.stopJobs l tag).nextJob = s.nextJob ∧
    SameMechs s (s.stopJobs l tag) ∧ SameService s (s.stopJobs l tag) ∧ SameLinks s (s.stopJobs l tag) ∧
    SameEvents s (s.stopJobs l tag) ∧ (s.stopJobs l tag).writer = s.writer ∧ (s.stopJobs l tag).scan = s.scan ∧
    (s.stopJobs l tag).store = s.store ∧ SamePaths s (s.stopJobs l tag) := by
  simp [State.stopJobs]

@[simp] theorem State.orphanStack_keeps (s : State) (l : Lane) (x : Sale) :
    SameQueue s (s.orphanStack l x) ∧ SameClock s (s.orphanStack l x) ∧ SameSupply s (s.orphanStack l x) ∧
    SameConfig s (s.orphanStack l x) ∧ SameStores s (s.orphanStack l x) ∧ (s.orphanStack l x).lanes = s.lanes ∧
    (s.orphanStack l x).sales = s.sales ∧ SamePlans s (s.orphanStack l x) ∧ SameJobs s (s.orphanStack l x) ∧
    SameMechs s (s.orphanStack l x) ∧ SameService s (s.orphanStack l x) ∧ SameLinks s (s.orphanStack l x) ∧
    SameEvents s (s.orphanStack l x) ∧ (s.orphanStack l x).writer = s.writer ∧ (s.orphanStack l x).scan = s.scan ∧
    (s.orphanStack l x).store = s.store ∧ SamePaths s (s.orphanStack l x) := by
  simp only [State.orphanStack]
  (repeat' split) <;> simp

@[simp] theorem State.stopSale_keeps (s : State) (l : Lane) (x : Sale) :
    SameQueue s (s.stopSale l x) ∧ SameClock s (s.stopSale l x) ∧ SameSupply s (s.stopSale l x) ∧
    SameConfig s (s.stopSale l x) ∧ (s.stopSale l x).boxes = s.boxes ∧ (s.stopSale l x).lanes = s.lanes ∧
    (s.stopSale l x).reservations = s.reservations ∧ (s.stopSale l x).serviceJobs = s.serviceJobs ∧
    (s.stopSale l x).stackJobs = s.stackJobs ∧ (s.stopSale l x).nextJob = s.nextJob ∧
    SameMechs s (s.stopSale l x) ∧ SameService s (s.stopSale l x) ∧ SameLinks s (s.stopSale l x) ∧
    (s.stopSale l x).counters = s.counters ∧ (s.stopSale l x).writer = s.writer ∧ (s.stopSale l x).scan = s.scan ∧
    (s.stopSale l x).store = s.store ∧ SamePaths s (s.stopSale l x) := by
  simp [State.stopSale]

@[simp] theorem State.openLane_keeps (s : State) (l : Lane) :
    SameQueue s (s.openLane l) ∧ SameClock s (s.openLane l) ∧ SameSupply s (s.openLane l) ∧
    SameConfig s (s.openLane l) ∧ SameStores s (s.openLane l) ∧ (s.openLane l).sales = s.sales ∧
    (s.openLane l).escrows = s.escrows ∧ SamePlans s (s.openLane l) ∧ SameJobs s (s.openLane l) ∧
    SameMechs s (s.openLane l) ∧ SameService s (s.openLane l) ∧ SameLinks s (s.openLane l) ∧
    SameEvents s (s.openLane l) ∧ SameStore s (s.openLane l) ∧ SamePaths s (s.openLane l) := by
  simp [State.openLane]

@[simp] theorem State.cancelWaiting_keeps (s : State) (l : Lane) :
    SameQueue s (s.cancelWaiting l) ∧ SameClock s (s.cancelWaiting l) ∧ SameSupply s (s.cancelWaiting l) ∧
    SameConfig s (s.cancelWaiting l) ∧ SameStores s (s.cancelWaiting l) ∧ (s.cancelWaiting l).lanes = s.lanes ∧
    (s.cancelWaiting l).escrows = s.escrows ∧ SamePlans s (s.cancelWaiting l) ∧ SameJobs s (s.cancelWaiting l) ∧
    SameMechs s (s.cancelWaiting l) ∧ SameService s (s.cancelWaiting l) ∧ SameLinks s (s.cancelWaiting l) ∧
    (s.cancelWaiting l).counters = s.counters ∧ SameStore s (s.cancelWaiting l) ∧ SamePaths s (s.cancelWaiting l) := by
  unfold State.cancelWaiting
  generalize s.waitingTags l = tags
  induction tags generalizing s with
  | nil => simp
  | cons t ts ih => simpa using ih (s.finishSale l t .cancelled)

@[simp] theorem State.grantFloor_keeps (s : State) (l : Lane) :
    SameQueue s (s.grantFloor l) ∧ SameClock s (s.grantFloor l) ∧ SameSupply s (s.grantFloor l) ∧
    SameConfig s (s.grantFloor l) ∧ SameStores s (s.grantFloor l) ∧ SameLanes s (s.grantFloor l) ∧
    SamePlans s (s.grantFloor l) ∧ SameJobs s (s.grantFloor l) ∧ SameMechs s (s.grantFloor l) ∧
    SameService s (s.grantFloor l) ∧ SameLinks s (s.grantFloor l) ∧ (s.grantFloor l).counters = s.counters ∧
    SameStore s (s.grantFloor l) ∧ SamePaths s (s.grantFloor l) := by
  simp only [State.grantFloor]
  (repeat' split) <;> simp

@[simp] theorem State.closeLane_keeps (s : State) (l : Lane) :
    SameQueue s (s.closeLane l) ∧ SameClock s (s.closeLane l) ∧ SameSupply s (s.closeLane l) ∧
    SameConfig s (s.closeLane l) ∧ SameStores s (s.closeLane l) ∧ (s.closeLane l).escrows = s.escrows ∧
    SamePlans s (s.closeLane l) ∧ SameJobs s (s.closeLane l) ∧ SameMechs s (s.closeLane l) ∧
    SameService s (s.closeLane l) ∧ SameLinks s (s.closeLane l) ∧ (s.closeLane l).counters = s.counters ∧
    SameStore s (s.closeLane l) ∧ SamePaths s (s.closeLane l) := by
  simp [State.closeLane]

@[simp] theorem State.yieldFloor_keeps (s : State) (l : Lane) :
    SameQueue s (s.yieldFloor l) ∧ SameClock s (s.yieldFloor l) ∧ SameSupply s (s.yieldFloor l) ∧
    SameConfig s (s.yieldFloor l) ∧ SameStores s (s.yieldFloor l) ∧ (s.yieldFloor l).sales = s.sales ∧
    (s.yieldFloor l).escrows = s.escrows ∧ SamePlans s (s.yieldFloor l) ∧ SameJobs s (s.yieldFloor l) ∧
    SameMechs s (s.yieldFloor l) ∧ SameService s (s.yieldFloor l) ∧ SameLinks s (s.yieldFloor l) ∧
    (s.yieldFloor l).counters = s.counters ∧ SameStore s (s.yieldFloor l) ∧ SamePaths s (s.yieldFloor l) := by
  simp only [State.yieldFloor]
  (repeat' split) <;> simp

/-! ### Service (Machine/Service.lean) -/

@[simp] theorem State.writeSettings_keeps (s : State) (u : UnitId) (x : UnitSettings) :
    SameQueue s (s.writeSettings u x) ∧ SameClock s (s.writeSettings u x) ∧ SameSupply s (s.writeSettings u x) ∧
    SameConfig s (s.writeSettings u x) ∧ (s.writeSettings u x).boxes = s.boxes ∧
    SameLanes s (s.writeSettings u x) ∧ SamePlans s (s.writeSettings u x) ∧ SameJobs s (s.writeSettings u x) ∧
    SameMechs s (s.writeSettings u x) ∧ SameService s (s.writeSettings u x) ∧ SameLinks s (s.writeSettings u x) ∧
    SameEvents s (s.writeSettings u x) ∧ (s.writeSettings u x).writer = s.writer ∧
    (s.writeSettings u x).scan = s.scan ∧ (s.writeSettings u x).store = s.store ∧ SamePaths s (s.writeSettings u x) := by
  simp [State.writeSettings]

@[simp] theorem State.writeFloor_keeps (s : State) (l : Lane) (d : Slot) (n : Nat) :
    SameQueue s (s.writeFloor l d n) ∧ SameClock s (s.writeFloor l d n) ∧ SameSupply s (s.writeFloor l d n) ∧
    (s.writeFloor l d n).denoms = s.denoms ∧ (s.writeFloor l d n).limits = s.limits ∧
    SameStores s (s.writeFloor l d n) ∧ SameLanes s (s.writeFloor l d n) ∧ SamePlans s (s.writeFloor l d n) ∧
    SameJobs s (s.writeFloor l d n) ∧ SameMechs s (s.writeFloor l d n) ∧ SameService s (s.writeFloor l d n) ∧
    SameLinks s (s.writeFloor l d n) ∧ SameEvents s (s.writeFloor l d n) ∧ (s.writeFloor l d n).writer = s.writer ∧
    (s.writeFloor l d n).scan = s.scan ∧ (s.writeFloor l d n).store = s.store ∧ SamePaths s (s.writeFloor l d n) := by
  simp [State.writeFloor]

@[simp] theorem State.samplePauseByLimit_keeps (s : State) (l : Lane) :
    SameQueue s (s.samplePauseByLimit l) ∧ SameClock s (s.samplePauseByLimit l) ∧
    SameSupply s (s.samplePauseByLimit l) ∧ SameConfig s (s.samplePauseByLimit l) ∧
    SameStores s (s.samplePauseByLimit l) ∧ SameLanes s (s.samplePauseByLimit l) ∧
    SamePlans s (s.samplePauseByLimit l) ∧ SameJobs s (s.samplePauseByLimit l) ∧
    SameMechs s (s.samplePauseByLimit l) ∧ SameService s (s.samplePauseByLimit l) ∧
    SameLinks s (s.samplePauseByLimit l) ∧ SameStore s (s.samplePauseByLimit l) ∧
    SamePaths s (s.samplePauseByLimit l) := by
  simp [State.samplePauseByLimit]

@[simp] theorem State.writeCupLimit_keeps (s : State) (v : Nat) :
    SameQueue s (s.writeCupLimit v) ∧ SameClock s (s.writeCupLimit v) ∧ SameSupply s (s.writeCupLimit v) ∧
    (s.writeCupLimit v).denoms = s.denoms ∧ (s.writeCupLimit v).floors = s.floors ∧
    SameStores s (s.writeCupLimit v) ∧ (s.writeCupLimit v).sales = s.sales ∧
    (s.writeCupLimit v).escrows = s.escrows ∧ SamePlans s (s.writeCupLimit v) ∧ SameJobs s (s.writeCupLimit v) ∧
    SameMechs s (s.writeCupLimit v) ∧ SameService s (s.writeCupLimit v) ∧ SameLinks s (s.writeCupLimit v) ∧
    SameStore s (s.writeCupLimit v) ∧ SamePaths s (s.writeCupLimit v) := by
  simp only [State.writeCupLimit]
  (repeat' split) <;> simp

@[simp] theorem State.writeOutletLimit_keeps (s : State) (v : Nat) :
    SameQueue s (s.writeOutletLimit v) ∧ SameClock s (s.writeOutletLimit v) ∧ SameSupply s (s.writeOutletLimit v) ∧
    (s.writeOutletLimit v).denoms = s.denoms ∧ (s.writeOutletLimit v).floors = s.floors ∧
    SameStores s (s.writeOutletLimit v) ∧ (s.writeOutletLimit v).sales = s.sales ∧
    (s.writeOutletLimit v).escrows = s.escrows ∧ SamePlans s (s.writeOutletLimit v) ∧
    SameJobs s (s.writeOutletLimit v) ∧ SameMechs s (s.writeOutletLimit v) ∧ SameService s (s.writeOutletLimit v) ∧
    SameLinks s (s.writeOutletLimit v) ∧ SameStore s (s.writeOutletLimit v) ∧ SamePaths s (s.writeOutletLimit v) := by
  simp only [State.writeOutletLimit]
  (repeat' split) <;> simp

@[simp] theorem State.writeSetting_keeps (s : State) (x : Setting) (v : Nat) :
    SameQueue s (s.writeSetting x v) ∧ SameClock s (s.writeSetting x v) ∧ SameSupply s (s.writeSetting x v) ∧
    (s.writeSetting x v).denoms = s.denoms ∧ (s.writeSetting x v).floors = s.floors ∧
    (s.writeSetting x v).units = s.units ∧ (s.writeSetting x v).sales = s.sales ∧
    (s.writeSetting x v).escrows = s.escrows ∧ SamePlans s (s.writeSetting x v) ∧ SameJobs s (s.writeSetting x v) ∧
    SameMechs s (s.writeSetting x v) ∧ SameService s (s.writeSetting x v) ∧ SameLinks s (s.writeSetting x v) ∧
    SameStore s (s.writeSetting x v) ∧ SamePaths s (s.writeSetting x v) := by
  cases x <;> simp [State.writeSetting]

@[simp] theorem State.audit_keeps (s : State) (u : UnitId) (n : Nat) :
    SameQueue s (s.audit u n) ∧ SameClock s (s.audit u n) ∧ SameSupply s (s.audit u n) ∧
    SameConfig s (s.audit u n) ∧ (s.audit u n).boxes = s.boxes ∧ SameLanes s (s.audit u n) ∧
    SamePlans s (s.audit u n) ∧ SameJobs s (s.audit u n) ∧ SameMechs s (s.audit u n) ∧
    SameService s (s.audit u n) ∧ SameLinks s (s.audit u n) ∧ SameEvents s (s.audit u n) ∧
    (s.audit u n).writer = s.writer ∧ (s.audit u n).scan = s.scan ∧ (s.audit u n).store = s.store ∧
    SamePaths s (s.audit u n) := by
  simp [State.audit]

@[simp] theorem State.beginFloatIn_keeps (s : State) (l : Lane) :
    SameQueue s (s.beginFloatIn l) ∧ SameClock s (s.beginFloatIn l) ∧ SameSupply s (s.beginFloatIn l) ∧
    SameConfig s (s.beginFloatIn l) ∧ SameStores s (s.beginFloatIn l) ∧ (s.beginFloatIn l).sales = s.sales ∧
    SamePlans s (s.beginFloatIn l) ∧ SameJobs s (s.beginFloatIn l) ∧ SameMechs s (s.beginFloatIn l) ∧
    (s.beginFloatIn l).transfers = s.transfers ∧ SameLinks s (s.beginFloatIn l) ∧ SameEvents s (s.beginFloatIn l) ∧
    (s.beginFloatIn l).writer = s.writer ∧ (s.beginFloatIn l).scan = s.scan ∧ (s.beginFloatIn l).store = s.store ∧
    SamePaths s (s.beginFloatIn l) := by
  simp [State.beginFloatIn]

@[simp] theorem State.endFloatIn_keeps (s : State) (l : Lane) :
    SameQueue s (s.endFloatIn l) ∧ SameClock s (s.endFloatIn l) ∧ SameSupply s (s.endFloatIn l) ∧
    SameConfig s (s.endFloatIn l) ∧ SameStores s (s.endFloatIn l) ∧ (s.endFloatIn l).sales = s.sales ∧
    SamePlans s (s.endFloatIn l) ∧ SameJobs s (s.endFloatIn l) ∧ SameMechs s (s.endFloatIn l) ∧
    SameService s (s.endFloatIn l) ∧ SameLinks s (s.endFloatIn l) ∧ SameEvents s (s.endFloatIn l) ∧
    (s.endFloatIn l).writer = s.writer ∧ (s.endFloatIn l).scan = s.scan ∧ (s.endFloatIn l).store = s.store ∧
    SamePaths s (s.endFloatIn l) := by
  simp only [State.endFloatIn]
  (repeat' split) <;> simp

@[simp] theorem State.makeReady_keeps (s : State) (k : Kind) :
    SameQueue s (s.makeReady k) ∧ SameClock s (s.makeReady k) ∧ SameSupply s (s.makeReady k) ∧
    SameConfig s (s.makeReady k) ∧ SameStores s (s.makeReady k) ∧ SameLanes s (s.makeReady k) ∧
    SamePlans s (s.makeReady k) ∧ SameJobs s (s.makeReady k) ∧ (s.makeReady k).turns = s.turns ∧ (s.makeReady k).retest = s.retest ∧
    SameService s (s.makeReady k) ∧ SameLinks s (s.makeReady k) ∧ SameEvents s (s.makeReady k) ∧
    SameStore s (s.makeReady k) ∧ SamePaths s (s.makeReady k) := by
  simp [State.makeReady]

@[simp] theorem State.keepForSale_keeps (s : State) (l : Lane) (tag v : Nat) :
    SameQueue s (s.keepForSale l tag v) ∧ SameClock s (s.keepForSale l tag v) ∧
    SameSupply s (s.keepForSale l tag v) ∧ SameConfig s (s.keepForSale l tag v) ∧
    SameStores s (s.keepForSale l tag v) ∧ (s.keepForSale l tag v).lanes = s.lanes ∧
    (s.keepForSale l tag v).escrows = s.escrows ∧ (s.keepForSale l tag v).reservations = s.reservations ∧
    SameJobs s (s.keepForSale l tag v) ∧ SameMechs s (s.keepForSale l tag v) ∧
    SameService s (s.keepForSale l tag v) ∧ SameLinks s (s.keepForSale l tag v) ∧
    (s.keepForSale l tag v).counters = s.counters ∧ SameStore s (s.keepForSale l tag v) ∧
    SamePaths s (s.keepForSale l tag v) := by
  simp only [State.keepForSale]
  (repeat' split) <;> simp

@[simp] theorem State.keepStack_keeps (s : State) (l : Lane) :
    SameQueue s (s.keepStack l) ∧ SameClock s (s.keepStack l) ∧ SameSupply s (s.keepStack l) ∧
    SameConfig s (s.keepStack l) ∧ SameStores s (s.keepStack l) ∧ (s.keepStack l).lanes = s.lanes ∧
    (s.keepStack l).sales = s.sales ∧ SamePlans s (s.keepStack l) ∧ (s.keepStack l).laneJobs = s.laneJobs ∧
    (s.keepStack l).serviceJobs = s.serviceJobs ∧ SameMechs s (s.keepStack l) ∧ SameService s (s.keepStack l) ∧
    SameLinks s (s.keepStack l) ∧ SameEvents s (s.keepStack l) ∧ (s.keepStack l).writer = s.writer ∧
    (s.keepStack l).scan = s.scan ∧ (s.keepStack l).store = s.store ∧ SamePaths s (s.keepStack l) := by
  simp only [State.keepStack]
  (repeat' split) <;> simp

@[simp] theorem State.keepEscrow_keeps (s : State) (l : Lane) :
    SameQueue s (s.keepEscrow l) ∧ SameClock s (s.keepEscrow l) ∧ SameSupply s (s.keepEscrow l) ∧
    SameConfig s (s.keepEscrow l) ∧ SameStores s (s.keepEscrow l) ∧ (s.keepEscrow l).lanes = s.lanes ∧
    (s.keepEscrow l).reservations = s.reservations ∧ (s.keepEscrow l).laneJobs = s.laneJobs ∧
    (s.keepEscrow l).serviceJobs = s.serviceJobs ∧ SameMechs s (s.keepEscrow l) ∧ SameService s (s.keepEscrow l) ∧
    SameLinks s (s.keepEscrow l) ∧ (s.keepEscrow l).counters = s.counters ∧ (s.keepEscrow l).writer = s.writer ∧
    (s.keepEscrow l).scan = s.scan ∧ (s.keepEscrow l).store = s.store ∧ SamePaths s (s.keepEscrow l) := by
  simp only [State.keepEscrow]
  (repeat' split) <;> simp

@[simp] theorem State.clearBox_keeps (s : State) (k : Kind) :
    SameQueue s (s.clearBox k) ∧ SameClock s (s.clearBox k) ∧ SameSupply s (s.clearBox k) ∧
    SameConfig s (s.clearBox k) ∧ (s.clearBox k).units = s.units ∧ SameLanes s (s.clearBox k) ∧
    SamePlans s (s.clearBox k) ∧ SameJobs s (s.clearBox k) ∧ SameMechs s (s.clearBox k) ∧
    SameService s (s.clearBox k) ∧ SameLinks s (s.clearBox k) ∧ SameEvents s (s.clearBox k) ∧
    (s.clearBox k).writer = s.writer ∧ (s.clearBox k).scan = s.scan ∧ (s.clearBox k).store = s.store ∧
    SamePaths s (s.clearBox k) := by
  simp [State.clearBox]

@[simp] theorem State.startCounter_keeps (s : State) (n : Fin 8) (x : Select) :
    SameQueue s (s.startCounter n x) ∧ SameClock s (s.startCounter n x) ∧ SameSupply s (s.startCounter n x) ∧
    SameConfig s (s.startCounter n x) ∧ SameStores s (s.startCounter n x) ∧ SameLanes s (s.startCounter n x) ∧
    SamePlans s (s.startCounter n x) ∧ SameJobs s (s.startCounter n x) ∧ SameMechs s (s.startCounter n x) ∧
    SameService s (s.startCounter n x) ∧ SameLinks s (s.startCounter n x) ∧
    (s.startCounter n x).events = s.events ∧ (s.startCounter n x).writer = s.writer ∧
    (s.startCounter n x).scan = s.scan ∧ (s.startCounter n x).store = s.store ∧ SamePaths s (s.startCounter n x) := by
  simp [State.startCounter]

/-! ### Reports (Machine/Reports.lean) -/

@[simp] theorem State.sampleToCashbox_keeps (s : State) (x : SampleLane) (d : Slot) :
    SameQueue s (s.sampleToCashbox x d) ∧ SameClock s (s.sampleToCashbox x d) ∧
    SameSupply s (s.sampleToCashbox x d) ∧ SameConfig s (s.sampleToCashbox x d) ∧
    SameStores s (s.sampleToCashbox x d) ∧ SameLanes s (s.sampleToCashbox x d) ∧
    SamePlans s (s.sampleToCashbox x d) ∧ SameJobs s (s.sampleToCashbox x d) ∧
    SameMechs s (s.sampleToCashbox x d) ∧ SameService s (s.sampleToCashbox x d) ∧
    SameLinks s (s.sampleToCashbox x d) ∧ SameStore s (s.sampleToCashbox x d) ∧ SamePaths s (s.sampleToCashbox x d) := by
  simp [State.sampleToCashbox]

@[simp] theorem State.samplePieceIn_keeps (s : State) (l : Lane) (d : Slot) :
    SameQueue s (s.samplePieceIn l d) ∧ SameClock s (s.samplePieceIn l d) ∧ SameSupply s (s.samplePieceIn l d) ∧
    SameConfig s (s.samplePieceIn l d) ∧ SameStores s (s.samplePieceIn l d) ∧ SameLanes s (s.samplePieceIn l d) ∧
    SamePlans s (s.samplePieceIn l d) ∧ SameJobs s (s.samplePieceIn l d) ∧ SameMechs s (s.samplePieceIn l d) ∧
    SameService s (s.samplePieceIn l d) ∧ SameLinks s (s.samplePieceIn l d) ∧ SameStore s (s.samplePieceIn l d) ∧
    SamePaths s (s.samplePieceIn l d) := by
  simp [State.samplePieceIn]

@[simp] theorem State.storePiece_keeps (s : State) (k : Kind) (l : Lane) (d : Slot) (x : Store) :
    SameQueue s (s.storePiece k l d x) ∧ SameClock s (s.storePiece k l d x) ∧ SameSupply s (s.storePiece k l d x) ∧
    SameConfig s (s.storePiece k l d x) ∧ SameLanes s (s.storePiece k l d x) ∧ SamePlans s (s.storePiece k l d x) ∧
    SameJobs s (s.storePiece k l d x) ∧ SameMechs s (s.storePiece k l d x) ∧ SameService s (s.storePiece k l d x) ∧
    SameLinks s (s.storePiece k l d x) ∧ (s.storePiece k l d x).writer = s.writer ∧
    (s.storePiece k l d x).scan = s.scan ∧ (s.storePiece k l d x).store = s.store ∧
    SamePaths s (s.storePiece k l d x) := by
  cases x <;> simp [State.storePiece]

@[simp] theorem State.tallyPiece_keeps (s : State) (l : Lane) (d : Slot) :
    SameQueue s (s.tallyPiece l d) ∧ SameClock s (s.tallyPiece l d) ∧ SameSupply s (s.tallyPiece l d) ∧
    SameConfig s (s.tallyPiece l d) ∧ SameStores s (s.tallyPiece l d) ∧ SameLanes s (s.tallyPiece l d) ∧
    SamePlans s (s.tallyPiece l d) ∧ SameJobs s (s.tallyPiece l d) ∧ SameMechs s (s.tallyPiece l d) ∧
    (s.tallyPiece l d).transfers = s.transfers ∧ SameLinks s (s.tallyPiece l d) ∧ SameEvents s (s.tallyPiece l d) ∧
    SameStore s (s.tallyPiece l d) ∧ SamePaths s (s.tallyPiece l d) := by
  simp [State.tallyPiece]

@[simp] theorem State.creditCoin_keeps (s : State) (l : Lane) (d : Slot) :
    SameQueue s (s.creditCoin l d) ∧ SameClock s (s.creditCoin l d) ∧ SameSupply s (s.creditCoin l d) ∧
    SameConfig s (s.creditCoin l d) ∧ SameStores s (s.creditCoin l d) ∧ (s.creditCoin l d).escrows = s.escrows ∧
    SamePlans s (s.creditCoin l d) ∧ SameJobs s (s.creditCoin l d) ∧ SameMechs s (s.creditCoin l d) ∧
    (s.creditCoin l d).transfers = s.transfers ∧ SameLinks s (s.creditCoin l d) ∧
    (s.creditCoin l d).counters = s.counters ∧ SameStore s (s.creditCoin l d) ∧ SamePaths s (s.creditCoin l d) := by
  simp only [State.creditCoin]
  (repeat' split) <;> simp

@[simp] theorem State.takeCoin_keeps (s : State) (l : Lane) (d : Slot) :
    SameQueue s (s.takeCoin l d) ∧ SameClock s (s.takeCoin l d) ∧ SameSupply s (s.takeCoin l d) ∧
    SameConfig s (s.takeCoin l d) ∧ (s.takeCoin l d).escrows = s.escrows ∧ SamePlans s (s.takeCoin l d) ∧
    SameJobs s (s.takeCoin l d) ∧ SameMechs s (s.takeCoin l d) ∧ (s.takeCoin l d).transfers = s.transfers ∧
    SameLinks s (s.takeCoin l d) ∧ (s.takeCoin l d).writer = s.writer ∧ (s.takeCoin l d).scan = s.scan ∧
    (s.takeCoin l d).store = s.store := by
  simp only [State.takeCoin]
  (repeat' split) <;> simp

@[simp] theorem State.pushNote_keeps (s : State) (l : Lane) (d : Slot) (c : Credit) :
    SameQueue s (s.pushNote l d c) ∧ SameClock s (s.pushNote l d c) ∧ SameSupply s (s.pushNote l d c) ∧
    SameConfig s (s.pushNote l d c) ∧ SameStores s (s.pushNote l d c) ∧ (s.pushNote l d c).lanes = s.lanes ∧
    (s.pushNote l d c).sales = s.sales ∧ SamePlans s (s.pushNote l d c) ∧ SameJobs s (s.pushNote l d c) ∧
    SameMechs s (s.pushNote l d c) ∧ SameService s (s.pushNote l d c) ∧ SameLinks s (s.pushNote l d c) ∧
    SameEvents s (s.pushNote l d c) ∧ (s.pushNote l d c).writer = s.writer ∧ (s.pushNote l d c).scan = s.scan ∧
    (s.pushNote l d c).store = s.store ∧ SamePaths s (s.pushNote l d c) := by
  simp [State.pushNote]

@[simp] theorem State.joinStackDown_keeps (s : State) (l : Lane) :
    SameQueue s (s.joinStackDown l) ∧ SameClock s (s.joinStackDown l) ∧ SameSupply s (s.joinStackDown l) ∧
    SameConfig s (s.joinStackDown l) ∧ SameStores s (s.joinStackDown l) ∧ SameLanes s (s.joinStackDown l) ∧
    SamePlans s (s.joinStackDown l) ∧ SameMechs s (s.joinStackDown l) ∧ SameService s (s.joinStackDown l) ∧
    SameLinks s (s.joinStackDown l) ∧ SameEvents s (s.joinStackDown l) ∧ SameStore s (s.joinStackDown l) ∧
    SamePaths s (s.joinStackDown l) := by
  simp only [State.joinStackDown]
  (repeat' split) <;> simp

@[simp] theorem State.takeNote_keeps (s : State) (l : Lane) (d : Slot) :
    SameQueue s (s.takeNote l d) ∧ SameClock s (s.takeNote l d) ∧ SameSupply s (s.takeNote l d) ∧
    SameConfig s (s.takeNote l d) ∧ SameStores s (s.takeNote l d) ∧ SamePlans s (s.takeNote l d) ∧
    SameMechs s (s.takeNote l d) ∧ (s.takeNote l d).transfers = s.transfers ∧ SameLinks s (s.takeNote l d) ∧
    (s.takeNote l d).counters = s.counters ∧ (s.takeNote l d).writer = s.writer ∧ (s.takeNote l d).scan = s.scan ∧
    (s.takeNote l d).store = s.store ∧ SamePaths s (s.takeNote l d) := by
  simp only [State.takeNote]
  (repeat' split) <;> simp

@[simp] theorem State.setPhase_keeps (s : State) (k : Kind) (x : Phase) :
    SameQueue s (s.setPhase k x) ∧ SameClock s (s.setPhase k x) ∧ SameSupply s (s.setPhase k x) ∧
    SameConfig s (s.setPhase k x) ∧ SameStores s (s.setPhase k x) ∧ SameLanes s (s.setPhase k x) ∧
    SamePlans s (s.setPhase k x) ∧ SameJobs s (s.setPhase k x) ∧ (s.setPhase k x).turns = s.turns ∧ (s.setPhase k x).retest = s.retest ∧
    SameService s (s.setPhase k x) ∧ SameLinks s (s.setPhase k x) ∧ SameEvents s (s.setPhase k x) ∧
    SameStore s (s.setPhase k x) ∧ SamePaths s (s.setPhase k x) := by
  simp [State.setPhase]

@[simp] theorem State.landJob_keeps (s : State) (n : Nat) :
    SameQueue s (s.landJob n) ∧ SameClock s (s.landJob n) ∧ SameSupply s (s.landJob n) ∧
    SameConfig s (s.landJob n) ∧ SameStores s (s.landJob n) ∧ SameLanes s (s.landJob n) ∧
    SamePlans s (s.landJob n) ∧ (s.landJob n).nextJob = s.nextJob ∧ SameMechs s (s.landJob n) ∧
    SameService s (s.landJob n) ∧ SameLinks s (s.landJob n) ∧ SameEvents s (s.landJob n) ∧
    SameStore s (s.landJob n) ∧ SamePaths s (s.landJob n) := by
  simp [State.landJob]

@[simp] theorem State.endEjection_keeps (s : State) (k : Kind) (e : Ejection) (x : Phase) :
    SameQueue s (s.endEjection k e x) ∧ SameClock s (s.endEjection k e x) ∧ SameSupply s (s.endEjection k e x) ∧
    SameConfig s (s.endEjection k e x) ∧ SameStores s (s.endEjection k e x) ∧ SameLanes s (s.endEjection k e x) ∧
    SamePlans s (s.endEjection k e x) ∧ (s.endEjection k e x).nextJob = s.nextJob ∧
    (s.endEjection k e x).turns = s.turns ∧ (s.endEjection k e x).retest = s.retest ∧
    SameService s (s.endEjection k e x) ∧
    SameLinks s (s.endEjection k e x) ∧ SameEvents s (s.endEjection k e x) ∧ SameStore s (s.endEjection k e x) ∧
    SamePaths s (s.endEjection k e x) := by
  simp [State.endEjection]

@[simp] theorem State.removeStopped_keeps (s : State) (j : Job) (u : UnitId) :
    SameQueue s (s.removeStopped j u) ∧ SameClock s (s.removeStopped j u) ∧ SameSupply s (s.removeStopped j u) ∧
    SameConfig s (s.removeStopped j u) ∧ (s.removeStopped j u).boxes = s.boxes ∧
    SameLanes s (s.removeStopped j u) ∧ SamePlans s (s.removeStopped j u) ∧
    (s.removeStopped j u).nextJob = s.nextJob ∧ SameMechs s (s.removeStopped j u) ∧
    SameService s (s.removeStopped j u) ∧ SameLinks s (s.removeStopped j u) ∧ SameEvents s (s.removeStopped j u) ∧
    (s.removeStopped j u).writer = s.writer ∧ (s.removeStopped j u).scan = s.scan ∧
    (s.removeStopped j u).store = s.store ∧ SamePaths s (s.removeStopped j u) := by
  simp [State.removeStopped]

@[simp] theorem State.samplePause_keeps (s : State) (l : Lane) (m : Mask12) :
    SameQueue s (s.samplePause l m) ∧ SameClock s (s.samplePause l m) ∧ SameSupply s (s.samplePause l m) ∧
    SameConfig s (s.samplePause l m) ∧ SameStores s (s.samplePause l m) ∧ SameLanes s (s.samplePause l m) ∧
    SamePlans s (s.samplePause l m) ∧ SameJobs s (s.samplePause l m) ∧ SameMechs s (s.samplePause l m) ∧
    SameService s (s.samplePause l m) ∧ SameLinks s (s.samplePause l m) ∧ SameStore s (s.samplePause l m) ∧
    SamePaths s (s.samplePause l m) := by
  simp [State.samplePause]

@[simp] theorem State.bump_keeps (s : State) (x : Dest) (m : Mask12) :
    SameQueue s (s.bump x m) ∧ SameClock s (s.bump x m) ∧ SameSupply s (s.bump x m) ∧ SameConfig s (s.bump x m) ∧
    SameStores s (s.bump x m) ∧ (s.bump x m).sales = s.sales ∧ (s.bump x m).escrows = s.escrows ∧
    SamePlans s (s.bump x m) ∧ SameJobs s (s.bump x m) ∧ SameMechs s (s.bump x m) ∧ SameService s (s.bump x m) ∧
    SameLinks s (s.bump x m) ∧ SameStore s (s.bump x m) ∧ SamePaths s (s.bump x m) := by
  cases x <;> simp only [State.bump] <;> (repeat' split) <;> simp

@[simp] theorem State.payPiece_keeps (s : State) (l : Lane) (tag : Nat) (b : Bool) (v w : Nat) :
    SameQueue s (s.payPiece l tag b v w) ∧ SameClock s (s.payPiece l tag b v w) ∧
    SameSupply s (s.payPiece l tag b v w) ∧ SameConfig s (s.payPiece l tag b v w) ∧
    SameStores s (s.payPiece l tag b v w) ∧ (s.payPiece l tag b v w).lanes = s.lanes ∧
    (s.payPiece l tag b v w).escrows = s.escrows ∧ SamePlans s (s.payPiece l tag b v w) ∧
    SameJobs s (s.payPiece l tag b v w) ∧ SameMechs s (s.payPiece l tag b v w) ∧
    SameService s (s.payPiece l tag b v w) ∧ SameLinks s (s.payPiece l tag b v w) ∧
    SameEvents s (s.payPiece l tag b v w) ∧ SameStore s (s.payPiece l tag b v w) ∧
    SamePaths s (s.payPiece l tag b v w) := by
  simp [State.payPiece]

@[simp] theorem State.moveToCashbox_keeps (s : State) (u : UnitId) :
    SameQueue s (s.moveToCashbox u) ∧ SameClock s (s.moveToCashbox u) ∧ SameSupply s (s.moveToCashbox u) ∧
    SameConfig s (s.moveToCashbox u) ∧ (s.moveToCashbox u).units = s.units ∧ SameLanes s (s.moveToCashbox u) ∧
    SamePlans s (s.moveToCashbox u) ∧ SameJobs s (s.moveToCashbox u) ∧ SameMechs s (s.moveToCashbox u) ∧
    (s.moveToCashbox u).tallies = s.tallies ∧ SameLinks s (s.moveToCashbox u) ∧
    (s.moveToCashbox u).writer = s.writer ∧ (s.moveToCashbox u).scan = s.scan ∧
    (s.moveToCashbox u).store = s.store ∧ SamePaths s (s.moveToCashbox u) := by
  simp only [State.moveToCashbox]
  (repeat' split) <;> simp

@[simp] theorem State.deliver_keeps (s : State) (j : Job) (u : UnitId) (v : Nat) :
    SameQueue s (s.deliver j u v) ∧ SameClock s (s.deliver j u v) ∧ SameSupply s (s.deliver j u v) ∧
    SameConfig s (s.deliver j u v) ∧ (s.deliver j u v).units = s.units ∧ (s.deliver j u v).escrows = s.escrows ∧
    SamePlans s (s.deliver j u v) ∧ SameJobs s (s.deliver j u v) ∧ SameMechs s (s.deliver j u v) ∧
    (s.deliver j u v).tallies = s.tallies ∧ SameLinks s (s.deliver j u v) ∧ (s.deliver j u v).writer = s.writer ∧
    (s.deliver j u v).scan = s.scan ∧ (s.deliver j u v).store = s.store ∧ SamePaths s (s.deliver j u v) := by
  simp only [State.deliver]
  (repeat' split) <;> simp

@[simp] theorem State.countPiece_keeps (s : State) (j : Job) (u : UnitId) :
    SameQueue s (s.countPiece j u) ∧ SameClock s (s.countPiece j u) ∧ SameSupply s (s.countPiece j u) ∧
    SameConfig s (s.countPiece j u) ∧ (s.countPiece j u).escrows = s.escrows ∧ SamePlans s (s.countPiece j u) ∧
    (s.countPiece j u).nextJob = s.nextJob ∧ SameMechs s (s.countPiece j u) ∧
    (s.countPiece j u).tallies = s.tallies ∧ SameLinks s (s.countPiece j u) ∧
    (s.countPiece j u).writer = s.writer ∧ (s.countPiece j u).scan = s.scan ∧ (s.countPiece j u).store = s.store ∧
    SamePaths s (s.countPiece j u) := by
  simp [State.countPiece]

@[simp] theorem State.countExtra_keeps (s : State) (j : Job) (u : UnitId) :
    SameQueue s (s.countExtra j u) ∧ SameClock s (s.countExtra j u) ∧ SameSupply s (s.countExtra j u) ∧
    SameConfig s (s.countExtra j u) ∧ (s.countExtra j u).escrows = s.escrows ∧ SamePlans s (s.countExtra j u) ∧
    SameJobs s (s.countExtra j u) ∧ SameMechs s (s.countExtra j u) ∧ (s.countExtra j u).tallies = s.tallies ∧
    SameLinks s (s.countExtra j u) ∧ (s.countExtra j u).writer = s.writer ∧ (s.countExtra j u).scan = s.scan ∧
    (s.countExtra j u).store = s.store ∧ SamePaths s (s.countExtra j u) := by
  simp [State.countExtra]

@[simp] theorem State.sampleDepth_keeps (s : State) (o : Origin) :
    SameQueue s (s.sampleDepth o) ∧ SameClock s (s.sampleDepth o) ∧ SameSupply s (s.sampleDepth o) ∧
    SameConfig s (s.sampleDepth o) ∧ SameStores s (s.sampleDepth o) ∧ SameLanes s (s.sampleDepth o) ∧
    SamePlans s (s.sampleDepth o) ∧ SameJobs s (s.sampleDepth o) ∧ SameMechs s (s.sampleDepth o) ∧
    SameService s (s.sampleDepth o) ∧ SameLinks s (s.sampleDepth o) ∧ SameStore s (s.sampleDepth o) ∧
    SamePaths s (s.sampleDepth o) := by
  simp [State.sampleDepth]

@[simp] theorem State.endTransferOf_keeps (s : State) (j : Job) (u : UnitId) (x : TransferEnd) :
    SameQueue s (s.endTransferOf j u x) ∧ SameClock s (s.endTransferOf j u x) ∧
    SameSupply s (s.endTransferOf j u x) ∧ SameConfig s (s.endTransferOf j u x) ∧
    SameStores s (s.endTransferOf j u x) ∧ SameLanes s (s.endTransferOf j u x) ∧
    SamePlans s (s.endTransferOf j u x) ∧ SameJobs s (s.endTransferOf j u x) ∧
    SameMechs s (s.endTransferOf j u x) ∧ (s.endTransferOf j u x).tallies = s.tallies ∧
    SameLinks s (s.endTransferOf j u x) ∧ (s.endTransferOf j u x).counters = s.counters ∧
    SameStore s (s.endTransferOf j u x) ∧ SamePaths s (s.endTransferOf j u x) := by
  simp only [State.endTransferOf]
  (repeat' split) <;> simp

@[simp] theorem State.closeJob_keeps (s : State) (j : Job) (u : UnitId) :
    SameQueue s (s.closeJob j u) ∧ SameClock s (s.closeJob j u) ∧ SameSupply s (s.closeJob j u) ∧
    SameConfig s (s.closeJob j u) ∧ (s.closeJob j u).boxes = s.boxes ∧ SameLanes s (s.closeJob j u) ∧
    SamePlans s (s.closeJob j u) ∧ (s.closeJob j u).nextJob = s.nextJob ∧ SameMechs s (s.closeJob j u) ∧
    (s.closeJob j u).tallies = s.tallies ∧ SameLinks s (s.closeJob j u) ∧ (s.closeJob j u).writer = s.writer ∧
    (s.closeJob j u).scan = s.scan ∧ (s.closeJob j u).store = s.store ∧ SamePaths s (s.closeJob j u) := by
  simp only [State.closeJob]
  (repeat' split) <;> simp

@[simp] theorem State.shortenJob_keeps (s : State) (j : Job) (u : UnitId) :
    SameQueue s (s.shortenJob j u) ∧ SameClock s (s.shortenJob j u) ∧ SameSupply s (s.shortenJob j u) ∧
    SameConfig s (s.shortenJob j u) ∧ (s.shortenJob j u).boxes = s.boxes ∧ SameLanes s (s.shortenJob j u) ∧
    (s.shortenJob j u).reservations = s.reservations ∧ (s.shortenJob j u).nextJob = s.nextJob ∧
    SameMechs s (s.shortenJob j u) ∧ (s.shortenJob j u).tallies = s.tallies ∧ SameLinks s (s.shortenJob j u) ∧
    (s.shortenJob j u).counters = s.counters ∧ (s.shortenJob j u).writer = s.writer ∧
    (s.shortenJob j u).scan = s.scan ∧ (s.shortenJob j u).store = s.store ∧ SamePaths s (s.shortenJob j u) := by
  simp only [State.shortenJob]
  (repeat' split) <;> simp

@[simp] theorem State.shorten_keeps (s : State) (u : UnitId) :
    SameQueue s (s.shorten u) ∧ SameClock s (s.shorten u) ∧ SameSupply s (s.shorten u) ∧
    SameConfig s (s.shorten u) ∧ (s.shorten u).boxes = s.boxes ∧ SameLanes s (s.shorten u) ∧
    (s.shorten u).reservations = s.reservations ∧ (s.shorten u).nextJob = s.nextJob ∧ SameMechs s (s.shorten u) ∧
    (s.shorten u).tallies = s.tallies ∧ SameLinks s (s.shorten u) ∧ (s.shorten u).counters = s.counters ∧
    (s.shorten u).writer = s.writer ∧ (s.shorten u).scan = s.scan ∧ (s.shorten u).store = s.store ∧
    SamePaths s (s.shorten u) := by
  simp only [State.shorten]
  (repeat' split) <;> simp

@[simp] theorem State.settleJob_keeps (s : State) (j : Job) :
    SameQueue s (s.settleJob j) ∧ SameClock s (s.settleJob j) ∧ SameSupply s (s.settleJob j) ∧
    SameConfig s (s.settleJob j) ∧ SameStores s (s.settleJob j) ∧ (s.settleJob j).lanes = s.lanes ∧
    (s.settleJob j).escrows = s.escrows ∧ SamePlans s (s.settleJob j) ∧ SameJobs s (s.settleJob j) ∧
    SameMechs s (s.settleJob j) ∧ SameService s (s.settleJob j) ∧ SameLinks s (s.settleJob j) ∧
    (s.settleJob j).counters = s.counters ∧ SameStore s (s.settleJob j) ∧ SamePaths s (s.settleJob j) := by
  simp only [State.settleJob]
  (repeat' split) <;> simp

@[simp] theorem State.countPieces_keeps (s : State) (j : Job) (u : UnitId) (x : Pieces) :
    SameQueue s (s.countPieces j u x) ∧ SameClock s (s.countPieces j u x) ∧ SameSupply s (s.countPieces j u x) ∧
    SameConfig s (s.countPieces j u x) ∧ (s.countPieces j u x).escrows = s.escrows ∧
    SamePlans s (s.countPieces j u x) ∧ (s.countPieces j u x).nextJob = s.nextJob ∧
    SameMechs s (s.countPieces j u x) ∧ (s.countPieces j u x).tallies = s.tallies ∧
    SameLinks s (s.countPieces j u x) ∧ (s.countPieces j u x).writer = s.writer ∧
    (s.countPieces j u x).scan = s.scan ∧ (s.countPieces j u x).store = s.store ∧ SamePaths s (s.countPieces j u x) := by
  simp only [State.countPieces]
  (repeat' split) <;> simp

@[simp] theorem State.detect_keeps (s : State) (k : Kind) (e : Ejection) (j : Job) (u : UnitId) (x : Pieces) :
    SameQueue s (s.detect k e j u x) ∧ SameClock s (s.detect k e j u x) ∧ SameSupply s (s.detect k e j u x) ∧
    SameConfig s (s.detect k e j u x) ∧ (s.detect k e j u x).escrows = s.escrows ∧
    (s.detect k e j u x).reservations = s.reservations ∧ (s.detect k e j u x).nextJob = s.nextJob ∧
    (s.detect k e j u x).turns = s.turns ∧ (s.detect k e j u x).retest = s.retest ∧
    (s.detect k e j u x).tallies = s.tallies ∧
    SameLinks s (s.detect k e j u x) ∧ (s.detect k e j u x).writer = s.writer ∧
    (s.detect k e j u x).scan = s.scan ∧ (s.detect k e j u x).store = s.store ∧ SamePaths s (s.detect k e j u x) := by
  simp only [State.detect]
  (repeat' split) <;> simp

@[simp] theorem State.popNote_keeps (s : State) (l : Lane) :
    SameQueue s (s.popNote l) ∧ SameClock s (s.popNote l) ∧ SameSupply s (s.popNote l) ∧
    SameConfig s (s.popNote l) ∧ SameStores s (s.popNote l) ∧ (s.popNote l).lanes = s.lanes ∧
    (s.popNote l).sales = s.sales ∧ SamePlans s (s.popNote l) ∧ SameJobs s (s.popNote l) ∧
    SameMechs s (s.popNote l) ∧ SameService s (s.popNote l) ∧ SameLinks s (s.popNote l) ∧
    SameEvents s (s.popNote l) ∧ (s.popNote l).writer = s.writer ∧ (s.popNote l).scan = s.scan ∧
    (s.popNote l).store = s.store ∧ SamePaths s (s.popNote l) := by
  simp [State.popNote]

@[simp] theorem State.closeStack_keeps (s : State) (l : Lane) (n : Nat) :
    SameQueue s (s.closeStack l n) ∧ SameClock s (s.closeStack l n) ∧ SameSupply s (s.closeStack l n) ∧
    SameConfig s (s.closeStack l n) ∧ SameStores s (s.closeStack l n) ∧ (s.closeStack l n).lanes = s.lanes ∧
    (s.closeStack l n).sales = s.sales ∧ SamePlans s (s.closeStack l n) ∧ (s.closeStack l n).nextJob = s.nextJob ∧
    SameMechs s (s.closeStack l n) ∧ SameService s (s.closeStack l n) ∧ SameLinks s (s.closeStack l n) ∧
    SameEvents s (s.closeStack l n) ∧ (s.closeStack l n).writer = s.writer ∧ (s.closeStack l n).scan = s.scan ∧
    (s.closeStack l n).store = s.store ∧ SamePaths s (s.closeStack l n) := by
  simp only [State.closeStack]
  (repeat' split) <;> simp

@[simp] theorem State.stackDetected_keeps (s : State) (e : Ejection) (l : Lane) (x : Pieces) :
    SameQueue s (s.stackDetected e l x) ∧ SameClock s (s.stackDetected e l x) ∧
    SameSupply s (s.stackDetected e l x) ∧ SameConfig s (s.stackDetected e l x) ∧
    (s.stackDetected e l x).lanes = s.lanes ∧ (s.stackDetected e l x).sales = s.sales ∧
    SamePlans s (s.stackDetected e l x) ∧ (s.stackDetected e l x).nextJob = s.nextJob ∧
    (s.stackDetected e l x).turns = s.turns ∧ (s.stackDetected e l x).retest = s.retest ∧
    SameService s (s.stackDetected e l x) ∧
    SameLinks s (s.stackDetected e l x) ∧ (s.stackDetected e l x).writer = s.writer ∧
    (s.stackDetected e l x).scan = s.scan ∧ (s.stackDetected e l x).store = s.store ∧
    SamePaths s (s.stackDetected e l x) := by
  simp only [State.stackDetected]
  (repeat' split) <;> simp

@[simp] theorem State.clearTransit_keeps (s : State) (l : Lane) :
    SameQueue s (s.clearTransit l) ∧ SameClock s (s.clearTransit l) ∧ SameSupply s (s.clearTransit l) ∧
    SameConfig s (s.clearTransit l) ∧ SameStores s (s.clearTransit l) ∧ (s.clearTransit l).lanes = s.lanes ∧
    (s.clearTransit l).sales = s.sales ∧ SamePlans s (s.clearTransit l) ∧ SameJobs s (s.clearTransit l) ∧
    SameMechs s (s.clearTransit l) ∧ SameService s (s.clearTransit l) ∧ SameLinks s (s.clearTransit l) ∧
    SameEvents s (s.clearTransit l) ∧ SameStore s (s.clearTransit l) ∧ SamePaths s (s.clearTransit l) := by
  simp [State.clearTransit]

@[simp] theorem State.retry_keeps (s : State) (k : Kind) (e : Ejection) :
    SameQueue s (s.retry k e) ∧ SameClock s (s.retry k e) ∧ SameSupply s (s.retry k e) ∧
    SameConfig s (s.retry k e) ∧ SameStores s (s.retry k e) ∧ SameLanes s (s.retry k e) ∧
    SamePlans s (s.retry k e) ∧ SameJobs s (s.retry k e) ∧ (s.retry k e).turns = s.turns ∧ (s.retry k e).retest = s.retest ∧
    SameService s (s.retry k e) ∧ SameLinks s (s.retry k e) ∧ SameEvents s (s.retry k e) ∧
    SameStore s (s.retry k e) ∧ SamePaths s (s.retry k e) := by
  simp [State.retry]

@[simp] theorem State.replanRemoved_keeps (s : State) (u : UnitId) (gone : List Job) :
    SameQueue s (s.replanRemoved u gone) ∧ SameClock s (s.replanRemoved u gone) ∧
    SameSupply s (s.replanRemoved u gone) ∧ SameConfig s (s.replanRemoved u gone) ∧
    SameStores s (s.replanRemoved u gone) ∧ SameLanes s (s.replanRemoved u gone) ∧
    (s.replanRemoved u gone).reservations = s.reservations ∧ SameJobs s (s.replanRemoved u gone) ∧
    SameMechs s (s.replanRemoved u gone) ∧ SameService s (s.replanRemoved u gone) ∧
    SameLinks s (s.replanRemoved u gone) ∧ SameEvents s (s.replanRemoved u gone) ∧
    SameStore s (s.replanRemoved u gone) ∧ SamePaths s (s.replanRemoved u gone) := by
  unfold State.replanRemoved
  generalize salesOf gone = xs
  induction xs generalizing s with
  | nil => simp
  | cons x xs ih =>
    simpa using ih (s.placeRequest x.1 x.2 .replan (undoneOf gone x.1 x.2 * s.unitValue u))

@[simp] theorem State.endRemoved_keeps (s : State) (u : UnitId) (gone : List Job) :
    SameQueue s (s.endRemoved u gone) ∧ SameClock s (s.endRemoved u gone) ∧ SameSupply s (s.endRemoved u gone) ∧
    SameConfig s (s.endRemoved u gone) ∧ SameStores s (s.endRemoved u gone) ∧ SameLanes s (s.endRemoved u gone) ∧
    SamePlans s (s.endRemoved u gone) ∧ SameJobs s (s.endRemoved u gone) ∧ SameMechs s (s.endRemoved u gone) ∧
    (s.endRemoved u gone).tallies = s.tallies ∧ SameLinks s (s.endRemoved u gone) ∧
    (s.endRemoved u gone).counters = s.counters ∧ SameStore s (s.endRemoved u gone) ∧
    SamePaths s (s.endRemoved u gone) := by
  simp only [State.endRemoved]
  split <;> simp

@[simp] theorem State.sampleJam_keeps (s : State) (j : Job) (u : UnitId) :
    SameQueue s (s.sampleJam j u) ∧ SameClock s (s.sampleJam j u) ∧ SameSupply s (s.sampleJam j u) ∧
    SameConfig s (s.sampleJam j u) ∧ SameStores s (s.sampleJam j u) ∧ SameLanes s (s.sampleJam j u) ∧
    SamePlans s (s.sampleJam j u) ∧ SameJobs s (s.sampleJam j u) ∧ SameMechs s (s.sampleJam j u) ∧
    SameService s (s.sampleJam j u) ∧ SameLinks s (s.sampleJam j u) ∧ SameStore s (s.sampleJam j u) ∧
    SamePaths s (s.sampleJam j u) := by
  simp [State.sampleJam]

@[simp] theorem State.dismissJobs_keeps (s : State) (u : UnitId) :
    SameQueue s (s.dismissJobs u) ∧ SameClock s (s.dismissJobs u) ∧ SameSupply s (s.dismissJobs u) ∧
    SameConfig s (s.dismissJobs u) ∧ (s.dismissJobs u).boxes = s.boxes ∧ SameLanes s (s.dismissJobs u) ∧
    (s.dismissJobs u).reservations = s.reservations ∧ (s.dismissJobs u).nextJob = s.nextJob ∧
    SameMechs s (s.dismissJobs u) ∧ (s.dismissJobs u).tallies = s.tallies ∧ SameLinks s (s.dismissJobs u) ∧
    (s.dismissJobs u).counters = s.counters ∧ SameStore s (s.dismissJobs u) ∧ SamePaths s (s.dismissJobs u) := by
  simp [State.dismissJobs]

@[simp] theorem State.thirdMiss_keeps (s : State) (k : Kind) (e : Ejection) (j : Job) (u : UnitId) :
    SameQueue s (s.thirdMiss k e j u) ∧ SameClock s (s.thirdMiss k e j u) ∧ SameSupply s (s.thirdMiss k e j u) ∧
    SameConfig s (s.thirdMiss k e j u) ∧ (s.thirdMiss k e j u).boxes = s.boxes ∧
    SameLanes s (s.thirdMiss k e j u) ∧ (s.thirdMiss k e j u).reservations = s.reservations ∧
    (s.thirdMiss k e j u).nextJob = s.nextJob ∧ (s.thirdMiss k e j u).turns = s.turns ∧ (s.thirdMiss k e j u).retest = s.retest ∧
    (s.thirdMiss k e j u).tallies = s.tallies ∧ SameLinks s (s.thirdMiss k e j u) ∧
    (s.thirdMiss k e j u).writer = s.writer ∧ (s.thirdMiss k e j u).scan = s.scan ∧
    (s.thirdMiss k e j u).store = s.store ∧ SamePaths s (s.thirdMiss k e j u) := by
  simp only [State.thirdMiss]
  (repeat' split) <;> simp

@[simp] theorem State.stackMiss_keeps (s : State) (e : Ejection) (l : Lane) :
    SameQueue s (s.stackMiss e l) ∧ SameClock s (s.stackMiss e l) ∧ SameSupply s (s.stackMiss e l) ∧
    SameConfig s (s.stackMiss e l) ∧ SameStores s (s.stackMiss e l) ∧ (s.stackMiss e l).lanes = s.lanes ∧
    (s.stackMiss e l).sales = s.sales ∧ SamePlans s (s.stackMiss e l) ∧ (s.stackMiss e l).nextJob = s.nextJob ∧
    (s.stackMiss e l).turns = s.turns ∧ (s.stackMiss e l).retest = s.retest ∧
    SameService s (s.stackMiss e l) ∧ SameLinks s (s.stackMiss e l) ∧
    SameEvents s (s.stackMiss e l) ∧ SameStore s (s.stackMiss e l) ∧ SamePaths s (s.stackMiss e l) := by
  simp only [State.stackMiss]
  (repeat' split) <;> simp

@[simp] theorem State.lastMiss_keeps (s : State) (k : Kind) (e : Ejection) (j : Job) (u : UnitId) :
    SameQueue s (s.lastMiss k e j u) ∧ SameClock s (s.lastMiss k e j u) ∧ SameSupply s (s.lastMiss k e j u) ∧
    SameConfig s (s.lastMiss k e j u) ∧ (s.lastMiss k e j u).boxes = s.boxes ∧ SameLanes s (s.lastMiss k e j u) ∧
    SamePlans s (s.lastMiss k e j u) ∧ (s.lastMiss k e j u).nextJob = s.nextJob ∧
    (s.lastMiss k e j u).turns = s.turns ∧ (s.lastMiss k e j u).retest = s.retest ∧
    SameService s (s.lastMiss k e j u) ∧ SameLinks s (s.lastMiss k e j u) ∧
    SameEvents s (s.lastMiss k e j u) ∧ (s.lastMiss k e j u).writer = s.writer ∧
    (s.lastMiss k e j u).scan = s.scan ∧ (s.lastMiss k e j u).store = s.store ∧ SamePaths s (s.lastMiss k e j u) := by
  simp only [State.lastMiss]
  (repeat' split) <;> simp

/-! ### Plans, restarts and links (Machine/Planning.lean, Machine/Restart.lean, Machine/Links.lean) -/

@[simp] theorem State.expire_keeps (s : State) (r : Reservation) :
    SameQueue s (s.expire r) ∧ SameClock s (s.expire r) ∧ SameSupply s (s.expire r) ∧ SameConfig s (s.expire r) ∧
    SameStores s (s.expire r) ∧ (s.expire r).lanes = s.lanes ∧ (s.expire r).escrows = s.escrows ∧
    (s.expire r).planReqs = s.planReqs ∧ SameJobs s (s.expire r) ∧ SameMechs s (s.expire r) ∧
    SameService s (s.expire r) ∧ SameLinks s (s.expire r) ∧ SameStore s (s.expire r) ∧ SamePaths s (s.expire r) := by
  simp [State.expire]

@[simp] theorem State.sampleOutcome_keeps (s : State) (l : Lane) (o : PlanOutcome) (x : Plan) :
    SameQueue s (s.sampleOutcome l o x) ∧ SameClock s (s.sampleOutcome l o x) ∧
    SameSupply s (s.sampleOutcome l o x) ∧ SameConfig s (s.sampleOutcome l o x) ∧
    SameStores s (s.sampleOutcome l o x) ∧ SameLanes s (s.sampleOutcome l o x) ∧
    SamePlans s (s.sampleOutcome l o x) ∧ SameJobs s (s.sampleOutcome l o x) ∧
    SameMechs s (s.sampleOutcome l o x) ∧ SameService s (s.sampleOutcome l o x) ∧
    SameLinks s (s.sampleOutcome l o x) ∧ SameStore s (s.sampleOutcome l o x) ∧ SamePaths s (s.sampleOutcome l o x) := by
  simp only [State.sampleOutcome]
  (repeat' split) <;> simp

@[simp] theorem State.sampleSteps_keeps (s : State) (l : Lane) (n : Nat) :
    SameQueue s (s.sampleSteps l n) ∧ SameClock s (s.sampleSteps l n) ∧ SameSupply s (s.sampleSteps l n) ∧
    SameConfig s (s.sampleSteps l n) ∧ SameStores s (s.sampleSteps l n) ∧ SameLanes s (s.sampleSteps l n) ∧
    SamePlans s (s.sampleSteps l n) ∧ SameJobs s (s.sampleSteps l n) ∧ SameMechs s (s.sampleSteps l n) ∧
    SameService s (s.sampleSteps l n) ∧ SameLinks s (s.sampleSteps l n) ∧ SameStore s (s.sampleSteps l n) ∧
    SamePaths s (s.sampleSteps l n) := by
  simp [State.sampleSteps]

@[simp] theorem State.setNeed_keeps (s : State) (l : Lane) (tag : Nat) (m : Mask12) :
    SameQueue s (s.setNeed l tag m) ∧ SameClock s (s.setNeed l tag m) ∧ SameSupply s (s.setNeed l tag m) ∧
    SameConfig s (s.setNeed l tag m) ∧ SameStores s (s.setNeed l tag m) ∧ (s.setNeed l tag m).sales = s.sales ∧
    (s.setNeed l tag m).escrows = s.escrows ∧ SamePlans s (s.setNeed l tag m) ∧ SameJobs s (s.setNeed l tag m) ∧
    SameMechs s (s.setNeed l tag m) ∧ SameService s (s.setNeed l tag m) ∧ SameLinks s (s.setNeed l tag m) ∧
    SameEvents s (s.setNeed l tag m) ∧ SameStore s (s.setNeed l tag m) ∧ SamePaths s (s.setNeed l tag m) := by
  simp [State.setNeed]

@[simp] theorem State.sampleBlocked_keeps (s : State) (l : Lane) (m : Mask12) :
    SameQueue s (s.sampleBlocked l m) ∧ SameClock s (s.sampleBlocked l m) ∧ SameSupply s (s.sampleBlocked l m) ∧
    SameConfig s (s.sampleBlocked l m) ∧ SameStores s (s.sampleBlocked l m) ∧ SameLanes s (s.sampleBlocked l m) ∧
    SamePlans s (s.sampleBlocked l m) ∧ SameJobs s (s.sampleBlocked l m) ∧ SameMechs s (s.sampleBlocked l m) ∧
    SameService s (s.sampleBlocked l m) ∧ SameLinks s (s.sampleBlocked l m) ∧ SameStore s (s.sampleBlocked l m) ∧
    SamePaths s (s.sampleBlocked l m) := by
  simp [State.sampleBlocked]

@[simp] theorem State.reserve_keeps (s : State) (l : Lane) (tag : Nat) (x : Plan) :
    SameQueue s (s.reserve l tag x) ∧ SameClock s (s.reserve l tag x) ∧ SameSupply s (s.reserve l tag x) ∧
    SameConfig s (s.reserve l tag x) ∧ SameStores s (s.reserve l tag x) ∧ SameLanes s (s.reserve l tag x) ∧
    (s.reserve l tag x).planReqs = s.planReqs ∧ SameJobs s (s.reserve l tag x) ∧ SameMechs s (s.reserve l tag x) ∧
    SameService s (s.reserve l tag x) ∧ SameLinks s (s.reserve l tag x) ∧ SameEvents s (s.reserve l tag x) ∧
    SameStore s (s.reserve l tag x) ∧ SamePaths s (s.reserve l tag x) := by
  simp [State.reserve]

@[simp] theorem State.completeQuote_keeps (s : State) (r : PlanReq) (x : Sale) :
    SameQueue s (s.completeQuote r x) ∧ SameClock s (s.completeQuote r x) ∧ SameSupply s (s.completeQuote r x) ∧
    SameConfig s (s.completeQuote r x) ∧ SameStores s (s.completeQuote r x) ∧
    (s.completeQuote r x).escrows = s.escrows ∧ (s.completeQuote r x).planReqs = s.planReqs ∧
    SameJobs s (s.completeQuote r x) ∧ SameMechs s (s.completeQuote r x) ∧ SameService s (s.completeQuote r x) ∧
    SameStore s (s.completeQuote r x) ∧ SamePaths s (s.completeQuote r x) := by
  simp only [State.completeQuote]
  (repeat' split) <;> simp

@[simp] theorem State.recordUnplanned_keeps (s : State) (l : Lane) (tag v : Nat) :
    SameQueue s (s.recordUnplanned l tag v) ∧ SameClock s (s.recordUnplanned l tag v) ∧
    SameSupply s (s.recordUnplanned l tag v) ∧ SameConfig s (s.recordUnplanned l tag v) ∧
    SameStores s (s.recordUnplanned l tag v) ∧ (s.recordUnplanned l tag v).lanes = s.lanes ∧
    (s.recordUnplanned l tag v).escrows = s.escrows ∧ SamePlans s (s.recordUnplanned l tag v) ∧
    SameJobs s (s.recordUnplanned l tag v) ∧ SameMechs s (s.recordUnplanned l tag v) ∧
    SameService s (s.recordUnplanned l tag v) ∧ SameLinks s (s.recordUnplanned l tag v) ∧
    SameEvents s (s.recordUnplanned l tag v) ∧ SameStore s (s.recordUnplanned l tag v) ∧
    SamePaths s (s.recordUnplanned l tag v) := by
  simp [State.recordUnplanned]

@[simp] theorem State.completeJobs_keeps (s : State) (r : PlanReq) :
    SameQueue s (s.completeJobs r) ∧ SameClock s (s.completeJobs r) ∧ SameSupply s (s.completeJobs r) ∧
    SameConfig s (s.completeJobs r) ∧ (s.completeJobs r).boxes = s.boxes ∧ (s.completeJobs r).lanes = s.lanes ∧
    (s.completeJobs r).escrows = s.escrows ∧ SamePlans s (s.completeJobs r) ∧
    (s.completeJobs r).serviceJobs = s.serviceJobs ∧ (s.completeJobs r).stackJobs = s.stackJobs ∧
    SameMechs s (s.completeJobs r) ∧ SameService s (s.completeJobs r) ∧ SameLinks s (s.completeJobs r) ∧
    SameStore s (s.completeJobs r) ∧ SamePaths s (s.completeJobs r) := by
  simp [State.completeJobs]

@[simp] theorem State.makeUncertain_keeps (s : State) (u : UnitId) :
    SameQueue s (s.makeUncertain u) ∧ SameClock s (s.makeUncertain u) ∧ SameSupply s (s.makeUncertain u) ∧
    SameConfig s (s.makeUncertain u) ∧ (s.makeUncertain u).boxes = s.boxes ∧ SameLanes s (s.makeUncertain u) ∧
    SamePlans s (s.makeUncertain u) ∧ SameJobs s (s.makeUncertain u) ∧ SameMechs s (s.makeUncertain u) ∧
    SameService s (s.makeUncertain u) ∧ SameLinks s (s.makeUncertain u) ∧ SameEvents s (s.makeUncertain u) ∧
    (s.makeUncertain u).writer = s.writer ∧ (s.makeUncertain u).scan = s.scan ∧
    (s.makeUncertain u).store = s.store ∧ SamePaths s (s.makeUncertain u) := by
  simp only [State.makeUncertain]
  (repeat' split) <;> simp

@[simp] theorem State.stopEjection_keeps (s : State) (k : Kind) :
    SameQueue s (s.stopEjection k) ∧ SameClock s (s.stopEjection k) ∧ SameSupply s (s.stopEjection k) ∧
    SameConfig s (s.stopEjection k) ∧ (s.stopEjection k).boxes = s.boxes ∧ (s.stopEjection k).lanes = s.lanes ∧
    (s.stopEjection k).sales = s.sales ∧ SamePlans s (s.stopEjection k) ∧ (s.stopEjection k).nextJob = s.nextJob ∧
    (s.stopEjection k).turns = s.turns ∧ (s.stopEjection k).retest = s.retest ∧
    SameService s (s.stopEjection k) ∧ SameLinks s (s.stopEjection k) ∧
    SameEvents s (s.stopEjection k) ∧ (s.stopEjection k).writer = s.writer ∧ (s.stopEjection k).scan = s.scan ∧
    (s.stopEjection k).store = s.store ∧ SamePaths s (s.stopEjection k) := by
  simp only [State.stopEjection]
  (repeat' split) <;> simp

@[simp] theorem State.stopEjections_keeps (s : State) :
    SameQueue s s.stopEjections ∧ SameClock s s.stopEjections ∧ SameSupply s s.stopEjections ∧
    SameConfig s s.stopEjections ∧ s.stopEjections.boxes = s.boxes ∧ s.stopEjections.lanes = s.lanes ∧
    s.stopEjections.sales = s.sales ∧ SamePlans s s.stopEjections ∧ s.stopEjections.nextJob = s.nextJob ∧
    s.stopEjections.turns = s.turns ∧ s.stopEjections.retest = s.retest ∧
    SameService s s.stopEjections ∧ SameLinks s s.stopEjections ∧
    SameEvents s s.stopEjections ∧ s.stopEjections.writer = s.writer ∧ s.stopEjections.scan = s.scan ∧
    s.stopEjections.store = s.store ∧ SamePaths s s.stopEjections := by
  simp [State.stopEjections]

@[simp] theorem State.resetUnit_keeps (s : State) (u : UnitId) :
    SameQueue s (s.resetUnit u) ∧ SameClock s (s.resetUnit u) ∧ SameSupply s (s.resetUnit u) ∧
    SameConfig s (s.resetUnit u) ∧ (s.resetUnit u).boxes = s.boxes ∧ SameLanes s (s.resetUnit u) ∧
    SamePlans s (s.resetUnit u) ∧ SameJobs s (s.resetUnit u) ∧ SameMechs s (s.resetUnit u) ∧
    SameService s (s.resetUnit u) ∧ SameLinks s (s.resetUnit u) ∧ SameEvents s (s.resetUnit u) ∧
    (s.resetUnit u).writer = s.writer ∧ (s.resetUnit u).scan = s.scan ∧ (s.resetUnit u).store = s.store ∧
    SamePaths s (s.resetUnit u) := by
  simp [State.resetUnit]

@[simp] theorem State.resetUnits_keeps (s : State) :
    SameQueue s s.resetUnits ∧ SameClock s s.resetUnits ∧ SameSupply s s.resetUnits ∧ SameConfig s s.resetUnits ∧
    s.resetUnits.boxes = s.boxes ∧ SameLanes s s.resetUnits ∧ SamePlans s s.resetUnits ∧ SameJobs s s.resetUnits ∧
    SameMechs s s.resetUnits ∧ SameService s s.resetUnits ∧ SameLinks s s.resetUnits ∧ SameEvents s s.resetUnits ∧
    s.resetUnits.writer = s.writer ∧ s.resetUnits.scan = s.scan ∧ s.resetUnits.store = s.store ∧
    SamePaths s s.resetUnits := by
  simp [State.resetUnits, allUnits]

@[simp] theorem State.resetEscrow_keeps (s : State) (l : Lane) :
    SameQueue s (s.resetEscrow l) ∧ SameClock s (s.resetEscrow l) ∧ SameSupply s (s.resetEscrow l) ∧
    SameConfig s (s.resetEscrow l) ∧ SameStores s (s.resetEscrow l) ∧ (s.resetEscrow l).lanes = s.lanes ∧
    (s.resetEscrow l).sales = s.sales ∧ SamePlans s (s.resetEscrow l) ∧ SameJobs s (s.resetEscrow l) ∧
    SameMechs s (s.resetEscrow l) ∧ SameService s (s.resetEscrow l) ∧ SameLinks s (s.resetEscrow l) ∧
    SameEvents s (s.resetEscrow l) ∧ (s.resetEscrow l).writer = s.writer ∧ (s.resetEscrow l).scan = s.scan ∧
    (s.resetEscrow l).store = s.store ∧ SamePaths s (s.resetEscrow l) := by
  simp [State.resetEscrow]

@[simp] theorem State.awaitEligible_keeps (s : State) :
    SameQueue s s.awaitEligible ∧ SameSupply s s.awaitEligible ∧ SameConfig s s.awaitEligible ∧
    SameStores s s.awaitEligible ∧ SameLanes s s.awaitEligible ∧ SamePlans s s.awaitEligible ∧
    SameJobs s s.awaitEligible ∧ SameMechs s s.awaitEligible ∧ SameService s s.awaitEligible ∧
    SameLinks s s.awaitEligible ∧ SameEvents s s.awaitEligible ∧ SameStore s s.awaitEligible ∧
    SamePaths s s.awaitEligible := by
  simp only [State.awaitEligible]
  (repeat' split) <;> simp

@[simp] theorem State.discardFrame_keeps (s : State) (p : Port) :
    SameQueue s (s.discardFrame p) ∧ SameClock s (s.discardFrame p) ∧ SameSupply s (s.discardFrame p) ∧
    SameConfig s (s.discardFrame p) ∧ SameStores s (s.discardFrame p) ∧ SameLanes s (s.discardFrame p) ∧
    SamePlans s (s.discardFrame p) ∧ SameJobs s (s.discardFrame p) ∧ SameMechs s (s.discardFrame p) ∧
    SameService s (s.discardFrame p) ∧ SameEvents s (s.discardFrame p) ∧ SameStore s (s.discardFrame p) ∧
    SamePaths s (s.discardFrame p) := by
  simp [State.discardFrame]

/-! ### The first event after a restart (R112) -/

theorem State.firstEvent_running {s : State} (h : s.Running) : s.firstEvent = s := by simp [State.firstEvent, h.2]

theorem State.firstEvent_unpowered {s : State} (h : s.powered = false) : s.firstEvent = s := by
  simp [State.firstEvent, h]

/-- What the first event leaves alone. -/
theorem State.firstEvent_keeps (s : State) :
    SameQueue s s.firstEvent ∧ SameClock s s.firstEvent ∧ SameSupply s s.firstEvent ∧ SameConfig s s.firstEvent ∧
    s.firstEvent.boxes = s.boxes ∧ s.firstEvent.lanes = s.lanes ∧ s.firstEvent.planReqs = s.planReqs ∧
    s.firstEvent.tallies = s.tallies ∧ SameLinks s s.firstEvent ∧ SamePaths s s.firstEvent := by
  simp only [State.firstEvent]
  (repeat' split) <;> simp

/-- With no active line the test changes nothing but that it is no longer due. -/
theorem State.firstEvent_quiet {s : State} (hp : s.powered = true) (hr : s.retest = true)
    (hm : s.mechs.map Mechanism.tested = s.mechs) : s.firstEvent = { s with retest := false } := by
  simp [State.firstEvent, hp, hr, hm]

theorem PortUnit.listening_of_pause {u : PortUnit} {now : Nat} (h : u.pauseEnds ≤ now) : u.listening now = .hunt := by
  simp [PortUnit.listening, h]

theorem PortUnit.listening_of_no_pause {u : PortUnit} {now : Nat} (h : now < u.pauseEnds) :
    u.listening now = u.receiver := by
  simp [PortUnit.listening, Nat.not_le.mpr h]

@[simp] theorem State.losePower_keeps (s : State) :
    SameQueue s s.losePower ∧ SameClock s s.losePower ∧ s.losePower.key = s.key ∧ s.losePower.pfw = s.pfw ∧
    s.losePower.armed = s.armed ∧ s.losePower.lastCause = s.lastCause ∧ s.losePower.lastFailed = s.lastFailed ∧
    SameConfig s s.losePower ∧ SameStores s s.losePower ∧ SameLanes s s.losePower ∧ SamePlans s s.losePower ∧
    SameJobs s s.losePower ∧ SameMechs s s.losePower ∧ SameService s s.losePower ∧ SameLinks s s.losePower ∧
    SameEvents s s.losePower ∧ s.losePower.dirty = s.dirty ∧ s.losePower.scan = s.scan ∧ SamePaths s s.losePower := by
  simp only [State.losePower]
  (repeat' split) <;> simp

end Sys2Proof.Machine
end

