-- ==== Sys2Proof/Laws/Requests.lean ====
section
/-! SUPPORT. How a request reaches its body (R170, R134, R172), and what a reply does to its port (R169). -/

namespace Sys2Proof

/-! ### Ports and commands -/

@[simp] theorem Lane.port_lane (l : Lane) : l.port.lane = some l := by cases l <;> rfl

theorem Port.eq_of_lane {p : Port} {l : Lane} (h : p.lane = some l) : p = l.port := by
  cases p <;> cases l <;> simp_all [Port.lane, Lane.port]

@[simp] theorem Port.sp_lane : Port.sp.lane = none := rfl

@[simp] theorem Lane.other_other (l : Lane) : l.other.other = l := by cases l <;> rfl

@[simp] theorem Lane.other_ne (l : Lane) : l.other ≠ l := by cases l <;> decide

@[simp] theorem Lane.ne_other (l : Lane) : l ≠ l.other := by cases l <;> decide

end Sys2Proof

namespace Sys2Proof.Machine

/-! ### Taking a request -/

theorem Ready.powered {s : State} {p : Port} (h : Ready s p) : s.powered = true := h.1.1

theorem Ready.running {s : State} {p : Port} (h : Ready s p) : s.Running := h.1

@[simp] theorem Ready.firstEvent {s : State} {p : Port} (h : Ready s p) : s.firstEvent = s :=
  State.firstEvent_running h.running

theorem Ready.free {s : State} {p : Port} (h : Ready s p) : s.isOutstanding p = false := by
  simp [State.isOutstanding, h.2]

/-- A permitted request at a ready port reaches its body (R170 step 3). -/
theorem State.request_ready {s : State} {p : Port} (h : Ready s p) (c : Command) (hp : c.permitted p = true)
    (body : State → State) : s.request p c body = body (s.setOutstanding p c.byte) := by
  simp [State.request, h.powered, h.free, hp]

/-- A request that the port may not send is answered UNKNOWN (R170 step 2). -/
theorem State.request_unknown {s : State} {p : Port} (h : Ready s p) (c : Command) (hp : c.permitted p = false)
    (body : State → State) : s.request p c body = s.refusedWith p c .unknown := by
  simp [State.request, h.powered, h.free, hp, State.refusedWith]

/-- A request at a port with one outstanding is answered BUSY or dropped (R170 step 1). -/
theorem State.request_busy {s : State} {p : Port} (hw : s.powered = true) (ho : (s.ports.get p).outstanding ≠ none)
    (c : Command) (body : State → State) : s.request p c body = s.busyFrame p c.byte := by
  have : s.isOutstanding p = true := by
    simpa [State.isOutstanding, Option.isSome_iff_ne_none] using ho
  simp [State.request, hw, this]

/-- Without supply nothing is received (R166). -/
theorem State.request_unpowered {s : State} (hw : s.powered = false) (p : Port) (c : Command) (body : State → State) :
    s.request p c body = s := by
  simp [State.request, hw]

/-- A lane command at a ready lane port reaches its body with the port's own lane (R172). -/
theorem State.laneRequest_ready {s : State} {p : Port} {l : Lane} (hl : p.lane = some l) (h : Ready s p) (c : Command)
    (hp : c.permitted p = true) (body : Lane → State → State) :
    s.laneRequest p c body = body l (s.setOutstanding p c.byte) := by
  simp [State.laneRequest, State.request_ready h c hp, hl]

/-- A sale command whose tag is in the lane's order list reaches its body with the sale (R28). -/
theorem State.saleRequest_found {s : State} {p : Port} {l : Lane} {x : Sale} {tag : Nat} (hl : p.lane = some l)
    (h : Ready s p) (c : Command) (hp : c.permitted p = true) (hx : s.findSale l tag = some x)
    (body : Lane → Sale → State → State) :
    s.saleRequest p c tag body = body l x (s.setOutstanding p c.byte) := by
  have : (s.setOutstanding p c.byte).findSale l tag = some x := by simpa [State.findSale] using hx
  simp [State.saleRequest, State.laneRequest_ready hl h c hp, this]

/-- A sale command whose tag is not in the lane's order list is refused with NO_SALE (R28). -/
theorem State.saleRequest_missing {s : State} {p : Port} {l : Lane} {tag : Nat} (hl : p.lane = some l)
    (h : Ready s p) (c : Command) (hp : c.permitted p = true) (hx : s.findSale l tag = none)
    (body : Lane → Sale → State → State) :
    s.saleRequest p c tag body = s.refusedWith p c .noSale := by
  have : (s.setOutstanding p c.byte).findSale l tag = none := by simpa [State.findSale] using hx
  simp [State.saleRequest, State.laneRequest_ready hl h c hp, this, State.refusedWith]

/-! ### Replies -/

/-- What making a frame does to a port unit (R169). -/
def PortUnit.push (u : PortUnit) (f : Frame) (now : Nat) : PortUnit :=
  match u.sending with
  | none => { u with sending := some f, sendEnds := now + f.sendTime }
  | some _ => { u with waiting := u.waiting ++ [f] }

theorem State.pushFrame_ports (s : State) (p : Port) (f : Frame) :
    (s.pushFrame p f).ports = s.ports.modify p fun u => u.push f s.now := rfl

theorem State.pushFrame_eq (s : State) (p : Port) (f : Frame) :
    s.pushFrame p f = { s with ports := s.ports.modify p fun u => u.push f s.now } := rfl

/-- The OK reply to a request is a change of the port unit alone. -/
theorem State.replied_eq (s : State) (p : Port) (c : Command) (data : List Field) :
    s.replied p c data =
      { s with
        ports := (s.ports.modify p fun u => { u with outstanding := some c.byte }).modify p fun u =>
          u.push { command := c.byte, code := .ok, data := data, answers := true } s.now } := rfl

end Sys2Proof.Machine
end

