-- ==== Sys2Proof/Tests/Slice0.lean ====
section
/-! SUPPORT. Tests: ill-formed terms that the check refuses, the check value of R167, words and worked examples of the
spec, and for every statement with hypotheses a witness that meets them, at boundary values. The expected results are
the spec's own, cited in each docstring. -/

namespace Sys2Proof.Tests

-- Many short kernel evaluations: one after the other, so that they do not each hold a thread.
set_option Elab.async false

open Sys2Proof Sys2Proof.Machine

/-! ### States

The float is that of chapter 11: tubes T0 to T4 on the coin slots 0 to 4, drums D0 to D2 on the note slots 5 to 7. -/

/-- An enabled slot that is accepted and recycled. -/
def slot (v : Nat) (k : Kind) : Denom :=
  { value := v, kind := k, enabled := true, accept := true, recycle := true, lowWater := 0 }

/-- An ACTIVE tube of a slot. -/
def tube (d : Slot) (count : Nat) : UnitRec :=
  { slot := some d, count := count, committed := 0, capacity := 100, highWater := 80, sweepTarget := 60, mask := .both
    state := .active }

/-- An ACTIVE drum of a slot. -/
def drum (d : Slot) (count : Nat) : UnitRec :=
  { slot := some d, count := count, committed := 0, capacity := 60, highWater := 48, sweepTarget := 36, mask := .both
    state := .active }

/-- The reset state after its first event, with no line active (R112). -/
def started : State := { State.reset with retest := false }

/-- Both lanes OPEN in HOLD, the key turned, a float in tubes and drums. -/
def base : State :=
  { State.reset with
    retest := false
    key := true
    denoms :=
      ⟨slot 10 .coin, slot 20 .coin, slot 50 .coin, slot 100 .coin, slot 200 .coin, slot 500 .note, slot 1000 .note,
        slot 2000 .note, .default, .default, .default, .default⟩
    units :=
      ⟨tube 0 40, tube 1 50, tube 2 0, tube 3 30, tube 4 0, State.reset.units.e5, State.reset.units.e6,
        State.reset.units.e7, drum 5 20, drum 6 0, drum 7 10, State.reset.units.e11⟩
    lanes := State.reset.lanes.map fun r => { r with opened := true } }

/-- A sale with a tendered coin value. -/
def sale (tag : Nat) (state : SaleState) (due coin : Nat) : Sale :=
  { tag := tag, state := state, due := due, coinValue := coin, noteValue := 0
    change := if due ≤ coin then some (coin - due) else none
    planned := none, plan := none, outcome := none, shortfall := 0, floorBlocked := false, paid := 0, overpaid := 0
    refund := none, refundShortfall := none }

/-- A PLANNED sale with change 40, planned as two pieces of slot 1. -/
def planned (tag : Nat) (o : PlanOutcome) : Sale :=
  { sale tag .planned 10 50 with planned := some 40, plan := some [(1, 2)], outcome := some o }

/-- Lane A holds the sales. -/
def withSales (xs : List Sale) (s : State) : State := { s with sales := s.sales.set .a xs }

/-- Lane A's escrow holds the notes for an owner. -/
def withEscrow (owner : EscrowOwner) (status : EscrowStatus) (notes : List EscrowEntry) (s : State) : State :=
  { s with escrows := s.escrows.set .a { entries := notes, owner := owner, status := status, sensorEmpty := false } }

/-- A 1000 note on a stack. -/
def note (c : Credit) : EscrowEntry := { slot := 6, credit := c, inTransit := false }

/-- A job of lane A's sale 7 on a unit. -/
def job (serial : Nat) (u : UnitId) (ordered done : Nat) : Job :=
  { serial := serial, origin := .sale .a 7, source := .unit u, ordered := ordered, done := done, dest := .cup .a
    inFlight := false, stopped := false }

/-- The first job of lane A's queue is in flight at the coin mechanism, at an attempt. -/
def ejecting (j : Job) (attempt : Nat) (pending : Bool) (s : State) : State :=
  { s with
    laneJobs := s.laneJobs.set .a [{ j with inFlight := true }]
    mechs := s.mechs.set .coin
      { phase := .ejecting { job := j.serial, source := j.source, dest := j.dest, attempt := attempt
                             faultPending := pending, ends := 400 }
        sense := false } }

/-- A paying sale 7 with its job of tube 1 in flight. -/
def paying (ordered done attempt : Nat) (pending : Bool) : State :=
  ejecting (job 0 1 ordered done) attempt pending (withSales [sale 7 .paying 10 50]
    { base with
      units := base.units.set 1 { base.units.e1 with committed := ordered - done }
      nextJob := 1 })

/-- A stack-down of lane A's escrow into a drum is in flight. -/
def stacking (dest : Dest) (pending : Bool) : State :=
  { withEscrow .stacking .idle [note .sale, { note .sale with inTransit := true }] base with
    stackJobs :=
      [{ serial := 0, origin := .stackDown, source := .escrow .a, ordered := 2, done := 0, dest := .routed
         inFlight := true, stopped := false }]
    nextJob := 1
    mechs := base.mechs.set .note
      { phase := .ejecting { job := 0, source := .escrow .a, dest := dest, attempt := 1, faultPending := pending
                             ends := 2000 }
        sense := false } }

/-- A reservation of lane A's sale 7: two pieces of slot 1. -/
def reservation : Reservation := { lane := .a, tag := 7, counts := [(1, 2)], ends := 30000 }

/-- Sale 7 is PLANNED and holds its reservation. -/
def held (o : PlanOutcome) : State := { withSales [planned 7 o] base with reservations := [reservation] }

/-- A request is outstanding at a port, and its reply frame is being sent. -/
def answering (f : Frame) (waiting : List Frame) : State :=
  { base with
    ports := base.ports.set .sp
      { PortUnit.clear with outstanding := some f.command, sending := some f, sendEnds := 2, waiting := waiting } }

/-- An OK reply frame without data. -/
def frame (c : Command) : Frame := { command := c.byte, code := .ok, data := [], answers := true }

theorem base_ready (p : Port) : Ready base p := by cases p <;> exact ⟨⟨rfl, rfl⟩, rfl⟩

theorem started_ready (p : Port) : Ready started p := by cases p <;> exact ⟨⟨rfl, rfl⟩, rfl⟩

/-! ### Ill-formed terms (R168, R172, R26) -/

/-- A value that its field cannot carry is ill-formed, one check at a time. -/
theorem test_wellFormed_fields :
    (Instr.tender .lpA 65536).wellFormed = false ∧ (Instr.tender .lpA 65535).wellFormed = true ∧
      (Instr.openSale .lpA 1 16777216).wellFormed = false ∧ (Instr.openSale .lpA 65536 0).wellFormed = false ∧
      (Instr.quote .lpA 65536).wellFormed = false ∧ (Instr.cancel .lpA 65536).wellFormed = false ∧
      (Instr.release .lpA 65536).wellFormed = false ∧ (Instr.pay .lpA 1 256).wellFormed = false ∧
      (Instr.lockUnit .sp 256).wellFormed = false ∧ (Instr.unlockUnit .sp 256).wellFormed = false ∧
      (Instr.writeUnit .sp 0 0 65536 1 0 3).wellFormed = false ∧
      (Instr.setDenom .sp 0 16777216 0 1 1 1 0).wellFormed = false ∧ (Instr.setFloor .sp 0 0 65536).wellFormed = false ∧
      (Instr.setLimits .sp 0 65536).wellFormed = false ∧ (Instr.auditUnit .sp 0 65536).wellFormed = false ∧
      (Instr.emptyUnit .sp 0 65536).wellFormed = false ∧ (Instr.floatInBegin .sp 256).wellFormed = false ∧
      (Instr.floatInEnd .sp 256).wellFormed = false ∧ (Instr.clearJam .sp 256).wellFormed = false ∧
      (Instr.clearFault .sp 256).wellFormed = false ∧ (Instr.clearEscrow .sp 0 256).wellFormed = false ∧
      (Instr.cashboxCleared .sp 256).wellFormed = false ∧ (Instr.counterSet .sp 0 0 0 65536 0 0 0).wellFormed = false ∧
      (Instr.counterRead .sp 256).wellFormed = false ∧ (Instr.readDenom .sp 256).wellFormed = false ∧
      (Instr.readUnit .sp 256).wellFormed = false ∧ (Instr.readCashbox .sp 256).wellFormed = false ∧
      (Instr.readFloors .sp 256).wellFormed = false ∧ (Instr.readQueue .sp 256).wellFormed = false ∧
      (Instr.readMechanism .sp 256).wellFormed = false ∧ (Instr.setEventMask .sp 65536).wellFormed = false := by
  decide

/-- STATUS and STOP carry a lane at the service port and nowhere else; a hold timer's tag is a tag. -/
theorem test_wellFormed_lane :
    (Instr.status .sp none 1).wellFormed = false ∧ (Instr.status .lpA (some 0) 1).wellFormed = false ∧
      (Instr.status .sp (some 256) 1).wellFormed = false ∧ (Instr.status .sp (some 0) 65536).wellFormed = false ∧
      (Instr.stop .lpB (some 0) 1).wellFormed = false ∧ (Instr.stop .sp none 1).wellFormed = false ∧
      (Instr.status .lpA none 1).wellFormed = true ∧ (Instr.holdTimerExpiry .a 0).wellFormed = false ∧
      (Instr.holdTimerExpiry .a 65536).wellFormed = false := by
  decide

/-! ### Frames -/

/-- The check value of "123456789" is 29B1 (R167: CRC-16 with polynomial 1021 and initial value FFFF). -/
theorem test_crc :
    crc16 [0x31#8, 0x32#8, 0x33#8, 0x34#8, 0x35#8, 0x36#8, 0x37#8, 0x38#8, 0x39#8] = 0x29B1#16 := by decide +kernel

/-- The frame of OPEN_SALE(7, 1,240), byte by byte: sync A7, length 6, command 01, tag 0007, amount 0004D8, check. -/
theorem test_frame_openSale :
    encodeRequest (.openSale .lpA 7 1240) =
      some [0xA7#8, 0x06#8, 0x01#8, 0x00#8, 0x07#8, 0x00#8, 0x04#8, 0xD8#8, 0xC2#8, 0xD7#8] := by decide +kernel

/-- Its parameters read back (R168); the service port's STATUS carries the lane first (R172). -/
theorem test_decodeRequest :
    decodeRequest .lpA 0x01#8 [0x00#8, 0x07#8, 0x00#8, 0x04#8, 0xD8#8] = some (.openSale .lpA 7 1240) ∧
      decodeRequest .sp Command.status.byte [0x01#8, 0x00#8, 0x07#8] = some (.status .sp (some 1) 7) ∧
      decodeRequest .lpB Command.status.byte [0x00#8, 0x07#8] = some (.status .lpB none 7) ∧
      decodeRequest .lpB Command.status.byte [0x07#8] = none := by
  decide +kernel

/-! ### Worked examples of the spec -/

/-- The next state of a result; the reset state where there is none. -/
def nextOf : Result → State
  | .next t => t
  | _ => State.reset

/-- The levels of section 3.5: eight values with usable counts. -/
def levels (n500 n100 n50 n20 n10 : Nat) : List (Nat × Nat) :=
  [(2000, 0), (1000, 0), (500, n500), (200, 0), (100, n100), (50, n50), (20, n20), (10, n10)]

/-- The three searches of section 3.5: 8 steps exact, 11 steps exact, 15 steps with 10 left. -/
theorem test_search_cases :
    search (levels 1 1 0 4 1) 630 30 256 = { counts := [0, 0, 1, 0, 1, 0, 1, 1], remainder := 0, steps := 8 } ∧
      search (levels 0 0 1 3 0) 60 30 256 = { counts := [0, 0, 0, 0, 0, 0, 3, 0], remainder := 0, steps := 11 } ∧
      search (levels 0 0 1 1 0) 80 30 256 = { counts := [0, 0, 0, 0, 0, 1, 1, 0], remainder := 10, steps := 15 } := by
  decide +kernel

/-- The five settings of the piece limit and the effort limit of section 3.5. -/
theorem test_search_limits :
    search (levels 0 0 0 4 9) 90 30 256 = { counts := [0, 0, 0, 0, 0, 0, 4, 1], remainder := 0, steps := 8 } ∧
      search (levels 0 0 0 4 9) 90 4 256 = { counts := [0, 0, 0, 0, 0, 0, 4, 0], remainder := 10, steps := 41 } ∧
      search (levels 0 0 0 4 9) 90 4 16 = { counts := [0, 0, 0, 0, 0, 0, 4, 0], remainder := 10, steps := 16 } ∧
      search (levels 0 0 0 4 9) 90 1 256 = { counts := [0, 0, 0, 0, 0, 0, 1, 0], remainder := 70, steps := 41 } ∧
      search (levels 0 0 0 4 9) 90 1 16 = { counts := [], remainder := 90, steps := 16 } := by
  decide +kernel

/-- The contested slot of section 3.4 as two tubes of slot 1: U is 22 for lane A and 58 for lane B, and 28 for lane A
without the shield. -/
theorem test_usable :
    let s : State := { base with
      units := (base.units.set 1 { tube 1 40 with committed := 5 }).set 2 { tube 1 30 with mask := .onlyB }
      floors := base.floors.set .b ((base.floors.get .b).set 1 10)
      reservations := [{ lane := .a, tag := 2, counts := [(1, 3)], ends := 30000 },
        { lane := .b, tag := 1, counts := [(1, 4)], ends := 30000 }] }
    s.usable .a 3 true 1 = 22 ∧ s.usable .b 2 true 1 = 58 ∧ s.usable .a 3 false 1 = 28 := by
  decide +kernel

/-- The split of chapter 5: 1000 from D1, then 20c as 5 from T5 and 3 from T7; T6 does not serve lane A. -/
theorem test_split :
    let units := ((base.units.set 9 (drum 6 20)).set 5 { tube 1 12 with committed := 7 }).set 6
      { tube 1 30 with mask := .onlyB }
    let s : State := { base with
      units := (units.set 7 { tube 1 9 with mask := .onlyA, committed := 4 }).set 1 base.units.e5 }
    splitPlan .a [(6, 1), (1, 8)] s =
      ([{ unit := 9, slot := 6, pieces := 1 }, { unit := 5, slot := 1, pieces := 5 },
        { unit := 7, slot := 1, pieces := 3 }], 0) := by
  decide +kernel

/-- The tender of chapter 2: TENDER credits the stray 30, and the last 50 coin makes the change 40. -/
theorem test_tender_and_coin :
    (let t := nextOf (exec (.tender .lpA 7) (withSales [sale 7 .waiting 1240 0]
       { base with lanes := base.lanes.set .a { base.lanes.a with stray := 30 } }))
     (t.findSale .a 7).map (fun x => (x.state, x.coinValue)) = some (.tendering, 30) ∧
       (t.lanes.get .a).binding = .sale 7 ∧ (t.lanes.get .a).stray = 0 ∧ (t.escrows.get .a).owner = .sale 7) ∧
    (let t := nextOf (exec (.coinPieceReport .a 2) (withSales [{ sale 7 .tendering 1240 230 with noteValue := 1000 }]
       { base with lanes := base.lanes.set .a { base.lanes.a with binding := .sale 7 } }))
     (t.findSale .a 7).map (fun x => (x.coinValue, x.change)) = some (280, some 40) ∧ (t.units.get 2).count = 1) := by
  decide +kernel

/-- A state in which T4 holds 50c coins, all committed to two jobs, the first in flight. -/
def doublePiece : State :=
  let j1 : Job := { job 1 4 1 0 with origin := .sale .a 3, inFlight := true }
  let j2 : Job := { job 2 4 5 0 with origin := .sale .b 8, dest := .cup .b }
  { ejecting j1 1 false base with
    units := base.units.set 4 { tube 2 6 with committed := 6 }
    sales := ⟨[sale 3 .paying 0 0], [sale 8 .paying 0 0]⟩
    laneJobs := ⟨[j1], [j2]⟩
    nextJob := 3 }

/-- The double piece of section 6.4: T4 4 / 4, the later job ordered 4, paid 100 and overpaid 50, REPLAN of 50. -/
theorem test_double_piece :
    let t := nextOf (exec (.exitSensorReport .coin .two) doublePiece)
    (t.units.get 4).count = 4 ∧ (t.units.get 4).committed = 4 ∧ t.laneJobs.get .a = [] ∧
        (t.laneJobs.get .b).map Job.ordered = [4] ∧
        (t.findSale .a 3).map (fun x => (x.state, x.paid, x.overpaid)) = some (.settled, 100, 50) ∧
        (t.lanes.get .a).cup = 2 ∧ t.planReqs.map (fun r => (r.lane, r.tag, r.kind, r.amount)) = [(.b, 8, .replan, 50)] := by
  decide +kernel

/-- The jam of section 6.3: T3 JAMMED with its count, three REPLANs in the order of the jobs, a2 granted next. -/
theorem test_jam :
    let a1 : Job := { job 1 3 4 1 with origin := .sale .a 2, inFlight := true }
    let b1 : Job := { job 2 3 3 0 with origin := .sale .b 4, dest := .cup .b }
    let a2 : Job := { job 3 1 2 0 with origin := .sale .a 5 }
    let a3 : Job := { job 4 3 2 0 with origin := .sale .a 5 }
    let s : State := { ejecting a1 3 false base with
      units := ((base.units.set 3 { tube 3 50 with committed := 8 }).set 2 { tube 3 40 with committed := 10 }).set 1
        { tube 1 50 with committed := 2 }
      sales := ⟨[sale 2 .paying 0 0, sale 5 .paying 0 0, planned 7 .exact], [sale 4 .paying 0 0]⟩
      reservations := [{ reservation with counts := [(3, 2)] }]
      laneJobs := ⟨[a1, a2, a3], [b1]⟩ }
    let t := nextOf (exec (.ejectTimeout .coin) s)
    s.backing 3 = 72 ∧ (t.units.get 3).state = .jammed ∧ (t.units.get 3).count = 50 ∧ (t.units.get 3).committed = 0 ∧
        t.laneJobs.get .a = [{ a2 with inFlight := true }] ∧ t.laneJobs.get .b = [] ∧
        t.planReqs.map (fun r => (r.lane, r.tag, r.amount)) = [(.a, 2, 300), (.b, 4, 300), (.a, 5, 200)] ∧
        t.backing 3 = 30 ∧ t.reservations = [{ reservation with counts := [(3, 2)] }] := by
  decide +kernel

/-- The floor-blocked quote of section 3.6: SHORT with an empty plan and shortfall 60, the flag, and the need. -/
theorem test_floor_blocked :
    let s : State := { base with
      units := (((base.units.set 1 (tube 1 8)).set 0 (tube 0 0)).set 3 (tube 3 0)).set 8 (drum 5 0)
      floors := base.floors.set .b ((base.floors.get .b).set 1 10)
      sales := ⟨[sale 3 .tendered 0 60], [planned 1 .exact]⟩
      reservations := [{ lane := .b, tag := 1, counts := [(1, 4)], ends := 30000 }]
      planReqs := [{ lane := .a, tag := 3, kind := .quote, amount := 60, shielded := true }] }
    let t := nextOf (exec .planRequestTaken s)
    (t.findSale .a 3).map (fun x => (x.state, x.outcome, x.shortfall)) = some (.planned, some .short, 60) ∧
        (t.findSale .a 3).map (fun x => (x.plan.map List.length, x.floorBlocked)) = some (some 0, true) ∧ (t.lanes.get .a).blockedSale = some 3 ∧
        (t.lanes.get .a).asked = 2 ∧ t.floorAsked .b = true ∧
        t.reservations.map (fun r => (r.lane, r.tag, r.counts.length)) = [(.b, 1, 1), (.a, 3, 0)] := by
  decide +kernel

/-- Row 3 of the table of chapter 10, with the four counters' selects: a lane A sample of depth 4 after 6 and 5, and the
service job's sample that no counter takes. -/
theorem test_counters :
    let sel (m : CounterMode) (invert : Bool) : Select :=
      { event := .queueDepth, laneMask := 1, slotMask := 0xFFF#12, mode := m, threshold := 4, invert := invert }
    let x : Sample := { kind := .queueDepth, lane := .lane .a, slots := none, value := 4 }
    let c1 : Counter := { select := sel .edge false, value := 1, edge := true }
    (({ select := sel .occupancy false, value := 2, edge := true } : Counter).after x).value = 3 ∧
      (c1.after x).value = 1 ∧ (c1.after x).edge = true ∧
      (({ select := sel .occupancy true, value := 0, edge := false } : Counter).after x).value = 0 ∧
      (({ select := sel .count false, value := 11, edge := false } : Counter).after x).value = 15 ∧
      c1.after { x with lane := .service, value := 1 } = c1 ∧
      ((c1.after { x with value := 3 }).value = 1 ∧ (c1.after { x with value := 3 }).edge = false) := by
  decide +kernel

/-- Two cups at the rush (chapter 5), decisions 1 and 2: the holder's job while its cup has room, then the other's. -/
theorem test_turns :
    let a1 : Job := { job 1 3 3 0 with origin := .sale .a 4 }
    let b1 : Job := { job 2 5 2 0 with origin := .sale .b 7, dest := .cup .b }
    let s : State := { base with
      lanes := ⟨{ base.lanes.a with weight := 2, cup := 24 }, { base.lanes.b with weight := 1, cup := 3 }⟩
      laneJobs := ⟨[a1], [b1]⟩, turns := base.turns.set .coin ⟨.a, 2⟩ }
    let full : State := { s with lanes := s.lanes.set .a { s.lanes.a with cup := 25 }, turns := s.turns.set .coin ⟨.a, 1⟩ }
    (s.arbitrate .coin).turns.get .coin = ⟨.a, 1⟩ ∧ ((s.arbitrate .coin).laneJobs.get .a).map Job.inFlight = [true] ∧
      (full.arbitrate .coin).turns.get .coin = ⟨.b, 0⟩ ∧
      ((full.arbitrate .coin).laneJobs.get .b).map Job.inFlight = [true] ∧ full.pendingAt .lpA .cupFull = true := by
  decide +kernel

/-- The event data at the service port with every kind pending is 35 bytes, and at a lane port with every list full 73
bytes (R176). -/
theorem test_event_widths :
    let bad := base.units.map fun r => { r with state := .jammed }
    let s : State := { base with
      units := (bad.set 1 { base.units.e1 with state := .uncertain })
      denoms := base.denoms.set 0 { base.denoms.e0 with lowWater := 1 }
      boxes := base.boxes.map fun b => { b with capacity := 0 }
      mechs := base.mechs.set .coin { phase := .fault .faultSense, sense := true }
      limits := { base.limits with cup := 25, outlet := 10 }
      lanes := ⟨{ base.lanes.a with cup := 25, outlet := 10 }, { base.lanes.b with blockedSale := some 3, asked := 1 }⟩
      events := base.events.map fun e =>
        { e with
          restarted := some (.resetLine, 0), escrowFault := some (.a, 7), withdrawn := [1, 2, 3, 4]
          expired := [1, 2, 3, 4], finished := [(1, .settled), (2, .settled), (3, .settled), (4, .settled)]
          granted := some 3, strayRise := some 1, wrapped := some 0, transferDone := some (0, .sweep, 1) } }
    let width (p : Port) := 5 + (((allEventKinds.filter fun k => s.pendingAt p k).map fun k =>
      byteField k.code :: s.eventDetail p k).flatten.map Field.width).sum
    width .sp = 35 ∧ width .lpA = 73 := by
  decide +kernel

/-- The reset state is the power-on restore of a blank store (R153, R162, R163; log 1). -/
theorem test_reset_is_restore :
    nextOf (exec .powerOn { base with powered := false, key := false, sales := ⟨[sale 1 .paying 0 0], []⟩ }) =
      State.reset := by
  decide +kernel

/-- A step on an empty queue advances the clock by 1 ms and queues what is due (log 2). -/
theorem test_idle_step :
    (let t := nextOf (step { held .exact with now := 29999 })
     t.now = 30000 ∧ t.pending = [.holdTimerExpiry .a 7]) ∧
      State.reset.withFetchWord 8 1 = State.reset ∧ decodeTableWord 8 1 = none := by
  decide +kernel

/-! ### Witnesses

Each names a state and operands that meet the hypotheses of the statement of its name, clause by clause. -/

/-- A transmitter that is free, and one that is sending. -/
theorem witness_Replies :
    (base.ports.get .sp).sending = none ∧ ((answering (frame .lockUnit) []).ports.get .sp).sending ≠ none := by decide

/-- Range 0 and 65,536 and 1,000,000; then the other checks and an order list with room for one more, at the ends. -/
theorem witness_OpenSale :
    Port.lpA.lane = some .a ∧ Ready base .lpA ∧ Ready started .lpA ∧
      ¬ (1 ≤ 0 ∧ 0 ≤ 65535 ∧ 0 ≤ 999999) ∧ ¬ (1 ≤ 65536 ∧ 65536 ≤ 65535 ∧ 0 ≤ 999999) ∧
      ¬ (1 ≤ 1 ∧ 1 ≤ 65535 ∧ 1000000 ≤ 999999) ∧ (State.reset.lanes.get .a).opened = false ∧
      (base.lanes.get .a).opened = true ∧ (withSales [sale 1 .waiting 0 0] base).findSale .a 1 ≠ none ∧
      base.findSale .a 65535 = none ∧
      (let s := withSales [sale 1 .waiting 0 0, sale 2 .waiting 0 0, sale 3 .waiting 0 0, sale 4 .waiting 0 0] base
       s.findSale .a 5 = none ∧ 4 ≤ (s.sales.get .a).length) ∧
      (let s := withSales [sale 1 .waiting 0 0, sale 2 .waiting 0 0, sale 3 .waiting 0 0] base
       s.findSale .a 5 = none ∧ (s.sales.get .a).length < 4) :=
  ⟨rfl, base_ready _, started_ready _, by decide +kernel⟩

/-- A CLOSED lane, a sale that is not WAITING, an ORPHAN stack, a stack in FAULT, a bound head, a free one. -/
theorem witness_Tender :
    Port.lpA.lane = some .a ∧ Ready base .lpA ∧ base.findSale .a 1 = none ∧
      (withSales [sale 1 .waiting 0 0] State.reset).findSale .a 1 = some (sale 1 .waiting 0 0) ∧
      (State.reset.lanes.get .a).opened = false ∧ (sale 1 .paying 0 0).state ≠ .waiting ∧
      ((withEscrow .orphan .idle [note .nothing] base).escrows.get .a).owner = .orphan ∧
      ((withEscrow (.sale 3) .fault [note .sale] base).escrows.get .a).status = .fault ∧
      ((withEscrow .stacking .idle [note .sale] base).escrows.get .a).entries ≠ [] ∧
      (withSales [sale 1 .waiting 0 0] base).findSale .a 1 = some (sale 1 .waiting 0 0) ∧
      (sale 1 .waiting 0 0).state = .waiting ∧ (base.escrows.get .a).owner = .none ∧
      (base.escrows.get .a).status ≠ .fault ∧ (base.lanes.get .a).binding = .none ∧
      (base.escrows.get .a).entries = [] ∧ (base.lanes.get .a).opened = true :=
  ⟨rfl, base_ready _, by decide +kernel⟩

/-- A tender one below its due, one at its due, a TENDERED and a PLANNED sale, a PAYING one. -/
theorem witness_Quote :
    Port.lpA.lane = some .a ∧ Ready base .lpA ∧ base.findSale .a 7 = none ∧
      (withSales [sale 7 .paying 0 0] base).findSale .a 7 = some (sale 7 .paying 0 0) ∧
      (withSales [sale 7 .tendering 50 49] base).findSale .a 7 = some (sale 7 .tendering 50 49) ∧
      (sale 7 .tendering 50 49).coinValue + (sale 7 .tendering 50 49).noteValue < (sale 7 .tendering 50 49).due ∧
      (withSales [sale 7 .tendering 50 50] base).findSale .a 7 = some (sale 7 .tendering 50 50) ∧
      (sale 7 .tendering 50 50).due ≤ (sale 7 .tendering 50 50).coinValue + (sale 7 .tendering 50 50).noteValue ∧
      (withSales [sale 7 .tendered 50 50] base).findSale .a 7 = some (sale 7 .tendered 50 50) ∧
      (held .exact).findSale .a 7 = some (planned 7 .exact) ∧ (planned 7 .exact).state = .planned ∧
      (held .exact).hasRequest .a 7 = false :=
  ⟨rfl, base_ready _, by decide +kernel⟩

/-- Each check of PAY in turn; the lane's queue full and with room for exactly the jobs of the split. -/
theorem witness_PayChecks :
    Port.lpA.lane = some .a ∧ Ready (held .exact) .lpA ∧ base.findSale .a 7 = none ∧
      (held .short).findSale .a 7 = some (planned 7 .short) ∧ (planned 7 .short).outcome ≠ some .exact ∧
      (sale 7 .tendered 0 0).state = .tendered ∧ (sale 7 .paying 0 0).state ≠ .planned ∧
      (planned 7 .exact).outcome = some .exact ∧
      (let js := List.replicate 16 (job 0 0 1 0)
       let s := { held .exact with laneJobs := ⟨js, []⟩ }
       s.findSale .a 7 = some (planned 7 .exact) ∧
         16 < (s.laneJobs.get .a).length + (splitPlan .a [(1, 2)] s).1.length) ∧
      (let js := List.replicate 15 (job 0 0 1 0)
       let s := { held .exact with laneJobs := ⟨js, []⟩ }
       s.findSale .a 7 = some (planned 7 .exact) ∧
         (s.laneJobs.get .a).length + (splitPlan .a [(1, 2)] s).1.length = 16) :=
  ⟨rfl, ⟨⟨rfl, rfl⟩, rfl⟩, by decide +kernel⟩

/-- A PLANNED sale without a request, unplaced values 0 and 999,999, its own stack and another's. -/
theorem witness_PayOutEffect :
    (held .exact).findSale .a 7 = some (planned 7 .exact) ∧ (held .exact).hasRequest .a 7 = false ∧ 0 ≤ 999999 ∧
      0 < 999999 ∧ ((withEscrow (.sale 7) .idle [note .sale] (held .exact)).escrows.get .a).owner = .sale 7 ∧
      ((held .exact).escrows.get .a).owner ≠ .sale 7 := by
  decide +kernel

/-- The float keeps the law of units. -/
theorem witness_Split : base.UnitLaw := by
  intro u
  revert u
  unfold UnitRec.Law
  decide +kernel

/-- No sale, a sale in a state CANCEL refuses, a WAITING one, and TENDERING, TENDERED and PLANNED ones, with a stack of
the sale's notes, an empty stack, and another's stack. -/
theorem witness_Cancel :
    Port.lpA.lane = some .a ∧ Ready base .lpA ∧ base.findSale .a 7 = none ∧
      (sale 7 .paying 0 0).state ≠ .waiting ∧
      (withSales [sale 7 .waiting 0 0] base).findSale .a 7 = some (sale 7 .waiting 0 0) ∧
      (withSales [sale 7 .tendering 50 0] base).findSale .a 7 = some (sale 7 .tendering 50 0) ∧
      (withSales [sale 7 .tendered 50 50] base).findSale .a 7 = some (sale 7 .tendered 50 50) ∧
      (held .exact).findSale .a 7 = some (planned 7 .exact) ∧ 0 < (planned 7 .exact).coinValue ∧
      (held .exact).hasRequest .a 7 = false ∧
      (let e := (withEscrow (.sale 7) .idle [note .sale] base).escrows.get .a
       e.owner = .sale 7 ∧ e.entries ≠ [] ∧ e.sensorEmpty = false) ∧
      (let e := (withEscrow (.sale 7) .idle [] base).escrows.get .a
       e.owner = .sale 7 ∧ e.entries = []) ∧
      (base.escrows.get .a).owner ≠ .sale 7 :=
  ⟨rfl, base_ready _, by decide +kernel⟩

/-- A sale that is kept, each finished state, the floor-blocked sale and another; the service port's lane. -/
theorem witness_ReleaseAndStatus :
    Port.lpA.lane = some .a ∧ Ready base .lpA ∧ base.findSale .a 7 = none ∧
      (withSales [sale 7 .paying 0 0] base).findSale .a 7 = some (sale 7 .paying 0 0) ∧
      (withSales [sale 7 .stopped 0 0] base).findSale .a 7 = some (sale 7 .stopped 0 0) ∧
      (base.lanes.get .a).blockedSale ≠ some 7 ∧
      (({ base with lanes := base.lanes.set .a { base.lanes.a with blockedSale := some 7 } } : State).lanes.get
        .a).blockedSale = some 7 ∧
      laneCode .b = 1 :=
  ⟨rfl, base_ready _, by decide +kernel⟩

/-- A sale that STOP refuses, a PAYING one with jobs in the queue, a REFUNDING one that owns its stack. -/
theorem witness_Stop :
    Port.lpA.lane = some .a ∧ Ready (paying 2 0 1 false) .lpA ∧ base.findSale .a 7 = none ∧
      (withSales [sale 7 .planned 0 0] base).findSale .a 7 = some (sale 7 .planned 0 0) ∧
      (paying 2 0 1 false).findSale .a 7 = some (sale 7 .paying 10 50) ∧
      (let s := withEscrow (.sale 7) .fault [note .sale] (withSales [sale 7 .refunding 10 50] base)
       s.findSale .a 7 = some (sale 7 .refunding 10 50) ∧ (s.escrows.get .a).owner = .sale 7) :=
  ⟨rfl, ⟨⟨rfl, rfl⟩, rfl⟩, by decide +kernel⟩

/-- An OPEN and a CLOSED lane, in HOLD and in YIELD. -/
theorem witness_LaneCommands :
    Port.lpA.lane = some .a ∧ Ready base .lpA ∧ Ready started .lpA ∧ (base.lanes.get .a).opened = true ∧
      (State.reset.lanes.get .a).opened = false ∧ (base.lanes.get .a).holding = true ∧
      (({ base with lanes := base.lanes.set .a { base.lanes.a with holding := false } } : State).lanes.get
        .a).holding = false :=
  ⟨rfl, base_ready _, started_ready _, by decide +kernel⟩

/-- A lane with a sale being served, a CLOSED lane, an OPEN one with a WAITING and a finished sale. -/
theorem witness_LaneClose :
    Port.lpA.lane = some .a ∧ Ready base .lpA ∧
      (∃ x ∈ (withSales [sale 7 .refunding 0 0] base).sales.get .a, x.state = .refunding) ∧
      (∀ x ∈ State.reset.sales.get .a, x.state ≠ .tendering) ∧ (State.reset.lanes.get .a).opened = false ∧
      (let s := withSales [sale 1 .waiting 0 0, sale 2 .settled 0 0] base
       (∀ x ∈ s.sales.get .a, x.state ≠ .tendering ∧ x.state ≠ .tendered ∧ x.state ≠ .planned ∧ x.state ≠ .paying ∧
         x.state ≠ .refunding) ∧ (s.lanes.get .a).opened = true ∧ ((s.sales.get .a).map Sale.tag).Nodup) :=
  ⟨rfl, base_ready _, by decide +kernel⟩

/-- A keyed request without the key, and with the key the first numbers that name nothing. -/
theorem witness_KeyAndRange :
    requestParts (.clearJam .sp 12) = some (.sp, .clearJam, [12]) ∧ Command.clearJam.keyed = true ∧
      Ready started .sp ∧ State.reset.key = false ∧ Ready base .sp ∧ base.key = true ∧ 12 ≤ 12 ∧ 8 ≤ 8 ∧ 2 ≤ 2 :=
  ⟨rfl, rfl, started_ready _, rfl, base_ready _, by decide⟩

/-- A unit in each state that the two commands tell apart, with pieces committed and without. -/
theorem witness_LockAndUnlock :
    Ready base .sp ∧ (base.units.get 5).state = .absent ∧ (base.units.get 1).state = .active ∧
      (base.units.get 1).committed = 0 ∧ 0 < ((paying 2 0 1 false).units.get 1).committed ∧
      (let s := { base with units := base.units.set 1 { base.units.e1 with state := .locked } }
       (s.units.get 1).state = .locked ∧ (s.units.get 1).slot = some 1 ∧ (s.denoms.get 1).kind = unitKind 1) ∧
      (∀ d, (base.units.get 5).slot = some d → (base.denoms.get d).kind ≠ unitKind 5) ∧
      (base.units.get 1).state ≠ .locked :=
  ⟨base_ready _, by decide +kernel⟩

/-- Codes that name no slot or mask; each range at its ends; a LOCKED unit that may be written, an ACTIVE one that may
not. -/
theorem witness_WriteUnits :
    Ready base .sp ∧ base.key = true ∧ slotOrNoneOf 12 = none ∧ laneMaskOf 3 = none ∧ slotOrNoneOf 1 = some (some 1) ∧
      laneMaskOf 2 = some .both ∧ ¬ (1 ≤ 401 ∧ 401 ≤ (if (1 : UnitId).val < 8 then 400 else 120)) ∧
      1 ≤ 400 ∧ 400 ≤ (if (1 : UnitId).val < 8 then 400 else 120) ∧ 1 ≤ 1 ∧ 0 < 1 ∧
      (∀ d, some (1 : Slot) = some d → (base.denoms.get d).kind = unitKind 1) ∧ (base.units.get 1).count ≤ 50 ∧
      base.writeUnitAllowed 1 (some 1) = false ∧
      (let s := { base with units := base.units.set 1 { base.units.e1 with state := .locked } }
       s.writeUnitAllowed 1 (some 1) = true) :=
  ⟨base_ready _, by decide +kernel⟩

/-- A value that another enabled slot has, and 0 and 50,001; an OPEN lane; both lanes CLOSED with an unused slot. -/
theorem witness_SetDenom :
    Ready base .sp ∧ base.key = true ∧ denomOf 20 0 1 1 1 0 = some (slot 20 .coin) ∧
      ¬ (∀ e, e ≠ (0 : Slot) → (base.denoms.get e).enabled = true → (base.denoms.get e).value ≠ 20) ∧
      denomOf 0 0 0 0 0 1000 ≠ none ∧ denomOf 50001 1 0 0 0 1001 ≠ none ∧ (base.lanes.get .a).opened = true ∧
      Ready { started with key := true } .sp ∧ (State.reset.lanes.get .a).opened = false ∧
      (State.reset.lanes.get .b).opened = false ∧ denomOf 50000 1 1 1 1 1000 ≠ none ∧
      (∀ u, (State.reset.units.get u).slot ≠ some 11) :=
  ⟨base_ready _, by
    refine ⟨by decide +kernel, by decide +kernel, by decide +kernel, by decide +kernel, by decide +kernel,
      by decide +kernel, ⟨⟨rfl, rfl⟩, rfl⟩, by decide +kernel⟩⟩

/-- Lane, slot and count at and past their ends; a setting past the last, each range at its ends, a value held already. -/
theorem witness_Settings :
    Ready base .sp ∧ 1 < 2 ∧ 11 < 12 ∧ 255 < 256 ∧ 1 = laneCode .b ∧ 11 = (11 : Slot).val ∧ 255 ≤ 255 ∧ 9 < 10 ∧
      settingOf 9 = some (.cashboxCapacity .note) ∧ (Setting.cashboxCapacity .note).inRange 1001 = false ∧
      (Setting.cashboxCapacity .note).inRange 1000 = true ∧ base.settingValue (.cashboxCapacity .note) = 600 ∧
      settingOf 4 = some .cupLimit ∧ Setting.cupLimit.inRange 0 = false ∧ Setting.cupLimit.inRange 1 = true ∧
      base.settingValue .cupLimit = 25 :=
  ⟨base_ready _, by decide +kernel⟩

/-- A count one past the capacity and one at it; an ACTIVE unit and a LOCKED one; a JAMMED one; a mechanism in FAULT with
the sense line active and inactive, and a READY one. -/
theorem witness_AuditAndClears :
    Ready base .sp ∧ base.key = true ∧ (base.units.get 1).capacity < 101 ∧ 100 ≤ (base.units.get 1).capacity ∧
      (base.units.get 1).state ≠ .jammed ∧ (base.units.get 1).state ≠ .locked ∧
      (let s := { base with units := base.units.set 1 { base.units.e1 with state := .locked } }
       (s.units.get 1).state = .locked ∧ s.stackDownInto 1 = false ∧ (s.units.get 1).committed = 0) ∧
      (let s := { base with units := base.units.set 1 { base.units.e1 with state := .jammed } }
       (s.units.get 1).state = .jammed) ∧
      (let s := { base with mechs := base.mechs.set .note { phase := .fault .stackTimeout, sense := false } }
       (s.mechs.get .note).phase = .fault .stackTimeout ∧ (s.mechs.get .note).sense = false) ∧
      (base.mechs.get .note).phase = .ready :=
  ⟨base_ready _, by decide +kernel⟩

/-- keep at the count and one below it; a service queue that is full and one with room for one; counter selects at and
past their ends. -/
theorem witness_FloatCommands :
    Ready base .sp ∧ base.key = true ∧ (base.units.get 1).count ≤ 50 ∧ 49 < (base.units.get 1).count ∧
      (base.units.get 1).state ≠ .locked ∧
      (let j : Job := { job 0 0 1 0 with origin := .sweep, dest := .cashbox .coin }
       let s := { base with
         units := base.units.set 1 { base.units.e1 with state := .locked }
         serviceJobs := List.replicate 8 j }
       (s.units.get 1).state = .locked ∧ (∀ j ∈ s.serviceJobs, j.source ≠ .unit 1) ∧ 8 ≤ s.serviceJobs.length ∧
         (s.serviceJobs.drop 1).length < 8) ∧
      12 < 13 ∧ 7 < 8 ∧ 4095 < 4096 ∧ 2 < 3 ∧ 16 < 17 ∧ 1 < 2 ∧ 12 = sampleKindCode .refused ∧
      2 = counterModeCode .edge :=
  ⟨base_ready _, by decide +kernel⟩

/-- An ORPHAN stack, a stack in FAULT, a stack in use, a free head, a head bound to FLOAT_IN. -/
theorem witness_FloatIn :
    Ready base .sp ∧ ((withEscrow .orphan .idle [note .nothing] base).escrows.get .a).owner = .orphan ∧
      ((withEscrow (.sale 7) .fault [note .sale] base).escrows.get .a).status = .fault ∧
      ((withEscrow (.sale 7) .idle [note .sale] base).escrows.get .a).entries ≠ [] ∧
      (base.escrows.get .a).owner = .none ∧ (base.escrows.get .a).status ≠ .fault ∧
      (base.lanes.get .a).binding = .none ∧ (base.escrows.get .a).entries = [] ∧
      (({ base with lanes := base.lanes.set .a { base.lanes.a with binding := .floatIn } } : State).lanes.get
        .a).binding = .floatIn :=
  ⟨base_ready _, by decide +kernel⟩

/-- A stack that is neither ORPHAN nor in FAULT, an ORPHAN one that is IDLE, and one in FAULT of a REFUNDING sale. -/
theorem witness_ClearEscrow :
    Ready base .sp ∧ base.key = true ∧
      ¬ ((base.escrows.get .a).owner = .orphan ∧ (base.escrows.get .a).status = .idle ∨
        (base.escrows.get .a).status = .fault) ∧
      (let e := (withEscrow .orphan .idle [note .nothing] base).escrows.get .a
       e.owner = .orphan ∧ e.status = .idle ∧ e.sensorEmpty = false ∧ e.entries ≠ []) ∧
      (let s := withEscrow (.sale 7) .fault [note .sale]
         (withSales [{ sale 7 .refunding 0 0 with refund := some 0 }] base)
       (s.escrows.get .a).status = .fault ∧ (s.escrows.get .a).owner = .sale 7 ∧
         (s.findSale .a 7).map Sale.refund = some (some 0)) :=
  ⟨base_ready _, by decide +kernel⟩

/-- The service port sends the reply to RESTART, and another frame with one behind it. -/
theorem witness_RestartAndReplySent :
    Ready base .sp ∧ base.key = true ∧ (answering (frame .restart) []).Running ∧
      ((answering (frame .restart) []).ports.get .sp).sending = some (frame .restart) ∧
      (frame .restart).command = Command.restart.byte ∧ (frame .restart).code = .ok ∧
      ((answering (frame .lockUnit) [frame .lockUnit]).ports.get .sp).sending = some (frame .lockUnit) ∧
      (frame .lockUnit).command ≠ Command.restart.byte :=
  ⟨base_ready _, by decide +kernel⟩

/-- A ready port, the first numbers that name nothing, and a place. -/
theorem witness_Reads : Ready base .lpB ∧ 12 ≤ 12 ∧ 2 ≤ 2 ∧ 4 ≤ 4 ∧ 8 ≤ 8 ∧ placeOf 3 = some .stackDown :=
  ⟨base_ready _, by decide⟩

theorem witness_ReadEvents : Ready base .lpA := base_ready _

theorem witness_MaskAndLevels : Ready base .sp ∧ 65535 < 65536 ∧ base.Running ∧ Port.lpA.lane = some .a :=
  ⟨base_ready _, by decide⟩

/-- A request without supply, at a busy port, from a port that may not send it, and from one that may. -/
theorem witness_RequestOutcome :
    requestParts (.lockUnit .sp 1) = some (.sp, .lockUnit, [1]) ∧
      ({ base with powered := false } : State).powered = false ∧
      ((answering (frame .lockUnit) []).ports.get .sp).outstanding ≠ none ∧
      requestParts (.lockUnit .lpA 1) = some (.lpA, .lockUnit, [1]) ∧ Command.lockUnit.permitted .lpA = false ∧
      Command.lockUnit.permitted .sp = true ∧ Ready base .lpA ∧ Ready base .sp :=
  ⟨rfl, rfl, by decide, rfl, by decide, by decide, base_ready _, base_ready _⟩

/-- A busy port with room for one BUSY frame and with none; a byte that is no command; a frame in reception; lengths 0,
1, 60 and 61; the check bytes of an empty kept body. -/
theorem witness_Links :
    base.Running ∧
      (let s := answering (frame .lockUnit) [{ frame .lockUnit with code := .busy, answers := false }]
       (s.ports.get .sp).outstanding ≠ none ∧ (s.ports.get .sp).busyWaiting < 2) ∧
      (let f : Frame := { frame .lockUnit with code := .busy, answers := false }
       2 ≤ ((answering (frame .lockUnit) [f, f]).ports.get .sp).busyWaiting) ∧
      (∀ c ∈ allCommands, c.byte ≠ 0xFF#8) ∧ (base.ports.get .lpA).outstanding = none ∧
      (({ base with ports := base.ports.set .lpA { PortUnit.clear with receiver := .length } } : State).ports.get
        .lpA).receiver ≠ .hunt ∧
      1 ≤ (1#8).toNat ∧ (60#8).toNat ≤ 60 ∧ (0#8).toNat = 0 ∧ 60 < (61#8).toNat ∧
      (Receiver.length.take 0#8).2 = none := by
  decide +kernel

/-- Well-formed requests with every parameter at its largest value. -/
theorem witness_RequestRoundTrip :
    (Instr.counterSet .sp 255 255 255 65535 255 255 255).wellFormed = true ∧
      requestParts (.counterSet .sp 255 255 255 65535 255 255 255) =
        some (.sp, .counterSet, [255, 255, 255, 65535, 255, 255, 255]) ∧
      (Instr.stop .lpA none 65535).wellFormed = true ∧
      requestParts (.stop .lpA none 65535) = some (.lpA, .stop, [65535]) := by decide

theorem witness_FrameRunsRequest :
    (Instr.openSale .lpA 7 1240).wellFormed = true ∧
      requestParts (.openSale .lpA 7 1240) = some (.lpA, .openSale, [7, 1240]) ∧
      (encodeRequest (.openSale .lpA 7 1240)).isSome = true ∧ base.Running ∧
      (base.ports.get .lpA).receiver = .hunt := by
  decide +kernel

/-- A slot that is recycled in its mechanism, and one that is not. -/
theorem witness_Route :
    ((base.denoms.get 1).enabled = true ∧ (base.denoms.get 1).kind = .coin ∧ (base.denoms.get 1).recycle = true) ∧
      (base.denoms.get 11).enabled = false := by
  decide

/-- A coin that is taken, one that is not, and the three bindings; stray credit at 999,999, a tender at 999,999. -/
theorem witness_CoinReport :
    base.Running ∧ (base.denoms.get 1).enabled = true ∧ (base.denoms.get 1).kind = .coin ∧
      (base.denoms.get 11).enabled = false ∧ base.route .coin 1 false = some (.unit 1) ∧
      (base.lanes.get .a).binding = .none ∧ 999999 ≤ 999999 ∧
      (let s := withSales [sale 7 .tendering 0 999999]
         { base with lanes := base.lanes.set .a { base.lanes.a with binding := .sale 7, stray := 999999 } }
       (s.lanes.get .a).binding = .sale 7 ∧ s.findSale .a 7 = some (sale 7 .tendering 0 999999) ∧
         (s.lanes.get .a).stray ≤ 999999 ∧
         (sale 7 .tendering 0 999999).coinValue + (sale 7 .tendering 0 999999).noteValue ≤ 999999) ∧
      (({ base with lanes := base.lanes.set .a { base.lanes.a with binding := .floatIn } } : State).lanes.get
        .a).binding = .floatIn := by
  decide +kernel

/-- A note that is taken on a stack of seven, and one that meets a stack of eight, a disabled slot, a return. -/
theorem witness_NoteReport :
    base.Running ∧ (base.denoms.get 6).enabled = true ∧ (base.denoms.get 6).kind = .note ∧
      ((withEscrow (.sale 7) .idle (List.replicate 7 (note .sale)) base).escrows.get .a).entries.length < 8 ∧
      ¬ ((withEscrow (.sale 7) .idle (List.replicate 8 (note .sale)) base).escrows.get .a).entries.length < 8 ∧
      (base.denoms.get 11).enabled = false ∧
      ((withEscrow (.sale 7) (.returning 3000) [] base).escrows.get .a).status = .returning 3000 ∧
      (base.lanes.get .a).binding = .none ∧ (base.escrows.get .a).owner = .none ∧ base.stackJobOf .a = none ∧
      (let s := withSales [sale 7 .tendering 0 0]
         { base with lanes := base.lanes.set .a { base.lanes.a with binding := .sale 7 } }
       (s.lanes.get .a).binding = .sale 7 ∧ s.findSale .a 7 = some (sale 7 .tendering 0 0) ∧
         0 + 0 + (s.denoms.get 6).value ≤ 999999) ∧
      (({ base with lanes := base.lanes.set .a { base.lanes.a with binding := .floatIn } } : State).lanes.get
        .a).binding = .floatIn := by
  decide +kernel

/-- One piece of a job with one undone, two pieces of a job with two undone; a SWEEP job's unit. -/
theorem witness_ExitSensorOwn :
    (let s := paying 2 1 1 false
     let j := { job 0 1 2 1 with inFlight := true }
     s.Running ∧ s.findJob 0 = some j ∧ j.stopped = false ∧ j.done < j.ordered ∧ j.done + 1 = j.ordered ∧
       s.findSale .a 7 = some (sale 7 .paying 10 50) ∧ j.origin = .sale .a 7 ∧ j.dest = .cup .a ∧
       (s.mechs.get .coin).phase =
         .ejecting { job := 0, source := .unit 1, dest := .cup .a, attempt := 1, faultPending := false, ends := 400 }) ∧
      (let j := { job 0 1 2 0 with inFlight := true }
       (paying 2 0 1 true).findJob 0 = some j ∧ j.done + 1 < j.ordered) ∧
      (let j : Job := { job 0 1 2 0 with origin := .sweep, dest := .cashbox .coin }
       let s := { ejecting j 1 false base with
         laneJobs := ⟨[], []⟩
         serviceJobs := [{ j with inFlight := true }] }
       s.findJob 0 = some { j with inFlight := true } ∧ (s.units.get 1).slot = some 1 ∧
         (s.boxes.get (unitKind 1)).counts.get 1 + 2 ≤ 65535) := by
  decide +kernel

/-- A job with one undone piece; a unit whose committed number is within its count, and one where it is not. -/
theorem witness_ExtraPiece :
    (let s := paying 1 0 1 false
     let j := { job 0 1 1 0 with inFlight := true }
     s.Running ∧ s.findJob 0 = some j ∧ j.stopped = false ∧ j.done + 1 = j.ordered ∧
       (s.units.get 1).committed - 1 ≤ (s.units.get 1).count - 2 ∧ s.findSale .a 7 = some (sale 7 .paying 10 50)) ∧
      (base.units.get 1).committed ≤ (base.units.get 1).count ∧
      (let s := { paying 2 0 1 false with units := base.units.set 1 { base.units.e1 with count := 1, committed := 2 } }
       (s.units.get 1).count < (s.units.get 1).committed ∧ ∃ j ∈ s.allJobs, j.source = .unit 1) := by
  decide +kernel

/-- A stack-down bound for a drum, one bound for the note cashbox, and a report of another sensor. -/
theorem witness_StackDownDetected :
    (let s := stacking (.drum 1) false
     s.Running ∧
       (s.mechs.get .note).phase =
         .ejecting { job := 0, source := .escrow .a, dest := .drum 1, attempt := 1, faultPending := false
                     ends := 2000 } ∧
       (s.escrows.get .a).entries.find? EscrowEntry.inTransit = some { note .sale with inTransit := true } ∧
       sensorAt (.drum 1) (.drum 1) = true ∧ sensorAt (.drum 0) (.drum 1) = false ∧
       (s.findJob 0).isSome = true) ∧
      sensorAt .noteCashbox (.cashbox .note) = true ∧ (base.boxes.get .note).counts.get 6 < 65535 := by
  decide +kernel

/-- Attempt 2 without fault pending, attempt 1 with it, and a stack-down. -/
theorem witness_Misses :
    (let s := paying 1 0 2 false
     let j := { job 0 1 1 0 with inFlight := true }
     s.Running ∧ s.findJob 0 = some j ∧ j.stopped = false ∧
       (s.mechs.get .coin).phase =
         .ejecting { job := 0, source := .unit 1, dest := .cup .a, attempt := 2, faultPending := false, ends := 400 }) ∧
      ((paying 1 0 1 true).mechs.get .coin).phase =
        .ejecting { job := 0, source := .unit 1, dest := .cup .a, attempt := 1, faultPending := true, ends := 400 } ∧
      ((stacking (.drum 1) true).mechs.get .note).phase =
        .ejecting { job := 0, source := .escrow .a, dest := .drum 1, attempt := 1, faultPending := true
                    ends := 2000 } := by
  decide +kernel

/-- Attempt 3 from an ACTIVE unit with a job of a sale without a request. -/
theorem witness_ThirdMissJams :
    (let s := paying 1 0 3 false
     let j := { job 0 1 1 0 with inFlight := true }
     s.Running ∧ s.findJob 0 = some j ∧ j.stopped = false ∧ (s.units.get 1).state = .active ∧
       (s.mechs.get .coin).phase =
         .ejecting { job := 0, source := .unit 1, dest := .cup .a, attempt := 3, faultPending := false, ends := 400 } ∧
       s.hasRequest .a 7 = false ∧ (∃ i ∈ s.allJobs, i.source = .unit 1 ∧ i.origin = .sale .a 7 ∧ i.stopped = false) ∧
       ((s.allJobs.filter fun i => i.onUnit 1 && decide (i.origin = .sale .a 7) && !i.stopped).map fun i =>
         i.undone * s.unitValue 1) = [20]) := by
  decide +kernel

/-- A mechanism in each of its states, with the sense line inactive. -/
theorem witness_SensesAndKey :
    base.Running ∧ (base.mechs.get .coin).sense = false ∧ (base.mechs.get .coin).phase = .ready ∧
      ((paying 1 0 1 false).mechs.get .coin).sense = false ∧
      ((paying 1 0 1 false).mechs.get .coin).phase =
        .ejecting { job := 0, source := .unit 1, dest := .cup .a, attempt := 1, faultPending := false, ends := 400 } ∧
      (let s := { base with mechs := base.mechs.set .note { phase := .fault .stackDouble, sense := false } }
       (s.mechs.get .note).phase = .fault .stackDouble ∧ (s.mechs.get .note).sense = false) := by
  decide +kernel

/-- A return in progress for a REFUNDING sale with neither job nor request, and for an ORPHAN stack. -/
theorem witness_EscrowReturn :
    (let s := withEscrow (.sale 7) (.returning 3000) [note .sale] (withSales [sale 7 .refunding 0 0] base)
     s.Running ∧ (s.escrows.get .a).status = .returning 3000 ∧ (s.escrows.get .a).owner = .sale 7 ∧
       s.findSale .a 7 = some (sale 7 .refunding 0 0) ∧ s.hasJobs .a 7 = false ∧ s.hasRequest .a 7 = false) ∧
      ((withEscrow .orphan (.returning 3000) [note .stray] base).escrows.get .a).owner = .orphan := by
  decide +kernel

/-- A sale with a reservation, and one without. -/
theorem witness_HoldExpiry :
    base.Running ∧ base.reservationOf .a 7 = none ∧ (held .exact).reservationOf .a 7 = some reservation := by
  decide

/-- A QUOTE request at the head of the list, for a TENDERED sale. -/
theorem witness_QuoteCompletion :
    let r : PlanReq := { lane := .a, tag := 7, kind := .quote, amount := 40, shielded := true }
    let s := { withSales [sale 7 .tendered 10 50] base with planReqs := [r] }
    s.Running ∧ s.planReqs = r :: [] ∧ r.kind = .quote ∧
      s.findSale r.lane r.tag = some (sale 7 .tendered 10 50) := by
  decide

/-- An empty list; a REFUND of a REFUNDING sale; a REPLAN of a PAYING sale with a job in the queue and with none. -/
theorem witness_JobsCompletion :
    base.Running ∧ base.planReqs = [] ∧
      (let r : PlanReq := { lane := .a, tag := 7, kind := .refund, amount := 50, shielded := false }
       let x := { sale 7 .refunding 10 50 with refund := some 50, refundShortfall := some 0 }
       let s := { withSales [x] base with planReqs := [r] }
       s.planReqs = r :: [] ∧ r.kind ≠ .quote ∧ s.findSale r.lane r.tag = some x) ∧
      (let r : PlanReq := { lane := .a, tag := 7, kind := .replan, amount := 20, shielded := false }
       let s := { paying 2 0 1 false with planReqs := [r] }
       s.planReqs = r :: [] ∧ s.findSale .a 7 = some (sale 7 .paying 10 50) ∧
         s.laneJobs.get .a = [] ++ { job 0 1 2 0 with inFlight := true } :: [] ∧
         (job 0 1 2 0).ofSale .a 7 = true) ∧
      (∀ j ∈ base.laneJobs.get .a, j.ofSale .a 7 = false) := by
  decide +kernel

/-- Two levels, an exhausted search, and a choice at the bounds of all three limits. -/
theorem witness_SearchFindsBest :
    (∀ e ∈ [(50, 1), (20, 2)], 0 < e.1) ∧ (search [(50, 1), (20, 2)] 65 3 256).steps < 256 ∧
      [0, 2].length = [(50, 1), (20, 2)].length ∧ (∀ e ∈ [(50, 1), (20, 2)].zip [0, 2], e.2 ≤ e.1.2) ∧
      [0, 2].sum ≤ 3 ∧ (([(50, 1), (20, 2)].zip [0, 2]).map fun e => e.2 * e.1.1).sum ≤ 65 := by
  decide +kernel

/-- A float that no slot is over-reserved in, and one where slot 2 is. -/
theorem witness_Withdrawal :
    (∀ d, (held .exact).reservedTotal d ≤ (held .exact).backing d) ∧
      (let s := { held .exact with reservations := [{ reservation with counts := [(2, 1)] }] }
       s.backing 2 < s.reservedTotal 2) := by
  decide +kernel

/-- A mechanism that may not grant; one with a stack-down, one lane's job, both lanes' jobs, and no job at all. -/
theorem witness_Arbitration :
    ({ base with pfw := true } : State).pfw = true ∧ ((paying 1 0 1 false).mechs.get .coin).phase ≠ .ready ∧
      base.pfw = false ∧ (base.mechs.get .coin).phase = .ready ∧
      (let j : Job := { job 0 1 2 0 with origin := .stackDown, source := .escrow .a, dest := .routed }
       let s := { withEscrow .stacking .idle [note .sale] base with stackJobs := [j] }
       s.firstEligible .note s.stackJobs = some j ∧ s.topRoute .a = some (.unit 9)) ∧
      (let s := { base with laneJobs := ⟨[job 0 1 2 0], [{ job 1 1 1 0 with origin := .sale .b 7, dest := .cup .b }]⟩ }
       s.firstEligible .coin (s.laneJobs.get .a) = some (job 0 1 2 0) ∧
         (s.firstEligible .coin (s.laneJobs.get .b)).isSome = true ∧ 0 < (s.turns.get .coin).allowance ∧
         s.firstEligible .coin s.stackJobs = none ∧ s.firstEligible .note (s.laneJobs.get .a) = none) ∧
      (let s := { base with laneJobs := ⟨[job 0 1 2 0], []⟩, turns := ⟨⟨.a, 0⟩, ⟨.a, 0⟩⟩ }
       (s.turns.get .coin).allowance = 0 ∧ s.firstEligible .coin (s.laneJobs.get .b) = none) := by
  decide +kernel

/-- A sample that a counter takes, with an empty slot set and with a shared slot; samples that it does not take. -/
theorem witness_CounterSample :
    let sel : Select :=
      { event := .pieceOut, laneMask := 1, slotMask := 2, mode := .count, threshold := 1, invert := false }
    let c : Counter := { select := sel, value := 4294967295, edge := false }
    c.takes { kind := .pieceOut, lane := .lane .a, slots := some 2, value := 1 } = true ∧
      2 ^ 32 ≤ c.value + c.rise { kind := .pieceOut, lane := .lane .a, slots := some 2, value := 1 } ∧
      c.takes { kind := .pieceOut, lane := .lane .a, slots := some 1, value := 1 } = false ∧
      c.takes { kind := .pieceOut, lane := .lane .a, slots := some 0, value := 1 } = false ∧
      c.takes { kind := .pieceOut, lane := .lane .b, slots := some 2, value := 1 } = false ∧
      c.takes { kind := .jam, lane := .lane .a, slots := some 2, value := 1 } = false ∧
      ({ c with select := { sel with slotMask := 0 } } : Counter).takes
        { kind := .pieceOut, lane := .lane .a, slots := some 0, value := 1 } = true := by
  decide +kernel

/-- A running part with the warning inactive and an ejection in flight, and with it active, armed and not armed. -/
theorem witness_PowerFailWarning :
    (paying 1 0 1 false).Running ∧ (paying 1 0 1 false).pfw = false ∧
      ({ base with pfw := true, armed := true } : State).armed = true ∧
      ({ base with pfw := true } : State).armed = false ∧
      ((paying 1 0 1 false).mechs.get .coin).phase =
        .ejecting { job := 0, source := .unit 1, dest := .cup .a, attempt := 1, faultPending := false, ends := 400 } ∧
      ((paying 1 0 1 false).units.get 1).state ≠ .absent := by
  decide +kernel

theorem witness_WarmReset : base.Running ∧ (∀ k, (base.mechs.get k).phase = .ready) :=
  ⟨⟨rfl, rfl⟩, by intro k; cases k <;> rfl⟩

/-- A part without supply, with supply and the writer idle, and with a write in progress; a store that holds what the
part holds. -/
theorem witness_SupplyLossAndReturn :
    base.Running ∧ base.writer = .idle ∧ ({ base with powered := false } : State).powered = false ∧
      ({ base with writer := .writing (base.image 8) } : State).writer = .writing (base.image 8) ∧
      (let s := { base with store := allRecords.foldl (fun c r => c.put (base.image r)) base.store }
       s.Running ∧ s.writer = .idle ∧ denomsInRange s.denoms = true ∧
         settingsInRange (s.units.map UnitRec.settings) = true ∧ floorsInRange s.floors = true ∧
         s.limitsImage.inRange = true ∧ weightsInRange (s.lanes.map LaneRec.weight) = true ∧
         (∀ r, s.store.content r = some (s.image r)) ∧
         (∀ u, (s.units.get u).count ≤ (s.units.get u).capacity ∧
           ((s.units.get u).state = .absent ↔ (s.units.get u).slot = none) ∧
           ((s.units.get u).slot = none → (s.units.get u).count = 0) ∧
           ∀ d, (s.units.get u).slot = some d → (s.denoms.get d).kind = unitKind u)) := by
  decide +kernel

/-- Records 3 and 7 eligible with the scan position between them, so that 7 is written first; a write in progress. -/
theorem witness_RecordWriter :
    (let s := { base with now := 200, scan := 4, dirty := [(3, 0), (7, 0)] }
     s.Running ∧ s.writer = .idle ∧ s.pfw = false ∧ (7, 0) ∈ s.dirty ∧ 0 + 200 ≤ s.now ∧
       (∀ e ∈ s.dirty, e.2 + 200 ≤ s.now → e.1 ≠ 7 →
         (s.scan ≤ 7 ∧ (e.1 < s.scan ∨ 7 < e.1)) ∨ (7 < s.scan ∧ 7 < e.1 ∧ e.1 < s.scan))) ∧
      ({ base with writer := .writing (base.image 21) } : State).writer = .writing (base.image 21) := by
  decide +kernel

/-! The laws hold of the float, and a step from it answers a next state. -/

theorem base_orderLaw : base.OrderLaw := by
  intro l
  cases l <;> (unfold orderListLaw; decide +kernel)

theorem base_escrowLaw : base.EscrowLaw := by intro l; cases l <;> decide +kernel

theorem base_tables : base.DenomLaw ∧ base.CounterLaw ∧ dirtyLaw base.dirty := by
  refine ⟨by unfold State.DenomLaw; decide +kernel, ?_, by unfold dirtyLaw; decide⟩
  intro n
  revert n
  decide +kernel

theorem base_queues : base.ServiceQueueLaw ∧ base.EventLaw ∧ base.BusyLaw := by
  refine ⟨by unfold State.ServiceQueueLaw; decide, ?_, ?_⟩ <;> (intro p; cases p <;> decide)

theorem base_capacityLaw : base.CapacityLaw := by
  refine ⟨fun u => ?_, fun l j h => ?_, fun j h => ?_⟩
  · revert u
    decide +kernel
  · cases l <;> cases h
  · cases h

/-- A step of OPEN_SALE from the float: the premise of every statement of what steps keep. -/
theorem witness_step : ∃ t, step { base with pending := [.openSale .lpA 7 1240] } = .next t ∧
    t.findSale .a 7 = some (sale 7 .waiting 1240 0) :=
  ⟨_, rfl, by decide +kernel⟩

theorem witness_StepKeepsOrderLists :
    ({ base with pending := [.openSale .lpA 7 1240] } : State).OrderLaw := base_orderLaw

theorem witness_StepKeepsEscrowRoom :
    ({ base with pending := [.openSale .lpA 7 1240] } : State).EscrowLaw := base_escrowLaw

theorem witness_StepKeepsTables :
    ({ base with pending := [.openSale .lpA 7 1240] } : State).DenomLaw ∧
      ({ base with pending := [.openSale .lpA 7 1240] } : State).CounterLaw ∧ dirtyLaw base.dirty := base_tables

theorem witness_StepKeepsQueues :
    ({ base with pending := [.openSale .lpA 7 1240] } : State).ServiceQueueLaw ∧
      ({ base with pending := [.openSale .lpA 7 1240] } : State).EventLaw ∧
      ({ base with pending := [.openSale .lpA 7 1240] } : State).BusyLaw := base_queues

theorem witness_StepKeepsCapacity :
    ({ base with pending := [.openSale .lpA 7 1240] } : State).CapacityLaw := base_capacityLaw

theorem witness_LanePortsIsolated :
    requestParts (.openSale .lpA 7 1240) = some (Lane.a.port, .openSale, [7, 1240]) ∧
      ∃ t, exec (.openSale .lpA 7 1240) base = .next t := ⟨rfl, _, rfl⟩

/-! ### Witnesses of further clauses -/

/-- Sale 7 is STOPPED with its stopped job in flight; the job has two pieces undone. -/
def stoppedJob : Job := { job 0 1 2 0 with inFlight := true, stopped := true }

/-- The state of that job, at an attempt. -/
def stopped (attempt : Nat) : State :=
  ejecting { job 0 1 2 0 with stopped := true } attempt false (withSales [sale 7 .stopped 10 50]
    { base with units := base.units.set 1 { base.units.e1 with committed := 2 }, nextJob := 1 })

/-- A REFUND request of sale 7. -/
def refund : PlanReq := { lane := .a, tag := 7, kind := .refund, amount := 50, shielded := false }

/-- An empty queue with supply and without. -/
theorem witness_StepRunsFront_tick :
    base.pending = [] ∧ base.Running ∧ ({ base with powered := false } : State).powered = false := by decide

/-- A PAYING sale with nothing left at shortfall 0 and 1, one with a job, REFUNDING sales with a stack and without. -/
theorem witness_PayChecks_settle :
    base.findSale .a 7 = none ∧
      (let x := { sale 7 .paying 10 50 with shortfall := 1 }
       (withSales [x] base).findSale .a 7 = some x ∧ (withSales [x] base).hasJobs .a 7 = false ∧
         (withSales [x] base).hasRequest .a 7 = false) ∧
      (paying 1 0 1 false).hasJobs .a 7 = true ∧ ({ base with planReqs := [refund] } : State).hasRequest .a 7 = true ∧
      (let s := withEscrow (.sale 7) .fault [note .sale] (withSales [sale 7 .refunding 0 0] base)
       s.findSale .a 7 = some (sale 7 .refunding 0 0) ∧ (s.escrows.get .a).owner = .sale 7) := by
  decide +kernel

/-- No coin value, and a stack of the sale's notes whose sensor shows empty. -/
theorem witness_Cancel_atOnce :
    let s := withSales [sale 7 .tendering 50 0]
      { base with escrows := base.escrows.set .a ⟨[note .sale], .sale 7, .idle, true⟩ }
    Ready s .lpA ∧ s.findSale .a 7 = some (sale 7 .tendering 50 0) ∧ (sale 7 .tendering 50 0).coinValue = 0 ∧
      s.hasRequest .a 7 = false ∧ s.hasJobs .a 7 = false ∧ (s.escrows.get .a).owner = .sale 7 ∧
      (s.escrows.get .a).entries ≠ [] ∧ (s.escrows.get .a).sensorEmpty = true :=
  ⟨⟨⟨rfl, rfl⟩, rfl⟩, by decide +kernel⟩

/-- A floor written for an OPEN lane in HOLD. -/
theorem witness_Settings_shield :
    let t := base.writeFloor .b 1 255
    t.lanes = base.lanes ∧ t.reservations = base.reservations ∧
      t.floors = base.floors.set .b ((base.floors.get .b).set 1 255) ∧ (base.lanes.get .b).opened = true ∧
      (base.lanes.get .b).holding = true := by
  decide +kernel

/-- A unit at its high-water mark and one above it, with amount 0 and above, at a queue of 7 and of 8 jobs. -/
theorem witness_FloatCommands_sweep :
    let s (count : Nat) := { base with units := base.units.set 1 { base.units.e1 with count := count } }
    let j : Job := { job 0 0 1 0 with origin := .sweep, dest := .cashbox .coin }
    ((s 80).units.get 1).count ≤ ((s 80).units.get 1).highWater ∧
      (((s 81).units.get 1).slot = some 1 ∧ ((s 81).units.get 1).state = .active ∧
        ((s 81).units.get 1).highWater < ((s 81).units.get 1).count ∧ (∀ j ∈ (s 81).serviceJobs, j.source ≠ .unit 1) ∧
        (s 81).sweepAmount 1 1 = 21) ∧
      ({ s 81 with reservations := [{ reservation with counts := [(1, 81)] }] } : State).sweepAmount 1 1 = 0 ∧
      (List.replicate 7 j).length < 8 ∧ 8 ≤ (List.replicate 8 j).length ∧ j.source ≠ .unit 1 := by
  decide +kernel

/-- A sensor that shows empty; a credited value of 0 and one above it; a pending request and none. -/
theorem witness_ClearEscrow_sale :
    let s (c : Credit) := withSales [{ sale 7 .refunding 0 0 with refund := some 0 }]
      { base with escrows := base.escrows.set .a ⟨[note c], .sale 7, .fault, true⟩ }
    Ready (s .sale) .sp ∧ (s .sale).key = true ∧ ((s .sale).escrows.get .a).status = .fault ∧
      ((s .sale).escrows.get .a).sensorEmpty = true ∧ (s .sale).hasJobs .a 7 = false ∧
      (s .sale).hasRequest .a 7 = false ∧ (s .sale).entriesValue .a (fun e => decide (e.credit = .sale)) = 1000 ∧
      (s .nothing).entriesValue .a (fun e => decide (e.credit = .sale)) = 0 ∧
      ({ s .sale with planReqs := [refund] } : State).planReqs.find? (fun r => r.isOf .a 7) = some refund :=
  ⟨⟨⟨rfl, rfl⟩, rfl⟩, by decide +kernel⟩

/-- Each latched detail that the table of R173 gives, at the ends of its range. -/
theorem witness_ReadEvents_details :
    let e := { EventSet.clear with
      restarted := some (.powerOn, 0), escrowFault := some (.b, 0), granted := some 65535, strayRise := some 999999
      wrapped := some 7, transferDone := some (11, .empty, 65535) }
    let s := { base with events := base.events.set .sp e }
    (s.events.get .sp).restarted = some (.powerOn, 0) ∧ (s.events.get .sp).escrowFault = some (.b, 0) ∧
      (s.events.get .sp).granted = some 65535 ∧ (s.events.get .sp).strayRise = some 999999 ∧
      (s.events.get .sp).wrapped = some 7 ∧ (s.events.get .sp).transferDone = some (11, .empty, 65535) ∧
      s.boxFull .coin = false := by
  decide +kernel

/-- A float-in and a stray note that meet a class 0 job. -/
theorem witness_NoteReport_join :
    let s := stacking (.drum 1) false
    s.Running ∧ s.stackJobOf .a ≠ none ∧ (s.lanes.get .a).binding = .none ∧ (s.escrows.get .a).owner ≠ .none ∧
      (({ s with lanes := s.lanes.set .a { s.lanes.a with binding := .floatIn } } : State).lanes.get .a).binding =
        .floatIn := by
  decide +kernel

/-- The last job of a sale without a request; a stopped job; the last piece of a transfer. -/
theorem witness_ExitSensorOwn_ends :
    ((paying 1 0 1 false).findJob 0 = some { job 0 1 1 0 with inFlight := true } ∧
        (paying 1 0 1 false).hasRequest .a 7 = false ∧
        (paying 1 0 1 false).findSale .a 7 = some (sale 7 .paying 10 50)) ∧
      ((stopped 1).Running ∧ (stopped 1).findJob 0 = some stoppedJob ∧ stoppedJob.done < stoppedJob.ordered ∧
        (stopped 1).findSale .a 7 = some (sale 7 .stopped 10 50) ∧
        ((stopped 1).mechs.get .coin).phase =
          .ejecting { job := 0, source := .unit 1, dest := .cup .a, attempt := 1, faultPending := false, ends := 400 }) ∧
      (let j : Job := { job 0 1 1 0 with origin := .sweep, dest := .cashbox .coin, inFlight := true }
       let x : Transfer := { kind := .sweep, requested := 1, moved := 0, ended := .running }
       let s := { ejecting j 1 false base with
         laneJobs := ⟨[], []⟩, serviceJobs := [j], transfers := base.transfers.set 1 (some x) }
       s.findJob 0 = some j ∧ j.done + 1 = j.ordered ∧ s.transfers.get 1 = some x) := by
  decide +kernel

/-- A job to shorten whose sale has a pending REFUND request, and one whose sale has none. -/
theorem witness_ExtraPiece_replan :
    let s := { paying 2 0 1 false with units := base.units.set 1 { base.units.e1 with count := 1, committed := 2 } }
    (s.units.get 1).count < (s.units.get 1).committed ∧ s.hasRequest .a 7 = false ∧
      ({ s with planReqs := [refund] } : State).planReqs.find? (fun r => r.isOf .a 7) = some refund := by
  decide +kernel

/-- A stopped job at its first attempt. -/
theorem witness_Misses_stopped :
    (stopped 1).Running ∧ (stopped 1).findJob 0 = some stoppedJob ∧ stoppedJob.stopped = true := by
  decide +kernel

/-- A LOCKED unit's EMPTY job at its third attempt, with its transfer. -/
theorem witness_ThirdMissJams_locked :
    let j : Job := { job 0 1 2 0 with origin := .empty, dest := .cashbox .coin, inFlight := true }
    let x : Transfer := { kind := .empty, requested := 2, moved := 0, ended := .running }
    let s := { ejecting j 3 false base with
      laneJobs := ⟨[], []⟩, serviceJobs := [j], transfers := base.transfers.set 1 (some x)
      units := base.units.set 1 { base.units.e1 with committed := 2, state := .locked } }
    s.Running ∧ s.findJob 0 = some j ∧ j.stopped = false ∧ (s.units.get 1).state = .locked ∧
      s.transfers.get 1 = some x ∧ (∃ i ∈ s.allJobs, i.source = .unit 1 ∧ i.origin = .empty) ∧
      (s.mechs.get .coin).phase =
        .ejecting { job := 0, source := .unit 1, dest := .cashbox .coin, attempt := 3, faultPending := false
                    ends := 400 } := by
  decide +kernel

/-- Two reservations of different sales, with the younger one in its place. -/
theorem witness_Withdrawal_order :
    let r : Reservation := { reservation with tag := 8 }
    let s := { base with reservations := [reservation, r] }
    (s.reservations.map fun r => (r.lane, r.tag)).Nodup ∧ s.reservations = [reservation] ++ r :: [] := by
  decide

/-- An ejection in flight from an ACTIVE tube, and a stack-down bound for a drum. -/
theorem witness_UnitInFlight : (paying 1 0 1 false).UnitInFlight 1 ∧ (stacking (.drum 1) false).UnitInFlight 9 :=
  ⟨⟨.coin, _, rfl, .inl rfl⟩, ⟨.note, _, rfl, .inr ⟨.a, 1, rfl, rfl, rfl⟩⟩⟩

/-- A whole, a torn and an out-of-range unit record of a tube with a slot; whole and torn escrow records. -/
theorem witness_SupplyLossAndReturn_records :
    let c : CountStore := { CountStore.blank with
      settings := .whole (base.units.map UnitRec.settings)
      units := (CountStore.blank.units.set 0 (.whole ⟨100, .lockPending⟩)).set 1 (.whole ⟨101, .active⟩)
      escrows := ⟨.whole ⟨List.replicate 8 6, .sale 65535⟩, .whole ⟨List.replicate 9 6, .stray⟩⟩ }
    (c.restoredSettings.get 0).slot = some 0 ∧ c.units.get 0 = .whole ⟨100, .lockPending⟩ ∧
      100 ≤ (c.restoredSettings.get 0).capacity ∧ (c.restoredSettings.get 1).slot = some 1 ∧
      c.units.get 1 = .whole ⟨101, .active⟩ ∧ (c.restoredSettings.get 1).capacity < 101 ∧
      (c.restoredSettings.get 5).slot = none ∧ c.escrows.get .a = .whole ⟨List.replicate 8 6, .sale 65535⟩ ∧
      c.escrows.get .b = .whole ⟨List.replicate 9 6, .stray⟩ ∧ c.isBlank = false := by
  decide +kernel

/-- While PFW is active, a record just dirty with the scan position behind it. -/
theorem witness_RecordWriter_flush :
    let s := { base with pfw := true, scan := 8, dirty := [(3, 0), (7, 0)] }
    s.pfw = true ∧ s.writer = .idle ∧ (3, 0) ∈ s.dirty ∧
      (∀ e ∈ s.dirty, e.1 ≠ 3 → (s.scan ≤ 3 ∧ (e.1 < s.scan ∨ 3 < e.1)) ∨ (3 < s.scan ∧ 3 < e.1 ∧ e.1 < s.scan)) := by
  decide +kernel

theorem witness_StepKeepsQueues_rest :
    ({ base with pending := [.openSale .lpA 7 1240] } : State).LaneQueueLaw ∧
      ({ base with pending := [.openSale .lpA 7 1240] } : State).RequestLaw :=
  ⟨fun l => by cases l <;> decide, by unfold State.RequestLaw; decide⟩

/-- A float with a job in flight and a reservation on the same tube. -/
def books : State :=
  { paying 2 1 1 false with
    sales := ⟨[sale 7 .paying 10 50, planned 8 .exact], []⟩
    reservations := [{ reservation with tag := 8 }] }

theorem books_jobs : books.allJobs = [{ job 0 1 2 1 with inFlight := true }] := by decide +kernel

theorem witness_StepKeepsCapacity_books : books.BooksLaw := by
  have hs : ∀ u : UnitId, ((books.units.get u).state = .absent ↔ (books.units.get u).slot = none) ∧
      ((books.units.get u).state = .active → books.slotFitsUnit u = true) ∧
      (u = 1 → (books.units.get u).state = .active) := by decide +kernel
  refine ⟨⟨?_, ?_, ?_⟩, ?_, ⟨?_, ?_, ?_, ?_, ?_, ?_⟩, ?_, ⟨?_, ?_, ?_, ?_⟩, ?_⟩
  · intro u; revert u; decide +kernel
  · intro l j h; cases l
    · exact ⟨1, by cases List.mem_singleton.mp h; rfl⟩
    · cases h
  · intro j h; cases h
  · intro u; revert u; unfold UnitRec.Law; decide +kernel
  · intro u; revert u; decide +kernel
  · intro j h u _; rw [books_jobs] at h; cases List.mem_singleton.mp h; decide
  · decide +kernel
  · intro j h; rw [books_jobs] at h; cases List.mem_singleton.mp h; decide
  · intro j h; cases h
  · intro k e h; cases k
    · cases h; exact ⟨by decide, fun j hj _ => by rw [books_jobs] at hj; cases List.mem_singleton.mp hj; rfl⟩
    · cases h
  · intro u
    obtain ⟨h1, h2, h3⟩ := hs u
    refine ⟨h1, h2, fun h j hj e => ?_, fun h l j hj e => ?_⟩
    · rw [books_jobs] at hj
      cases List.mem_singleton.mp hj
      have hu := h3 (by cases e; rfl)
      rcases h with h | h <;> simp [hu] at h
    · cases l
      · cases List.mem_singleton.mp hj
        have hu := h3 (by cases e; rfl)
        simp [hu] at h
      · cases hj
  · unfold State.RequestLaw; decide
  · decide
  · intro r h; cases List.mem_singleton.mp h; exact ⟨planned 8 .exact, by decide +kernel⟩
  · intro q h; cases h
  · intro d; revert d; decide +kernel

/-- The lines of a coin ejection from T1 into cup A (R114), and the widths of the lane report: the weight takes the two
bytes of a setting of SET_LIMITS (R29, R168). -/
theorem test_drives_and_lane_report :
    (paying 1 0 1 false).ejectorDrive = true ∧ (paying 1 0 1 false).tubeSelect = some 1 ∧
      (paying 1 0 1 false).diverter = some (.cup .a) ∧ (paying 1 0 1 false).transportDrive = false ∧
      (stacking (.drum 1) false).transportSource = some (.escrow .a) ∧
      (stacking (.drum 1) false).transportDest = some (.drum 1) ∧
      (base.laneFields .a).map Field.width = [1, 1, 1, 1, 2, 3, 1, 1, 2, 1, 1, 2, 1, 1] := by
  decide +kernel

/-! ### Witnesses of the clauses on choice, samples and ignored reports -/

/-- A slot that no unit of lane A can pay; the roomiest unit of a slot, alone and on equal free counts. -/
theorem witness_Split_choice :
    (∀ u, ¬ base.CanPay .a 2 u) ∧ base.Roomiest .a 1 1 ∧
      ({ base with units := base.units.set 2 (tube 1 50) } : State).Roomiest .a 1 1 ∧
      0 < (splitPlan .a [(1, 51)] base).2 ∧ 0 < (splitPlan .a [(2, 1)] base).2 := by
  unfold State.Roomiest State.CanPay
  decide +kernel

/-- A LOCK_PENDING unit whose committed pieces are all of a job that STOP takes away. -/
theorem witness_Stop_lock :
    let s := withSales [sale 7 .paying 10 50] { base with
      laneJobs := ⟨[job 0 1 2 0], []⟩
      units := base.units.set 1 { base.units.e1 with committed := 2, state := .lockPending } }
    Ready s .lpA ∧ s.findSale .a 7 = some (sale 7 .paying 10 50) ∧ (s.units.get 1).state = .lockPending ∧
      ((s.laneJobs.get .a).any fun j => j.ofSale .a 7 && !j.inFlight && j.onUnit 1) = true ∧
      (s.units.get 1).committed -
        (((s.laneJobs.get .a).filter fun j => j.ofSale .a 7 && !j.inFlight && j.onUnit 1).map Job.undone).sum = 0 :=
  ⟨⟨⟨rfl, rfl⟩, rfl⟩, by decide +kernel⟩

/-- A service port that takes requests with the key off. -/
theorem witness_KeyAndRange_keyless : Ready { base with key := false } .sp := ⟨⟨rfl, rfl⟩, rfl⟩

/-- Codes at the end of their range and one past it. -/
theorem witness_SetDenom_codes : Ready base .sp ∧ base.key = true ∧ (1 : Nat) ≤ 1 ∧ (1 : Nat) < 2 :=
  ⟨base_ready .sp, rfl, by decide, by decide⟩

/-- A mechanism in each of its three states, with the job in flight second in its place. -/
theorem witness_Reads_mechanism :
    let e : Ejection := { job := 0, source := .unit 1, dest := .cup .a, attempt := 1, faultPending := false, ends := 400 }
    let j : Job := { job 0 1 1 0 with inFlight := true }
    let s := { paying 1 0 1 false with laneJobs := ⟨[job 1 0 1 0, j], []⟩ }
    (base.mechs.get .coin).phase = .ready ∧ (s.mechs.get .coin).phase = .ejecting e ∧ placeOf 0 = some (.lane .a) ∧
      s.jobsAt (.lane .a) = [job 1 0 1 0] ++ j :: [] ∧ j.serial = e.job ∧ (s.allJobs.map Job.serial).Nodup ∧
      (({ base with mechs := base.mechs.set .note ⟨.fault .stackDouble, false⟩ } : State).mechs.get .note).phase =
        .fault .stackDouble := by
  decide +kernel

/-- A tender of 999,990 that a 20 coin or a 1000 note saturates, with stray credit at 0 and at 999,999. -/
theorem witness_Reports_saturate :
    let s (stray : Nat) := withSales [sale 7 .tendering 0 999990]
      { base with lanes := base.lanes.set .a { base.lanes.a with binding := .sale 7, stray := stray } }
    ((s 0).lanes.get .a).binding = .sale 7 ∧ (s 0).findSale .a 7 = some (sale 7 .tendering 0 999990) ∧
      (sale 7 .tendering 0 999990).coinValue + (sale 7 .tendering 0 999990).noteValue ≤ 999999 ∧
      999999 < (sale 7 .tendering 0 999990).coinValue + ((s 0).denoms.get 1).value ∧
      ((s 0).lanes.get .a).stray ≤ 999999 ∧ ((s 999999).lanes.get .a).stray ≤ 999999 := by
  decide +kernel

/-- Mechanisms that no exit sensor report belongs to: READY, in FAULT, and in a stack-down. -/
theorem witness_ExitSensorOwn_ignored :
    (∀ e u, (base.mechs.get .coin).phase = .ejecting e → e.source ≠ .unit u) ∧
      (let s : State := { base with mechs := base.mechs.set .coin ⟨.fault .faultSense, true⟩ }
       ∀ e u, (s.mechs.get .coin).phase = .ejecting e → e.source ≠ .unit u) ∧
      ∀ e u, ((stacking (.drum 1) false).mechs.get .note).phase = .ejecting e → e.source ≠ .unit u :=
  ⟨fun _ _ h => (nomatch h), fun _ _ h => (nomatch h), fun _ _ h => by cases h; exact fun h => nomatch h⟩

/-- A note mechanism that no entry sensor report belongs to: READY, and with a drum piece on its way out. -/
theorem witness_StackDownDetected_ignored :
    (∀ e l, (base.mechs.get .note).phase = .ejecting e → e.source ≠ .escrow l) ∧
      (let e : Ejection :=
         { job := 0, source := .unit 8, dest := .outlet .a, attempt := 1, faultPending := false, ends := 0 }
       let s : State := { base with mechs := base.mechs.set .note ⟨.ejecting e, false⟩ }
       ∀ e l, (s.mechs.get .note).phase = .ejecting e → e.source ≠ .escrow l) :=
  ⟨fun _ _ h => (nomatch h), fun _ _ h => by cases h; exact fun h => nomatch h⟩

/-- An escrow that is IDLE and one in FAULT. -/
theorem witness_EscrowReturn_ignored :
    base.Running ∧ (base.escrows.get .a).status = .idle ∧
      ((withEscrow (.sale 7) .fault [note .sale] base).escrows.get .a).status = .fault := by
  decide

/-- The last piece of a sweep job, with its transfer, and of a sale's only job into a cup one below its limit. -/
theorem witness_ExtraPiece_places :
    (let j : Job := { job 0 1 1 0 with origin := .sweep, dest := .cashbox .coin, inFlight := true }
     let x : Transfer := { kind := .sweep, requested := 1, moved := 0, ended := .running }
     let s := { ejecting j 1 false base with
       laneJobs := ⟨[], []⟩, serviceJobs := [j], transfers := base.transfers.set 1 (some x) }
     s.findJob 0 = some j ∧ j.done + 1 = j.ordered ∧ (s.units.get 1).slot = some 1 ∧ s.transfers.get 1 = some x ∧
       (s.boxes.get (unitKind 1)).counts.get 1 + 2 ≤ 65535) ∧
      (let s := { paying 1 0 1 false with lanes := base.lanes.set .a { base.lanes.a with cup := 24 } }
       (s.lanes.get .a).cup < s.limits.cup ∧ (s.lanes.get .a).cup + 1 = s.limits.cup ∧
         (job 0 1 1 0).dest = .cup .a ∧ s.hasRequest .a 7 = false) := by
  decide +kernel

/-- A denomination table of different values. -/
theorem witness_SearchSound_values : base.DenomLaw := by
  unfold State.DenomLaw
  decide +kernel

/-- A stack whose top entry a class 0 grant marks, and a job that R98 makes eligible. -/
theorem witness_Arbitration_marks :
    let j : Job := { job 0 1 2 0 with origin := .stackDown, source := .escrow .a, dest := .routed }
    let s := { withEscrow .stacking .idle [note .stray, note .sale] base with stackJobs := [j] }
    s.pfw = false ∧ (s.mechs.get .note).phase = .ready ∧ s.firstEligible .note s.stackJobs = some j ∧
      s.topRoute .a = some (.unit 9) ∧ (s.escrows.get .a).entries = [note .stray] ++ [note .sale] ∧
      base.eligibleJob (job 0 1 2 0) = true ∧ base.firstEligible .note [job 0 1 2 0] = none := by
  decide +kernel

/-! ### Witnesses of the clauses on pauses, shortened jobs, the walk and the stack-down positions -/

/-- A port in LENGTH whose last byte came 10 ms ago keeps its frame; 11 ms ago, the byte is taken in HUNT (R166). -/
theorem test_byte_after_pause :
    let s (now : Nat) : State :=
      { base with
        now := now, ports := base.ports.set .lpA { PortUnit.clear with receiver := .length, lastByteAt := 100 } }
    ((nextOf (exec (.byteReceived .lpA 5#8) (s 110))).ports.get .lpA).receiver = .body 5 [] ∧
      ((nextOf (exec (.byteReceived .lpA 5#8) (s 111))).ports.get .lpA).receiver = .hunt ∧
      ((nextOf (exec (.byteReceived .lpA 0xA7#8) (s 111))).ports.get .lpA).receiver = .length := by
  decide +kernel

/-- A byte before and after the end of a long pause completes no frame. -/
theorem witness_Links_pause :
    let u : PortUnit := { PortUnit.clear with receiver := .length, lastByteAt := 100 }
    ¬ u.lastByteAt + 11 ≤ 110 ∧ u.lastByteAt + 11 ≤ 111 ∧ (Receiver.length.take 5#8).2 = none ∧
      (Receiver.hunt.take 5#8).2 = none := by
  decide +kernel

/-- Two undone pieces committed on a tube of two: the last piece of the job in flight, and a job of each class behind it,
with one undone piece and with more; and a tube whose every job is the one in flight. -/
theorem witness_ExtraPiece_shortens :
    let s (i : Job) : State :=
      { paying 1 0 1 false with
        laneJobs := ⟨[{ job 0 1 1 0 with inFlight := true }, i], []⟩
        units := base.units.set 1 { base.units.e1 with count := 2, committed := 2 } }
    let behind (i : Job) : Prop :=
      ((s i).units.get 1).count - 2 < ((s i).units.get 1).committed - 1 ∧
        (∃ x ∈ (s i).allJobs, x.source = .unit 1 ∧ x.serial ≠ 0) ∧
        (s i).findJob 0 = some { job 0 1 1 0 with inFlight := true } ∧ (s i).hasRequest .a 7 = false
    behind (job 1 1 1 0) ∧ behind (job 1 1 2 0) ∧ behind { job 1 1 2 0 with origin := .sweep, dest := .cashbox .coin } ∧
      (∀ x ∈ (paying 1 0 1 false).allJobs, x.source = .unit 1 → x.serial = 0) := by
  decide +kernel

/-- A running ejection, a LOCK_PENDING unit and an owned stack at a warm reset, over a dirty set in order. -/
theorem witness_WarmReset_dirty :
    let s : State :=
      { withEscrow (.sale 7) .idle [note .sale] (paying 1 0 1 false) with
        units := base.units.set 2 { base.units.e2 with state := .lockPending }, dirty := [(0, 5), (8, 6)] }
    s.Running ∧ dirtyLaw s.dirty ∧ (s.mechs.coin.phase =
        .ejecting { job := 0, source := .unit 1, dest := .cup .a, attempt := 1, faultPending := false, ends := 400 }) ∧
      (s.units.get 1).state ≠ .absent ∧ (s.units.get 2).state = .lockPending ∧ (s.escrows.get .a).owner ≠ .orphan := by
  unfold dirtyLaw
  decide +kernel

/-- Walks with an exact leaf, without one, and cut before any leaf; two values of 20 and 10 with one piece of each. -/
theorem witness_SearchFindsBest_walk :
    walkOrder [(20, 1), (10, 1)] 20 = [[1], [1, 0], [0], [0, 1], [0, 0]] ∧
      walkOrder [(20, 1), (10, 1)] 35 = [[1], [1, 1], [1, 0], [0], [0, 1], [0, 0]] ∧
      search [(20, 1), (10, 1)] 20 30 256 = { counts := [1, 0], remainder := 0, steps := 2 } ∧
      search [(20, 1), (10, 1)] 35 30 256 = { counts := [1, 1], remainder := 5, steps := 6 } ∧
      search [(20, 1), (10, 1)] 35 30 1 = { counts := [], remainder := 35, steps := 1 } := by
  decide +kernel

/-- Both escrows' class 0 jobs in their positions. -/
theorem witness_StepKeepsQueues_stack :
    let j (l : Lane) : Job := { job 0 1 1 0 with origin := .stackDown, source := .escrow l, dest := .routed }
    ({ base with stackJobs := [j .b, j .a] } : State).StackQueueLaw := by
  unfold State.StackQueueLaw
  decide +kernel

/-- Two counters that a sample wraps, over a COUNTER_WRAP that is pending already. -/
theorem witness_CounterSample_wraps :
    let sel : Select :=
      { event := .pieceOut, laneMask := 1, slotMask := 2, mode := .count, threshold := 1, invert := false }
    let c : Counter := { select := sel, value := 4294967295, edge := false }
    let x : Sample := { kind := .pieceOut, lane := .lane .a, slots := some 2, value := 1 }
    let s : State :=
      { base with
        counters := (base.counters.set 1 c).set 2 c, events := base.events.set .sp { EventSet.clear with wrapped := some 5 } }
    (s.counters.get 1).takes x = true ∧ 2 ^ 32 ≤ (s.counters.get 1).value + (s.counters.get 1).rise x ∧
      ((s.sample x).events.get .sp).wrapped ≠ some 5 ∧ (s.counters.get 0).takes x = false := by
  decide +kernel

/-! ### Witnesses of the clauses on the first event, the dirty set, restored records, jams and frames without request -/

/-- A restarted part whose chute fault sense is active and whose transport fault sense is not. -/
def restarted : State := { base with retest := true, mechs := ⟨⟨.ready, true⟩, ⟨.ready, false⟩⟩ }

/-- After a restart the controllers are READY, and in the first event after it the active line gives FAULT (R112, R163). -/
theorem test_first_event :
    ((nextOf (exec .powerOn { restarted with powered := false, retest := false })).mechs.get .coin).phase = .ready ∧
      (nextOf (exec .powerOn { restarted with powered := false, retest := false })).retest = true ∧
      ((nextOf (exec (.readStore .sp) restarted)).mechs.get .coin).phase = .fault .faultSense ∧
      ((nextOf (exec (.readStore .sp) restarted)).mechs.get .note).phase = .ready ∧
      (nextOf (exec (.readStore .sp) restarted)).retest = false ∧
      ((nextOf (step restarted)).mechs.get .coin).phase = .fault .faultSense := by
  decide +kernel

/-- A test that is due, with an active line and with none. -/
theorem witness_SensesAndKey_first :
    restarted.powered = true ∧ restarted.retest = true ∧ (restarted.mechs.get .coin).phase = .ready ∧
      (restarted.mechs.get .coin).sense = true ∧ State.reset.powered = true ∧ State.reset.retest = true ∧
      (∀ k, (State.reset.mechs.get k).sense = false) ∧ base.Running := by
  refine ⟨rfl, rfl, rfl, rfl, rfl, rfl, fun k => ?_, rfl, rfl⟩
  cases k <;> rfl

/-- A coin changes the record of the tube that takes it, which was not dirty before (R154). -/
theorem witness_StepKeepsTables_dirty :
    let t := nextOf (exec (.coinPieceReport .a 1) base)
    base.Running ∧ base.dirty = [] ∧ t.image (recUnit 1) ≠ base.image (recUnit 1) ∧ (recUnit 1, 0) ∈ t.dirty := by
  decide +kernel

/-- A share of a coin slot and one of a note slot. -/
theorem witness_PayOutEffect_jobs :
    (base.denoms.get 1).kind = .coin ∧ (base.denoms.get 5).kind = .note ∧
      (base.jobsOf .a 7 3 [{ unit := 1, slot := 1, pieces := 2 }, { unit := 8, slot := 5, pieces := 1 }])[1]? =
        some { serial := 4, origin := .sale .a 7, source := .unit 8, ordered := 1, done := 0, dest := .outlet .a
               inFlight := false, stopped := false } := by
  decide +kernel

/-- A store whose denomination record repeats a value of enabled slots, and whose weights record is good. -/
theorem witness_SupplyLossAndReturn_failed :
    let c : CountStore :=
      { CountStore.blank with denoms := .whole (Twelve.replicate (slot 10 .coin)), weights := .whole ⟨1, 15⟩ }
    c.isBlank = false ∧ c.restoredDenoms.get 0 = Denom.default ∧ c.restoredWeights = ⟨1, 15⟩ ∧
      c.failedSet.getLsbD 0 = true ∧ c.failedSet.getLsbD 4 = false ∧ c.failedSet.getLsbD 21 = true := by
  decide +kernel

/-- A jam under jobs of two sales: the younger sale's job is in flight, and the older one's request is a REFUND. -/
theorem witness_ThirdMissJams_requests :
    let j1 : Job := { job 1 1 2 0 with origin := .sale .b 8, dest := .cup .b }
    let s : State :=
      { ejecting (job 2 1 1 0) 3 false base with
        laneJobs := ⟨[{ job 2 1 1 0 with inFlight := true }], [j1]⟩
        units := base.units.set 1 { base.units.e1 with committed := 3 }
        planReqs := [{ lane := .a, tag := 9, kind := .replan, amount := 10, shielded := false },
          { lane := .b, tag := 8, kind := .refund, amount := 50, shielded := false }] }
    s.Running ∧ s.findJob 2 = some { job 2 1 1 0 with inFlight := true } ∧ (s.allJobs.map Job.serial).Nodup ∧
      s.RequestLaw ∧ s.hasRequest .a 7 = false ∧ (s.units.get 1).state = .active ∧
      (nextOf (exec (.ejectTimeout .coin) s)).planReqs.map (fun r => (r.lane, r.tag, r.amount)) =
        [(.a, 9, 10), (.b, 8, 90), (.a, 7, 20)] := by
  unfold State.RequestLaw
  decide +kernel

/-- Before the last check byte of a frame around FF, and around EMPTY_UNIT, a keyed command, without its parameters. -/
theorem witness_Links_noRequest :
    let sums (c : Byte) : Prop :=
      ((checkBytes [1#8, c]).getD 0 0).toNat * 256 + ((checkBytes [1#8, c]).getD 1 0).toNat = (crc16 [1#8, c]).toNat
    let u : PortUnit := { PortUnit.clear with receiver := .check 1 [0xFF#8] (some 0#8) }
    (∀ x ∈ allCommands, x.byte ≠ 0xFF#8) ∧ sums 0xFF#8 ∧ sums Command.emptyUnit.byte ∧
      Command.emptyUnit.permitted .sp = true ∧ Command.emptyUnit.permitted .lpA = false ∧
      ([] : List Byte).length ≠ (Command.emptyUnit.widths .sp).sum ∧ Command.emptyUnit.keyed = true ∧
      base.now < u.lastByteAt + 11 := by
  decide +kernel

/-- A queue of each place, a writer at work and one at rest. -/
theorem witness_Reads_queue :
    (paying 1 0 1 false).Running ∧ (paying 1 0 1 false).laneJobs.a ≠ [] ∧
      Ready { base with writer := .writing (base.image 0) } .sp ∧ base.writer = .idle :=
  ⟨⟨rfl, rfl⟩, by decide +kernel, ⟨⟨rfl, rfl⟩, rfl⟩, rfl⟩

/-- An ejection of a stopped job with one undone piece, whose sale is STOPPED: an extra piece, and the job's depth. -/
theorem witness_ExtraPiece_stopped :
    let j : Job := { stoppedJob with ordered := stoppedJob.done + 1 }
    let s : State := { stopped 1 with
      laneJobs := ⟨[j], []⟩, units := base.units.set 1 { base.units.e1 with committed := 1 } }
    s.Running ∧ s.findJob 0 = some j ∧ j.stopped = true ∧ j.done + 1 = j.ordered ∧ j.origin = .sale .a 7 ∧
      s.findSale .a 7 = some (sale 7 .stopped 10 50) ∧
      ((nextOf (exec (.exitSensorReport .coin .two) s)).findSale .a 7).map (fun x => (x.state, x.paid, x.overpaid)) =
        some (.stopped, 40, 20) ∧
      (s.mechs.get .coin).phase =
        .ejecting { job := 0, source := .unit 1, dest := .cup .a, attempt := 1, faultPending := false, ends := 400 } := by
  decide +kernel

/-- A restore with PFW active: record 2, the first failed one, is in writing; an ABSENT record under a note's slot. -/
theorem witness_SupplyLossAndReturn_flush :
    let c : CountStore := { CountStore.blank with
      settings := .whole ((base.units.map UnitRec.settings).set 2 { base.units.e2.settings with slot := some 6 })
      denoms := .whole base.denoms
      units := CountStore.blank.units.set 2 (.whole ⟨0, .absent⟩) }
    let s : State := { base with powered := false, pfw := true, store := c }
    let t := nextOf (exec .powerOn s)
    s.powered = false ∧ s.pfw = true ∧ c.isBlank = false ∧ t.writer = .writing (t.image 2) ∧
      t.dirty.head? = some (3, s.now) ∧ (t.units.get 2).state = .uncertain := by
  decide +kernel

end Sys2Proof.Tests
end

section
/-! SUPPORT. What a command can do, once for all laws: it takes the first event after a restart, makes one change to
the parts that laws read, and closes its event. -/

namespace Sys2Proof.Machine

-- One proof after the other: many short proofs at once take more threads than the check's memory limit has room for.
set_option Elab.async false

/-! ### The numbers of slots and units -/

@[simp] theorem mem_allSlots (d : Slot) : d ∈ allSlots := by fin_cases d <;> decide

@[simp] theorem mem_allUnits (u : UnitId) : u ∈ allUnits := by fin_cases u <;> decide

/-! ### Steps that no law reads -/

/-- The second state has the first one's configuration, stores, lanes, sales, plans, jobs, phases of the mechanisms
and dirty set; links, event sets, clock, supply and the record writer may differ. -/
structure Quiet (s t : State) : Prop where
  denoms : t.denoms = s.denoms
  limits : t.limits = s.limits
  floors : t.floors = s.floors
  units : t.units = s.units
  boxes : t.boxes = s.boxes
  lanes : t.lanes = s.lanes
  sales : t.sales = s.sales
  escrows : ∀ l, (t.escrows.get l).entries = (s.escrows.get l).entries ∧
    (t.escrows.get l).owner = (s.escrows.get l).owner ∧ (t.escrows.get l).status = (s.escrows.get l).status
  planReqs : t.planReqs = s.planReqs
  reservations : t.reservations = s.reservations
  laneJobs : t.laneJobs = s.laneJobs
  serviceJobs : t.serviceJobs = s.serviceJobs
  stackJobs : t.stackJobs = s.stackJobs
  nextJob : t.nextJob = s.nextJob
  phases : ∀ k, (t.mechs.get k).phase = (s.mechs.get k).phase
  dirty : t.dirty = s.dirty
  selects : ∀ n, (t.counters.get n).select = (s.counters.get n).select
  values : s.CounterLaw → t.CounterLaw

theorem Quiet.refl (s : State) : Quiet s s := by constructor <;> simp

theorem Quiet.trans {s t u : State} (h : Quiet s t) (k : Quiet t u) : Quiet s u where
  denoms := k.denoms.trans h.denoms
  limits := k.limits.trans h.limits
  floors := k.floors.trans h.floors
  units := k.units.trans h.units
  boxes := k.boxes.trans h.boxes
  lanes := k.lanes.trans h.lanes
  sales := k.sales.trans h.sales
  escrows l := ⟨(k.escrows l).1.trans (h.escrows l).1, (k.escrows l).2.1.trans (h.escrows l).2.1,
    (k.escrows l).2.2.trans (h.escrows l).2.2⟩
  planReqs := k.planReqs.trans h.planReqs
  reservations := k.reservations.trans h.reservations
  laneJobs := k.laneJobs.trans h.laneJobs
  serviceJobs := k.serviceJobs.trans h.serviceJobs
  stackJobs := k.stackJobs.trans h.stackJobs
  nextJob := k.nextJob.trans h.nextJob
  phases i := (k.phases i).trans (h.phases i)
  dirty := k.dirty.trans h.dirty
  selects n := (k.selects n).trans (h.selects n)
  values := k.values ∘ h.values

theorem Counter.after_select (c : Counter) (x : Sample) : (c.after x).select = c.select := by
  simp only [Counter.after]; split <;> rfl

theorem Counter.after_value (c : Counter) (x : Sample) (h : c.value < Config.counterModulus) :
    (c.after x).value < Config.counterModulus := by
  simp only [Counter.after]
  split
  · exact Nat.mod_lt _ (by decide)
  · exact h

@[simp] theorem State.sample_counters (s : State) (x : Sample) :
    (s.sample x).counters = Eight.tabulate fun n => (s.counters.get n).after x := by
  simp only [State.sample]
  split <;> simp

theorem Quiet.sample (s : State) (x : Sample) : Quiet s (s.sample x) := by
  constructor <;> simp [Counter.after_select, State.CounterLaw]
  exact fun h n => Counter.after_value _ x (h n)

theorem Quiet.modPort (s : State) (p : Port) (f : PortUnit → PortUnit) : Quiet s (s.modPort p f) := by
  constructor <;> simp [State.CounterLaw]

theorem Quiet.modEvents (s : State) (p : Port) (f : EventSet → EventSet) : Quiet s (s.modEvents p f) := by
  constructor <;> simp [State.CounterLaw]

theorem Quiet.advanceTo (s : State) (n : Nat) : Quiet s (s.advanceTo n) := by
  constructor <;> simp [State.advanceTo, State.CounterLaw]

theorem Quiet.setOutstanding (s : State) (p : Port) (b : Byte) : Quiet s (s.setOutstanding p b) := .modPort ..

theorem Quiet.pushFrame (s : State) (p : Port) (f : Frame) : Quiet s (s.pushFrame p f) := .modPort ..

theorem Quiet.answer (s : State) (p : Port) (c : Command) (data : List Field) : Quiet s (s.answer p c data) :=
  .pushFrame ..

theorem Quiet.refuseByte (s : State) (p : Port) (b : Byte) (code : ReplyCode) : Quiet s (s.refuseByte p b code) :=
  (Quiet.pushFrame ..).trans (.sample ..)

theorem Quiet.refuse (s : State) (p : Port) (c : Command) (code : ReplyCode) : Quiet s (s.refuse p c code) :=
  .refuseByte ..

theorem Quiet.busyFrame (s : State) (p : Port) (b : Byte) : Quiet s (s.busyFrame p b) := by
  simp only [State.busyFrame]
  split
  · exact (Quiet.pushFrame ..).trans (.sample ..)
  · exact .refl s

theorem Quiet.refuseUnknown (s : State) (p : Port) (b : Byte) : Quiet s (s.refuseUnknown p b) := by
  simp only [State.refuseUnknown]
  split
  · exact .busyFrame ..
  · exact (Quiet.setOutstanding ..).trans (.refuseByte ..)

theorem Quiet.discardFrame (s : State) (p : Port) : Quiet s (s.discardFrame p) := .modPort ..

theorem Quiet.findSale {s t : State} (h : Quiet s t) (l : Lane) (tag : Nat) : t.findSale l tag = s.findSale l tag := by
  simp [State.findSale, h.sales]

/-! ### What a command changes -/

/-- How an event closes (R11, R97, R157), or how a write begins (R155). -/
inductive Closing where
  | none
  | flush
  | settle
  | conclude (fall : Bool) (left : List Reservation) (stored : List UnitId)
  | write

def Closing.run : Closing → State → State
  | .none, s => s
  | .flush, s => s.flush
  | .settle, s => s.settleEvent
  | .conclude fall left stored, s => s.conclude fall left stored
  | .write, s => s.startWrite

/-- The changes that commands make, with what their checks have found, and how each closes its event. -/
inductive Change (t : State) : Closing → State → Prop where
  | quiet : Change t .none t
  | settle : Change t .settle t
  | write : Change t .write t
  -- requests of the lane ports
  | openSale {l : Lane} {tag : Nat} (due : Nat) (range : openSaleRange tag due = true) (fresh : t.findSale l tag = none)
      (room : (t.sales.get l).length < Config.orderListRoom) :
      Change t .none (t.modSales l (· ++ [Sale.opened tag due]))
  | tender {l : Lane} {tag : Nat} {x : Sale} (found : t.findSale l tag = some x) (waiting : x.state = .waiting) :
      Change t .flush (t.openTender l tag)
  | quote {l : Lane} {tag : Nat} {x : Sale} (amount : Nat) (left : List Reservation) (found : t.findSale l tag = some x)
      (state : x.state = .tendering ∨ x.state = .tendered ∨ x.state = .planned) :
      Change t (.conclude false left []) (((t.beforeQuote l x).clearNeedOf l tag).placeRequest l tag .quote amount)
  | pay {t₀ : State} {l : Lane} {tag : Nat} {x : Sale} (left : List Reservation) (before : Quiet t₀ t)
      (found : t.findSale l tag = some x) (planned : x.state = .planned)
      (room : (t₀.laneJobs.get l).length + (splitPlan l (x.plan.getD []) t₀).1.length ≤ Config.laneQueueRoom) :
      Change t (.conclude true left []) ((t.payOut l tag (splitPlan l (x.plan.getD []) t₀).1
        (splitPlan l (x.plan.getD []) t₀).2).settleTest l tag)
  | cancelWaiting {l : Lane} {tag : Nat} {x : Sale} (found : t.findSale l tag = some x) (waiting : x.state = .waiting) :
      Change t .none (t.finishSale l tag .cancelled)
  | cancel {l : Lane} {tag : Nat} {x : Sale} (left : List Reservation) (found : t.findSale l tag = some x)
      (state : x.state = .tendering ∨ x.state = .tendered ∨ x.state = .planned) :
      Change t (.conclude false left []) (t.cancelTendered l x)
  | release {l : Lane} {tag : Nat} {x : Sale} (found : t.findSale l tag = some x) (finished : x.state.finished = true) :
      Change t .none ((t.modSales l fun xs => xs.filter fun y => decide (y.tag ≠ tag)).clearNeedOf l tag)
  | stop {l : Lane} {tag : Nat} {x : Sale} (found : t.findSale l tag = some x)
      (state : x.state = .paying ∨ x.state = .refunding) : Change t (.conclude false [] []) (t.stopSale l x)
  | laneOpen (l : Lane) : Change t .settle (t.openLane l)
  | laneClose {l : Lane} (closed : ((t.sales.get l).any fun x => x.state.open) = false) : Change t .none (t.closeLane l)
  | floorHold (l : Lane) : Change t .none (t.modLane l fun r => { r with holding := true })
  | floorYield (l : Lane) : Change t .none (t.yieldFloor l)
  -- requests of the service port
  | lockUnit {u : UnitId} (active : (t.units.get u).state = .active) :
      Change t (.conclude true [] [])
        (t.setUnitState u (if 0 < (t.units.get u).committed then UnitState.lockPending else UnitState.locked))
  | unlockUnit {u : UnitId} (locked : (t.units.get u).state = .locked) (fits : t.slotFitsUnit u = true) :
      Change t (.conclude false [] [u]) (t.setUnitState u .active)
  | writeUnit {u : UnitId} {x : UnitSettings} (range : t.writeUnitInRange u x = true)
      (allowed : t.writeUnitAllowed u x.slot = true) : Change t .settle (t.writeSettings u x)
  | setDenom {d : Slot} {x : Denom} (range : t.setDenomInRange d x = true) (allowed : t.setDenomAllowed d x = true) :
      Change t .settle ({ t with denoms := t.denoms.set d x }.markDirty recDenoms)
  | setFloor (l : Lane) (d : Slot) (count : Nat) : Change t .flush (t.writeFloor l d count)
  | setLimits {x : Setting} {value : Nat} (range : x.inRange value = true) :
      Change t .settle ((t.writeSetting x value).markDirty x.record)
  | auditUnit {u : UnitId} {count : Nat} (range : count ≤ (t.units.get u).capacity) (allowed : t.auditAllowed u = true) :
      Change t .flush (t.audit u count)
  | emptyUnit {u : UnitId} {keep : Nat} (range : keep < (t.units.get u).count) (locked : (t.units.get u).state = .locked)
      (free : t.hasServiceJob u = false) (room : t.serviceJobs.length < Config.serviceQueueRoom) :
      Change t .settle (t.placeService u .empty ((t.units.get u).count - keep))
  | floatInBegin (l : Lane) : Change t .flush (t.beginFloatIn l)
  | floatInEnd (l : Lane) : Change t .flush (t.endFloatIn l)
  | clearJam {u : UnitId} (jammed : (t.units.get u).state = .jammed) : Change t .flush (t.setUnitState u .locked)
  | clearFault {k : Kind} (fault : t.mechFault k = true) : Change t .settle (t.makeReady k)
  | giveBack (l : Lane) : Change t .settle (t.beginReturn l)
  | keep (l : Lane) : Change t .settle (t.keepEscrow l)
  | cashboxCleared (k : Kind) : Change t .settle (t.clearBox k)
  | counterSet (n : Fin 8) (x : Select) : Change t .flush (t.startCounter n x)
  -- reports of the module's lines
  | coin (l : Lane) (d : Slot) (stored : List UnitId) : Change t (.conclude false [] stored) (t.takeCoin l d)
  | note {l : Lane} (d : Slot) (takes : (t.escrows.get l).takesNote = true) : Change t (.conclude false [] []) (t.takeNote l d)
  | strayEnd {k : Kind} {e : Ejection} (ejecting : t.ejection k = some e) :
      Change t (.conclude e.faultPending [] []) (t.endEjection k e e.after)
  | exit {k : Kind} {e : Ejection} {j : Job} {u : UnitId} (pieces : Pieces) (ejecting : t.ejection k = some e)
      (source : e.source = .unit u) (found : t.findJob e.job = some j) :
      Change t (.conclude (extraPiece j pieces || e.faultPending) [] []) (t.detect k e j u pieces)
  | entry {e : Ejection} {l : Lane} (pieces : Pieces) (stored : List UnitId) (ejecting : t.ejection .note = some e)
      (source : e.source = .escrow l) :
      Change t (.conclude (e.afterStack pieces).isFault [] stored) (t.stackDetected e l pieces)
  | stackMiss {k : Kind} {e : Ejection} {l : Lane} (ejecting : t.ejection k = some e) (source : e.source = .escrow l) :
      Change t (.conclude true [] []) (t.stackMiss e l)
  | retry {k : Kind} {e : Ejection} (ejecting : t.ejection k = some e) : Change t .none (t.retry k e)
  | lastMiss {k : Kind} {e : Ejection} {j : Job} {u : UnitId} (ejecting : t.ejection k = some e)
      (source : e.source = .unit u) (found : t.findJob e.job = some j) :
      Change t (.conclude e.faultPending [] []) (t.lastMiss k e j u)
  | thirdMiss {k : Kind} {e : Ejection} {j : Job} {u : UnitId} (ejecting : t.ejection k = some e)
      (source : e.source = .unit u) (found : t.findJob e.job = some j) :
      Change t (.conclude (t.units.get u).state.jams [] []) (t.thirdMiss k e j u)
  | senseReady {k : Kind} (ready : (t.mechs.get k).phase = .ready) :
      Change t (.conclude true [] []) (t.setPhase k (.fault .faultSense))
  | senseEjecting {k : Kind} {e : Ejection} (ejecting : t.ejection k = some e) :
      Change t .none (t.setPhase k (.ejecting { e with faultPending := true }))
  | returned (l : Lane) : Change t .settle (t.returnSucceeds l)
  | returnFails (l : Lane) : Change t .none (t.returnFails l)
  | cupCleared (l : Lane) : Change t .settle (t.modLane l fun r => { r with cup := 0 })
  | outletCleared (l : Lane) : Change t .settle (t.modLane l fun r => { r with outlet := 0 })
  -- plans and restarts
  | expire {l : Lane} {tag : Nat} {r : Reservation} (found : t.reservationOf l tag = some r) :
      Change t (.conclude false [r] []) (t.expire r)
  | planDropped {r : PlanReq} {rest : List PlanReq} (head : t.planReqs = r :: rest) :
      Change t .none { t with planReqs := rest }
  | completeQuote {r : PlanReq} {rest : List PlanReq} {x : Sale} (head : t.planReqs = r :: rest)
      (found : t.findSale r.lane r.tag = some x) (kind : r.kind = .quote) :
      Change t .none ({ t with planReqs := rest }.completeQuote r x)
  | completeJobs {r : PlanReq} {rest : List PlanReq} {x : Sale} (head : t.planReqs = r :: rest)
      (found : t.findSale r.lane r.tag = some x) (kind : r.kind ≠ .quote) :
      Change t (.conclude true [] []) ({ t with planReqs := rest }.completeJobs r)
  | tested : Change t (.conclude true [] []) { t with retest := false, mechs := t.mechs.map Mechanism.tested }
  | pfwActive : Change t (.conclude true [] []) t.stopEjections
  | reset (cause : RestartCause) :
      Change t .flush ((((t.stopEjections.resetUnits).resetEscrow .a).resetEscrow .b).clearRun cause)

/-- An event: one change between steps that no law reads, and its closing. The clock moves before the change only. -/
def Event (s u : State) : Prop :=
  ∃ t c m m', Quiet s t ∧ Change t c m ∧ Quiet m m' ∧ m'.now = m.now ∧ u = c.run m'

theorem Event.of {s t m m' : State} {c : Closing} (before : Quiet s t) (change : Change t c m) (after : Quiet m m')
    (clock : m'.now = m.now) : Event s (c.run m') :=
  ⟨t, c, m, m', before, change, after, clock, rfl⟩

/-- An event whose reply is made between its change and its closing. -/
theorem Event.replying {s t m : State} {c : Closing} (before : Quiet s t) (change : Change t c m) (p : Port)
    (command : Command) (data : List Field) : Event s (c.run (m.answer p command data)) :=
  .of before change (.answer m p command data) (by simp)

section
variable {s t m : State} (before : Quiet s t) {fall : Bool} {left : List Reservation} {stored : List UnitId}
  {p : Port} {command : Command} {data : List Field}
include before

theorem Event.leaving (change : Change t .none m) : Event s m := .of before change (.refl m) rfl

theorem Event.flushing (change : Change t .flush m) : Event s m.flush := .of before change (.refl m) rfl

theorem Event.settling (change : Change t .settle m) : Event s m.settleEvent := .of before change (.refl m) rfl

theorem Event.concluding (change : Change t (.conclude fall left stored) m) : Event s (m.conclude fall left stored) :=
  .of before change (.refl m) rfl

theorem Event.writing (change : Change t .write m) : Event s m.startWrite := .of before change (.refl m) rfl

theorem Event.leavingReply (change : Change t .none m) : Event s (m.answer p command data) :=
  .replying before change ..

theorem Event.flushingReply (change : Change t .flush m) : Event s (m.answer p command data).flush :=
  .replying before change ..

theorem Event.settlingReply (change : Change t .settle m) : Event s (m.answer p command data).settleEvent :=
  .replying before change ..

theorem Event.concludingReply (change : Change t (.conclude fall left stored) m) :
    Event s ((m.answer p command data).conclude fall left stored) :=
  .replying before change ..

end

theorem Event.quiet {s t : State} (h : Quiet s t) : Event s t := .leaving h .quiet

/-! ### Requests -/

theorem Event.request {s : State} {p : Port} {c : Command} {body : State → State}
    (h : ∀ t, Quiet s t → Event s (body t)) : Event s (s.request p c body) := by
  simp only [State.request]
  split
  · split
    · exact .quiet (.busyFrame ..)
    · split
      · exact h _ (.setOutstanding ..)
      · exact .quiet ((Quiet.setOutstanding ..).trans (.refuse ..))
  · exact .quiet (.refl s)

theorem Event.laneRequest {s : State} {p : Port} {c : Command} {body : Lane → State → State}
    (h : ∀ l t, Quiet s t → Event s (body l t)) : Event s (s.laneRequest p c body) := by
  refine .request fun t ht => ?_
  split
  · exact h _ t ht
  · exact .quiet (ht.trans (.refuse ..))

theorem Event.saleRequest {s : State} {p : Port} {c : Command} {tag : Nat} {body : Lane → Sale → State → State}
    (h : ∀ l x t, Quiet s t → t.findSale l tag = some x → Event s (body l x t)) : Event s (s.saleRequest p c tag body) := by
  refine .laneRequest fun l t ht => ?_
  split
  next x hx => exact h l x t ht hx
  · exact .quiet (ht.trans (.refuse ..))

theorem Event.keyed {s t : State} (ht : Quiet s t) {p : Port} {c : Command} {body : State → State}
    (h : Event s (body t)) : Event s (t.keyed p c body) := by
  simp only [State.keyed]
  split
  · exact h
  · exact .quiet (ht.trans (.refuse ..))

theorem Event.ranged {α : Type} {s t : State} (ht : Quiet s t) {p : Port} {c : Command} {x : Option α}
    {body : α → State → State} (h : ∀ a, Event s (body a t)) : Event s (t.ranged p c x body) := by
  simp only [State.ranged]
  split
  · exact h _
  · exact .quiet (ht.trans (.refuse ..))

theorem Event.whenPowered {s : State} {body : State → State} (h : Event s (body s)) : Event s (s.whenPowered body) := by
  simp only [State.whenPowered]
  split
  · exact h
  · exact .quiet (.refl s)

theorem Event.refuse {s t : State} (ht : Quiet s t) (p : Port) (c : Command) (code : ReplyCode) :
    Event s (t.refuse p c code) := .quiet (ht.trans (.refuse ..))

theorem Event.answer {s t : State} (ht : Quiet s t) (p : Port) (c : Command) (data : List Field) :
    Event s (t.answer p c data) := .quiet (ht.trans (.answer ..))

end Sys2Proof.Machine
end

section
/-! SUPPORT. Every command is an event: one change, with what its checks have found (Laws/Changes). -/

namespace Sys2Proof.Machine

-- One proof after the other: many short proofs at once take more threads than the check's memory limit has room for.
set_option Elab.async false

/-! ### The first event after a restart (R112) -/

theorem State.firstEvent_event (s : State) : Event s s.firstEvent := by
  simp only [State.firstEvent]
  split
  · split
    next same =>
      refine .quiet ?_
      constructor <;> simp [State.CounterLaw]
      exact fun k => by simpa using congrArg (fun m => (m.get k).phase) same
    · exact .concluding (.refl s) .tested
  · exact .quiet (.refl s)

/-! ### Requests of the lane ports -/

theorem takeOpenSale_event (p : Port) (tag due : Nat) (s : State) : Event s (takeOpenSale p tag due s) := by
  refine .laneRequest fun l t ht => ?_
  split
  · exact .refuse ht ..
  split
  · exact .refuse ht ..
  split
  · exact .refuse ht ..
  split
  · exact .refuse ht ..
  next range _ fresh room =>
    exact .leavingReply ht (.openSale due (by simpa using range) (by simpa using fresh) (by omega))

theorem takeTender_event (p : Port) (tag : Nat) (s : State) : Event s (takeTender p tag s) := by
  refine .saleRequest fun l x t ht found => ?_
  split
  · exact .refuse ht ..
  split
  · exact .refuse ht ..
  split
  · exact .refuse ht ..
  split
  · exact .refuse ht ..
  next waiting _ _ => exact .flushingReply ht (.tender found (by simpa using waiting))

theorem takeQuote_event (p : Port) (tag : Nat) (s : State) : Event s (takeQuote p tag s) := by
  refine .saleRequest fun l x t ht found => ?_
  split
  · exact .refuse ht ..
  split
  · exact .refuse ht ..
  next state _ => exact .concluding ht (.quote _ _ found (by simpa [or_iff_not_imp_left] using state))

theorem takePay_event (p : Port) (tag acceptShort : Nat) (s : State) : Event s (takePay p tag acceptShort s) := by
  refine .laneRequest fun l t ht => ?_
  split
  · exact .refuse ht ..
  split
  · exact .refuse ht ..
  split
  · exact .refuse ht ..
  split
  · exact .refuse ht ..
  split
  · exact .refuse ht ..
  dsimp only
  split
  · exact .refuse ht ..
  next x found _ planned _ room =>
    exact .concluding (ht.trans (.answer ..)) (.pay _ (.answer ..) (by simpa [State.findSale] using found) (by simpa using planned) (by omega))

theorem takeCancel_event (p : Port) (tag : Nat) (s : State) : Event s (takeCancel p tag s) := by
  refine .saleRequest fun l x t ht found => ?_
  have answered : (t.answer p .cancel []).findSale l tag = some x := by rw [(Quiet.answer ..).findSale, found]
  split
  next waiting => exact .leavingReply ht (.cancelWaiting found waiting)
  next state => exact .concluding (ht.trans (.answer ..)) (.cancel _ answered (.inl state))
  next state => exact .concluding (ht.trans (.answer ..)) (.cancel _ answered (.inr (.inl state)))
  next state => exact .concluding (ht.trans (.answer ..)) (.cancel _ answered (.inr (.inr state)))
  · exact .refuse ht ..

theorem takeRelease_event (p : Port) (tag : Nat) (s : State) : Event s (takeRelease p tag s) := by
  refine .saleRequest fun l x t ht found => ?_
  split
  next finished => exact .leavingReply ht (.release found finished)
  · exact .refuse ht ..

theorem takeStatus_event (p : Port) (lane : Option Nat) (tag : Nat) (s : State) : Event s (takeStatus p lane tag s) := by
  refine .request fun t ht => ?_
  split
  · exact .refuse ht ..
  split
  · exact .answer ht ..
  split
  · exact .answer ht ..
  · exact .refuse ht ..

theorem takeStop_event (p : Port) (lane : Option Nat) (tag : Nat) (s : State) : Event s (takeStop p lane tag s) := by
  refine .request fun t ht => ?_
  split
  · exact .refuse ht ..
  split
  · exact .refuse ht ..
  split
  next x found state =>
    exact .concluding (ht.trans (.answer ..)) (.stop (by rw [(Quiet.answer ..).findSale, found]) state)
  · exact .refuse ht ..

theorem takeLaneOpen_event (p : Port) (s : State) : Event s (takeLaneOpen p s) := by
  refine .laneRequest fun l t ht => ?_
  split
  · exact .answer ht ..
  · exact .settlingReply ht (.laneOpen l)

theorem takeLaneClose_event (p : Port) (s : State) : Event s (takeLaneClose p s) := by
  refine .laneRequest fun l t ht => ?_
  split
  · exact .refuse ht ..
  split
  next closed _ => exact .leavingReply ht (.laneClose (by simpa using closed))
  · exact .answer ht ..

theorem takeFloorHold_event (p : Port) (s : State) : Event s (takeFloorHold p s) := by
  refine .laneRequest fun l t ht => ?_
  split
  · exact .leavingReply ht (.floorHold l)
  · exact .refuse ht ..

theorem takeFloorYield_event (p : Port) (s : State) : Event s (takeFloorYield p s) := by
  refine .laneRequest fun l t ht => ?_
  split
  · exact .leavingReply ht (.floorYield l)
  · exact .refuse ht ..

/-! ### Requests of the service port -/

theorem takeLockUnit_event (p : Port) (unit : Nat) (s : State) : Event s (takeLockUnit p unit s) := by
  refine .request fun t ht => .ranged ht fun u => ?_
  split
  next active => exact .concludingReply ht (.lockUnit active)
  · exact .answer ht ..
  · exact .answer ht ..
  · exact .refuse ht ..
  · exact .refuse ht ..
  · exact .refuse ht ..

theorem takeUnlockUnit_event (p : Port) (unit : Nat) (s : State) : Event s (takeUnlockUnit p unit s) := by
  refine .request fun t ht => .ranged ht fun u => ?_
  split
  · exact .refuse ht ..
  split
  · exact .refuse ht ..
  next locked fits => exact .concludingReply ht (.unlockUnit (by simpa using locked) (by simpa using fits))

theorem takeWriteUnit_event (p : Port) (unit slot capacity highWater sweepTarget laneMask : Nat) (s : State) :
    Event s (takeWriteUnit p unit slot capacity highWater sweepTarget laneMask s) := by
  refine .request fun t ht => .keyed ht <| .ranged ht fun u => .ranged ht fun x => ?_
  split
  · exact .refuse ht ..
  split
  · exact .refuse ht ..
  next range allowed => exact .settlingReply ht (.writeUnit (by simpa using range) (by simpa using allowed))

theorem takeSetDenom_event (p : Port) (slot value kind enabled accept recycle lowWater : Nat) (s : State) :
    Event s (takeSetDenom p slot value kind enabled accept recycle lowWater s) := by
  refine .request fun t ht => .keyed ht <| .ranged ht fun d => .ranged ht fun x => ?_
  split
  · exact .refuse ht ..
  split
  · exact .refuse ht ..
  next range allowed => exact .settlingReply ht (.setDenom (by simpa using range) (by simpa using allowed))

theorem takeSetFloor_event (p : Port) (lane slot count : Nat) (s : State) : Event s (takeSetFloor p lane slot count s) := by
  refine .request fun t ht => .ranged ht fun l => .ranged ht fun d => ?_
  split
  · exact .refuse ht ..
  · exact .flushingReply ht (.setFloor l d count)

theorem takeSetLimits_event (p : Port) (setting value : Nat) (s : State) : Event s (takeSetLimits p setting value s) := by
  refine .request fun t ht => .ranged ht fun x => ?_
  split
  · exact .refuse ht ..
  split
  · exact .answer ht ..
  next range _ => exact .settlingReply ht (.setLimits (by simpa using range))

theorem takeAuditUnit_event (p : Port) (unit count : Nat) (s : State) : Event s (takeAuditUnit p unit count s) := by
  refine .request fun t ht => .keyed ht <| .ranged ht fun u => ?_
  split
  · exact .refuse ht ..
  split
  · exact .refuse ht ..
  next range allowed => exact .flushingReply ht (.auditUnit (by omega) (by simpa using allowed))

theorem takeEmptyUnit_event (p : Port) (unit keep : Nat) (s : State) : Event s (takeEmptyUnit p unit keep s) := by
  refine .request fun t ht => .keyed ht <| .ranged ht fun u => ?_
  split
  · exact .refuse ht ..
  split
  · exact .refuse ht ..
  split
  · exact .refuse ht ..
  split
  · exact .refuse ht ..
  next range locked free room =>
    exact .settlingReply ht (.emptyUnit (by omega) (by simpa using locked) (by simpa using free) (by omega))

theorem takeFloatInBegin_event (p : Port) (lane : Nat) (s : State) : Event s (takeFloatInBegin p lane s) := by
  refine .request fun t ht => .ranged ht fun l => ?_
  split
  · exact .refuse ht ..
  split
  · exact .refuse ht ..
  · exact .flushingReply ht (.floatInBegin l)

theorem takeFloatInEnd_event (p : Port) (lane : Nat) (s : State) : Event s (takeFloatInEnd p lane s) := by
  refine .request fun t ht => .ranged ht fun l => ?_
  split
  · exact .refuse ht ..
  · exact .flushingReply ht (.floatInEnd l)

theorem takeClearJam_event (p : Port) (unit : Nat) (s : State) : Event s (takeClearJam p unit s) := by
  refine .request fun t ht => .keyed ht <| .ranged ht fun u => ?_
  split
  next jammed => exact .flushingReply ht (.clearJam jammed)
  · exact .refuse ht ..

theorem takeClearFault_event (p : Port) (mechanism : Nat) (s : State) : Event s (takeClearFault p mechanism s) := by
  refine .request fun t ht => .keyed ht <| .ranged ht fun k => ?_
  split
  · exact .refuse ht ..
  split
  · exact .refuse ht ..
  next fault _ => exact .settlingReply ht (.clearFault (by simpa using fault))

theorem takeClearEscrow_event (p : Port) (lane action : Nat) (s : State) :
    Event s (takeClearEscrow p lane action s) := by
  refine .request fun t ht => .keyed ht <| .ranged ht fun l => .ranged ht fun a => ?_
  split
  · exact .refuse ht ..
  cases a with
  | giveBack => exact .settling (ht.trans (.answer ..)) (.giveBack l)
  | keep => exact .settling (ht.trans (.answer ..)) (.keep l)

theorem takeCashboxCleared_event (p : Port) (box : Nat) (s : State) : Event s (takeCashboxCleared p box s) :=
  .request fun _ ht => .keyed ht <| .ranged ht fun k => .settlingReply ht (.cashboxCleared k)

theorem takeRestart_event (p : Port) (s : State) : Event s (takeRestart p s) :=
  .request fun _ ht => .keyed ht (.answer ht ..)

theorem takeCounterSet_event (p : Port) (counter event laneMask slotMask mode threshold invert : Nat) (s : State) :
    Event s (takeCounterSet p counter event laneMask slotMask mode threshold invert s) :=
  .request fun _ ht => .ranged ht fun n => .ranged ht fun x => .flushingReply ht (.counterSet n x)

/-! ### Requests of every port -/

theorem Event.reply {α : Type} (s : State) (p : Port) (c : Command) (x : Option α) (f : State → α → List Field) :
    Event s (s.reply p c x f) :=
  .request fun _ ht => .ranged ht fun _ => .answer ht ..

theorem takeReadEvents_event (p : Port) (s : State) : Event s (takeReadEvents p s) :=
  .request fun _ ht => .quiet ((ht.trans (.answer ..)).trans (.modEvents ..))

theorem takeSetEventMask_event (p : Port) (mask : Nat) (s : State) : Event s (takeSetEventMask p mask s) :=
  .request fun t ht => by
    split
    · exact .quiet ((ht.trans (.modEvents t ..)).trans (.answer ..))
    · exact .refuse ht ..

theorem runRequest_event (i : Instr) (s : State) : Event s (runRequest i s) := by
  cases i with
  | openSale => exact takeOpenSale_event ..
  | tender => exact takeTender_event ..
  | quote => exact takeQuote_event ..
  | pay => exact takePay_event ..
  | cancel => exact takeCancel_event ..
  | release => exact takeRelease_event ..
  | status => exact takeStatus_event ..
  | stop => exact takeStop_event ..
  | laneOpen => exact takeLaneOpen_event ..
  | laneClose => exact takeLaneClose_event ..
  | floorHold => exact takeFloorHold_event ..
  | floorYield => exact takeFloorYield_event ..
  | lockUnit => exact takeLockUnit_event ..
  | unlockUnit => exact takeUnlockUnit_event ..
  | writeUnit => exact takeWriteUnit_event ..
  | setDenom => exact takeSetDenom_event ..
  | setFloor => exact takeSetFloor_event ..
  | setLimits => exact takeSetLimits_event ..
  | auditUnit => exact takeAuditUnit_event ..
  | emptyUnit => exact takeEmptyUnit_event ..
  | floatInBegin => exact takeFloatInBegin_event ..
  | floatInEnd => exact takeFloatInEnd_event ..
  | clearJam => exact takeClearJam_event ..
  | clearFault => exact takeClearFault_event ..
  | clearEscrow => exact takeClearEscrow_event ..
  | cashboxCleared => exact takeCashboxCleared_event ..
  | restart => exact takeRestart_event ..
  | counterSet => exact takeCounterSet_event ..
  | counterRead | readDenom | readUnit | readCashbox | readReservations | readFloors | readQueue | readMechanism
  | readService | readStore => exact .reply ..
  | readEvents => exact takeReadEvents_event ..
  | setEventMask => exact takeSetEventMask_event ..
  | _ => exact .quiet (.refl s)

/-! ### Reports of the module's lines -/

theorem State.ejecting_phase {s : State} {k : Kind} {e : Ejection} (h : s.ejection k = some e) :
    (s.mechs.get k).phase = .ejecting e := by
  simp only [State.ejection] at h
  split at h <;> simp_all

theorem takeCoinPieceReport_event (l : Lane) (d : Slot) (s : State) : Event s (takeCoinPieceReport l d s) :=
  .whenPowered <| .concluding (.refl s) (.coin l d _)

theorem takeNotePieceReport_event (l : Lane) (d : Slot) (s : State) : Event s (takeNotePieceReport l d s) := by
  refine .whenPowered ?_
  split
  next h => exact .concluding (.sample ..) (.note d (by simp_all))
  · exact .quiet (.refl s)

theorem takeExitSensorReport_event (k : Kind) (pieces : Pieces) (s : State) :
    Event s (takeExitSensorReport k pieces s) := by
  refine .whenPowered ?_
  split
  · exact .quiet (.refl s)
  next e ejecting =>
    split
    · exact .quiet (.refl s)
    next u source =>
      split
      · exact .concluding (.refl s) (.strayEnd ejecting)
      next j found => exact .concluding (.refl s) (.exit pieces ejecting source found)

theorem takeEntrySensorReport_event (x : EntrySensor) (pieces : Pieces) (s : State) :
    Event s (takeEntrySensorReport x pieces s) := by
  refine .whenPowered ?_
  split
  · exact .quiet (.refl s)
  next e ejecting =>
    split
    · exact .quiet (.refl s)
    next l source =>
      split
      · exact .concluding (.refl s) (.entry pieces _ ejecting source)
      · exact .quiet (.refl s)

theorem takeEjectTimeout_event (k : Kind) (s : State) : Event s (takeEjectTimeout k s) := by
  refine .whenPowered ?_
  split
  · exact .quiet (.refl s)
  next e h =>
    have quiet : Quiet s (s.advanceTo e.ends) := .advanceTo ..
    have ejecting : (s.advanceTo e.ends).ejection k = some e := by simpa [State.ejection] using h
    split
    next u source =>
      simp only [State.unitMiss]
      split
      · exact .concluding quiet (.strayEnd ejecting)
      next j found =>
        split
        · exact .concluding quiet (.lastMiss ejecting source found)
        split
        · exact .leaving quiet (.retry ejecting)
        · exact .concluding quiet (.thirdMiss ejecting source found)
    next l source => exact .concluding quiet (.stackMiss ejecting source)

theorem Quiet.modSense (s : State) (k : Kind) (level : Bool) :
    Quiet s (s.modMech k fun m => { m with sense := level }) := by
  constructor <;> simp [State.CounterLaw]
  intro i
  simp only [PerKind.get_modify]
  split <;> simp_all

theorem takeFaultSenseActive_event (k : Kind) (level : Bool) (s : State) :
    Event s (takeFaultSenseActive k level s) := by
  simp only [takeFaultSenseActive]
  split
  · simp only [State.senseFault]
    split
    next ready => exact .concluding (.modSense s k level) (.senseReady ready)
    next e ejecting => exact .leaving (.modSense s k level) (.senseEjecting (by simp_all [State.ejection]))
    · exact .quiet (.modSense s k level)
  · exact .quiet (.modSense s k level)

theorem Quiet.modSensor (s : State) (l : Lane) (empty : Bool) :
    Quiet s (s.modEscrow l fun e => { e with sensorEmpty := empty }) := by
  constructor <;> simp [State.CounterLaw]
  intro i
  simp only [PerLane.get_modify]
  split <;> simp_all

theorem takeEscrowEmptyReport_event (l : Lane) (empty : Bool) (s : State) :
    Event s (takeEscrowEmptyReport l empty s) := by
  simp only [takeEscrowEmptyReport]
  split
  · split
    · exact .settling (.modSensor s l empty) (.returned l)
    · exact .quiet (.modSensor s l empty)
    · exact .quiet (.modSensor s l empty)
  · exact .quiet (.modSensor s l empty)

theorem takeReturnTimeout_event (l : Lane) (s : State) : Event s (takeReturnTimeout l s) := by
  refine .whenPowered ?_
  split
  · exact .leaving (.advanceTo ..) (.returnFails l)
  · exact .quiet (.refl s)
  · exact .quiet (.refl s)

theorem takeHoldTimerExpiry_event (l : Lane) (tag : Nat) (s : State) : Event s (takeHoldTimerExpiry l tag s) := by
  refine .whenPowered ?_
  split
  next r found =>
    exact .concluding (.advanceTo ..) (.expire (l := l) (tag := tag) (by simpa [State.reservationOf] using found))
  · exact .quiet (.refl s)

/-! ### Plans, restarts and links -/

theorem takePlanRequestTaken_event (s : State) : Event s (takePlanRequestTaken s) := by
  refine .whenPowered ?_
  split
  · exact .quiet (.refl s)
  next r rest head =>
    simp only [State.plan]
    split
    · exact .leaving (.refl s) (.planDropped head)
    next x found =>
      have found' : s.findSale r.lane r.tag = some x := found
      split
      next kind => exact .leaving (.refl s) (.completeQuote head found' kind)
      next kind => exact .concluding (.refl s) (.completeJobs head found' (by simp [kind]))
      next kind => exact .concluding (.refl s) (.completeJobs head found' (by simp [kind]))

theorem State.warmReset_event {s t : State} (h : Quiet s t) (cause : RestartCause) : Event s (t.warmReset cause) :=
  .flushing h (.reset cause)

theorem Quiet.supply (s : State) (powered pfw armed : Bool) (store : CountStore) (writer : Writer) (scan : RecordNo) :
    Quiet s { s with powered := powered, pfw := pfw, armed := armed, store := store, writer := writer, scan := scan } := by
  constructor <;> simp [State.CounterLaw]

theorem takePfwActive_event (s : State) : Event s (takePfwActive s) := by
  simp only [takePfwActive]
  split
  · exact .quiet (.refl s)
  split
  · exact .concluding (.supply s s.powered true true s.store s.writer s.scan) .pfwActive
  · exact .quiet (.supply s s.powered true s.armed s.store s.writer s.scan)

theorem takePfwInactive_event (s : State) : Event s (takePfwInactive s) := by
  simp only [takePfwInactive]
  split
  · exact .quiet (.refl s)
  split
  · exact .quiet (.supply s s.powered false s.armed s.store s.writer s.scan)
  split
  · exact State.warmReset_event (.supply s s.powered false false s.store s.writer s.scan) _
  · exact .settling (.supply s s.powered false s.armed s.store s.writer s.scan) .settle

theorem State.losePower_quiet (s : State) : Quiet s s.losePower := by
  simp only [State.losePower]
  split
  · exact .supply s false s.pfw s.armed s.store s.writer s.scan
  · exact .supply s false s.pfw s.armed _ .idle s.scan

theorem takePowerLoss_quiet (s : State) : Quiet s (takePowerLoss s) := by
  simp only [takePowerLoss, State.whenPowered]
  split
  · exact s.losePower_quiet
  · exact .refl s

theorem takeWriteBegin_event (s : State) : Event s (takeWriteBegin s) := by
  refine .whenPowered ?_
  split
  · refine .writing ?_ .write
    simp only [State.awaitEligible]
    split
    · exact .refl s
    split
    · exact .advanceTo ..
    · exact .refl s
  · exact .quiet (.refl s)

theorem takeWriteComplete_event (s : State) : Event s (takeWriteComplete s) := by
  refine .whenPowered ?_
  split
  · exact .quiet (.refl s)
  · exact .writing (.supply s s.powered s.pfw s.armed _ .idle _) .write

theorem Quiet.key (s : State) (level : Bool) : Quiet s (takeMaintenanceKeyChange level s) := by
  constructor <;> simp [takeMaintenanceKeyChange, State.CounterLaw]

theorem takeBusyReply_event (p : Port) (command : Byte) (s : State) : Event s (takeBusyReply p command s) := by
  refine .whenPowered (.quiet ?_)
  split
  · exact .busyFrame ..
  · exact .refl s

theorem takeUnknownReply_event (p : Port) (command : Byte) (s : State) : Event s (takeUnknownReply p command s) := by
  refine .whenPowered (.quiet ?_)
  split
  · exact .refuseUnknown ..
  · exact .refl s

theorem takeInterByteTimeout_event (p : Port) (s : State) : Event s (takeInterByteTimeout p s) := by
  refine .whenPowered ?_
  split
  · exact .quiet (.refl s)
  · exact .quiet ((Quiet.advanceTo ..).trans (.discardFrame ..))

theorem takeReplySent_event (p : Port) (s : State) : Event s (takeReplySent p s) := by
  refine .whenPowered ?_
  split
  · exact .quiet (.refl s)
  split
  · exact State.warmReset_event (.modPort ..) _
  · exact .quiet (.modPort ..)

theorem Event.after_quiet {s t u : State} (h : Quiet s t) (e : Event t u) : Event s u := by
  obtain ⟨t', c, m, m', before, change, after, clock, run⟩ := e
  exact ⟨t', c, m, m', h.trans before, change, after, clock, run⟩

theorem State.takeFrame_event (s : State) (p : Port) (command : Byte) (params : List Byte) :
    Event s (s.takeFrame p command params) := by
  simp only [State.takeFrame]
  split
  · exact runRequest_event ..
  split
  · refine .request fun t ht => ?_
    split
    · exact .keyed ht (.refuse ht ..)
    · exact .refuse ht ..
  · exact .quiet (.refuseUnknown ..)

theorem takeByteReceived_event (p : Port) (b : Byte) (s : State) : Event s (takeByteReceived p b s) := by
  refine .whenPowered ?_
  have heard : Quiet s (s.modPort p fun u =>
      { u with receiver := (((s.ports.get p).listening s.now).take b).1, lastByteAt := s.now }) := .modPort ..
  dsimp only
  split
  · exact .after_quiet heard (State.takeFrame_event ..)
  · exact .quiet heard
  · exact .quiet heard

/-- A request's row runs the request (R170). -/
theorem exec_request {c : Instr} (h : (requestParts c).isSome) (s : State) :
    exec c s = .next (runRequest c s.firstEvent) := by
  cases c <;> first | rfl | simp [requestParts] at h

theorem Event.of_next {s t u : State} (h : (.next t : Result) = .next u) (e : Event s t) : Event s u := by
  injection h with h
  exact h ▸ e

/-- A command but POWER_ON takes the first event after a restart, then it is an event itself. -/
theorem exec_event {c : Instr} {s u : State} (h : exec c s = .next u) (hc : c ≠ .powerOn) : Event s.firstEvent u := by
  by_cases request : (requestParts c).isSome
  · exact .of_next ((exec_request request s).symm.trans h) (runRequest_event ..)
  cases c with
  | powerOn => exact absurd rfl hc
  | coinPieceReport => exact .of_next h (takeCoinPieceReport_event ..)
  | notePieceReport => exact .of_next h (takeNotePieceReport_event ..)
  | exitSensorReport => exact .of_next h (takeExitSensorReport_event ..)
  | entrySensorReport => exact .of_next h (takeEntrySensorReport_event ..)
  | ejectTimeout => exact .of_next h (takeEjectTimeout_event ..)
  | faultSenseActive => exact .of_next h (takeFaultSenseActive_event ..)
  | escrowEmptyReport => exact .of_next h (takeEscrowEmptyReport_event ..)
  | returnTimeout => exact .of_next h (takeReturnTimeout_event ..)
  | cupCleared l => exact .of_next h (.whenPowered (.settling (.refl _) (.cupCleared l)))
  | outletCleared l => exact .of_next h (.whenPowered (.settling (.refl _) (.outletCleared l)))
  | holdTimerExpiry => exact .of_next h (takeHoldTimerExpiry_event ..)
  | planRequestTaken => exact .of_next h (takePlanRequestTaken_event ..)
  | maintenanceKeyChange level => exact .of_next h (.quiet (.key ..))
  | pfwActive => exact .of_next h (takePfwActive_event ..)
  | pfwInactive => exact .of_next h (takePfwInactive_event ..)
  | resetLine => exact .of_next h (.whenPowered (State.warmReset_event (.refl _) _))
  | powerLoss => exact .of_next h (.quiet (takePowerLoss_quiet _))
  | writeBegin => exact .of_next h (takeWriteBegin_event ..)
  | writeComplete => exact .of_next h (takeWriteComplete_event ..)
  | busyReply => exact .of_next h (takeBusyReply_event ..)
  | unknownReply => exact .of_next h (takeUnknownReply_event ..)
  | frameDiscard => exact .of_next h (.whenPowered (.quiet (.discardFrame ..)))
  | interByteTimeout => exact .of_next h (takeInterByteTimeout_event ..)
  | replySent => exact .of_next h (takeReplySent_event ..)
  | byteReceived => exact .of_next h (takeByteReceived_event ..)
  | status _ lane => cases lane <;> exact absurd rfl request
  | stop _ lane => cases lane <;> exact absurd rfl request
  | _ => exact absurd rfl request

/-! ### Steps -/

theorem State.tick_event (s : State) : Event s.firstEvent s.tick := by
  refine .quiet ?_
  constructor <;> simp [State.tick, State.CounterLaw]

theorem Quiet.pending (s : State) (cs : List Instr) : Quiet s { s with pending := cs } := by
  constructor <;> simp [State.CounterLaw]

theorem exec_powerOn {s u : State} (h : exec .powerOn s = .next u) : u = (takePowerLoss s.firstEvent).restore := by
  injection h with h
  exact h.symm

/-- What keeps a law: no law reads a quiet step; a change leaves what its closing needs (`mid`), and the closing makes
the law of it; and the law holds after a restore. -/
structure Kept (law : State → Prop) (mid : Closing → State → Prop) : Prop where
  quiet : ∀ s t, Quiet s t → law s → law t
  change : ∀ t c m, law t → Change t c m → mid c m
  after : ∀ c m m', Quiet m m' → mid c m → mid c m'
  close : ∀ c m, mid c m → law (c.run m)
  restore : ∀ s, law s → law s.restore

theorem Kept.event {law : State → Prop} {mid : Closing → State → Prop} (k : Kept law mid) {s u : State} (h : law s)
    (e : Event s u) : law u := by
  obtain ⟨t, c, m, m', before, change, after, -, rfl⟩ := e
  exact k.close c m' (k.after c m m' after (k.change t c m (k.quiet s t before h) change))

theorem Kept.exec {law : State → Prop} {mid : Closing → State → Prop} (k : Kept law mid) {c : Instr} {s u : State}
    (h : law s) (hc : exec c s = .next u) : law u := by
  have first : law s.firstEvent := k.event h s.firstEvent_event
  by_cases on : c = .powerOn
  · subst on
    rw [exec_powerOn hc]
    exact k.restore _ (k.quiet _ _ (takePowerLoss_quiet _) first)
  · exact k.event first (exec_event hc on)

/-- A law that is kept so holds after every step. -/
theorem Kept.step {law : State → Prop} {mid : Closing → State → Prop} (k : Kept law mid) {s u : State}
    (h : law s) (hs : step s = .next u) : law u := by
  simp only [Machine.step] at hs
  split at hs
  · injection hs with hs
    exact hs ▸ k.event (k.event h s.firstEvent_event) s.tick_event
  · exact k.exec (k.quiet _ _ (.pending ..) h) hs

end Sys2Proof.Machine
end

section
/-! SUPPORT. The tables that every step keeps (R1, R154, R179): what an operation may do to the dirty set and to the
sources of the count store's records. -/

namespace Sys2Proof.Machine

-- One proof after the other: many short proofs at once take more threads than the check's memory limit has room for.
set_option Elab.async false

/-! ### The dirty set as a list -/

theorem mem_insertDirty {e : RecordNo × Nat} {r : RecordNo} {n : Nat} {ds : List (RecordNo × Nat)}
    (h : e ∈ insertDirty r n ds) : e ∈ ds ∨ e = (r, n) := by
  induction ds with
  | nil => simpa [insertDirty] using h
  | cons d ds ih =>
    simp only [insertDirty] at h
    split at h
    · simp only [List.mem_cons] at h ⊢; tauto
    split at h
    · exact .inl h
    · simp only [List.mem_cons] at h ⊢; tauto

theorem mem_insertDirty_of_mem {e : RecordNo × Nat} (r : RecordNo) (n : Nat) {ds : List (RecordNo × Nat)} (h : e ∈ ds) :
    e ∈ insertDirty r n ds := by
  induction ds with
  | nil => simp at h
  | cons d ds ih =>
    simp only [insertDirty]
    split
    · exact .tail _ h
    split
    · exact h
    · simp only [List.mem_cons] at h ⊢; tauto

theorem exists_mem_insertDirty (r : RecordNo) (n : Nat) (ds : List (RecordNo × Nat)) : ∃ since, (r, since) ∈ insertDirty r n ds := by
  induction ds with
  | nil => exact ⟨n, by simp [insertDirty]⟩
  | cons d ds ih =>
    simp only [insertDirty]
    split
    · exact ⟨n, by simp⟩
    split
    next same => exact ⟨d.2, by simp [Fin.ext same]⟩
    · obtain ⟨since, h⟩ := ih
      exact ⟨since, .tail _ h⟩

theorem dirtyLaw_insertDirty {ds : List (RecordNo × Nat)} (r : RecordNo) (n : Nat) (h : dirtyLaw ds) :
    dirtyLaw (insertDirty r n ds) := by
  induction ds with
  | nil => simp [dirtyLaw, insertDirty]
  | cons d ds ih =>
    simp only [dirtyLaw, List.map_cons, List.pairwise_cons, List.forall_mem_map] at h ih ⊢
    obtain ⟨above, sorted⟩ := h
    simp only [insertDirty]
    split
    · simp only [List.map_cons, List.pairwise_cons, List.forall_mem_cons, List.forall_mem_map]
      exact ⟨⟨by omega, fun e he => by have := above e he; omega⟩, above, sorted⟩
    split
    · simp only [List.map_cons, List.pairwise_cons, List.forall_mem_map]
      exact ⟨above, sorted⟩
    · simp only [List.map_cons, List.pairwise_cons, List.forall_mem_map]
      refine ⟨fun e he => ?_, ih sorted⟩
      rcases mem_insertDirty he with he | rfl
      · exact above e he
      · simp only; omega

theorem dirtyLaw_sublist {ds es : List (RecordNo × Nat)} (h : dirtyLaw es) (sub : ds.Sublist es) : dirtyLaw ds :=
  List.Pairwise.sublist (sub.map _) h

/-! ### The records and their sources (R152) -/

@[simp] theorem State.image_denoms (s : State) : s.image recDenoms = .denoms s.denoms := rfl
@[simp] theorem State.image_settings (s : State) : s.image recSettings = .settings (s.units.map UnitRec.settings) := rfl
@[simp] theorem State.image_floors (s : State) : s.image recFloors = .floors s.floors := rfl
@[simp] theorem State.image_limits (s : State) : s.image recLimits = .limits s.limitsImage := rfl
@[simp] theorem State.image_weights (s : State) : s.image recWeights = .weights (s.lanes.map LaneRec.weight) := rfl
@[simp] theorem State.image_selects (s : State) :
    s.image recSelects = .selects (Eight.tabulate fun n => (s.counters.get n).select) := rfl
@[simp] theorem State.image_unit (s : State) (u : UnitId) :
    s.image (recUnit u) = .unit u { count := (s.units.get u).count, state := (s.units.get u).state } := by
  fin_cases u <;> rfl
@[simp] theorem State.image_box (s : State) (k : Kind) : s.image (recBox k) = .cashbox k (s.boxes.get k).counts := by
  cases k <;> rfl
@[simp] theorem State.image_escrow (s : State) (l : Lane) : s.image (recEscrow l) = .escrow l (s.escrows.get l).image := by
  cases l <;> rfl

/-- Every record is one of the table of R152. -/
theorem RecordNo.cases {P : RecordNo → Prop} (denoms : P recDenoms) (settings : P recSettings) (floors : P recFloors)
    (limits : P recLimits) (weights : P recWeights) (selects : P recSelects) (unit : ∀ u, P (recUnit u))
    (box : ∀ k, P (recBox k)) (escrow : ∀ l, P (recEscrow l)) (r : RecordNo) : P r := by
  fin_cases r
  exacts [denoms, settings, floors, limits, weights, selects, unit 0, unit 1, unit 2, unit 3, unit 4, unit 5, unit 6,
    unit 7, unit 8, unit 9, unit 10, unit 11, box .coin, box .note, escrow .a, escrow .b]

theorem Twelve.map_congr {α β : Type} {t t' : Twelve α} {f : α → β} (h : ∀ i, f (t.get i) = f (t'.get i)) :
    t.map f = t'.map f := by
  simp [Twelve.map, h]

theorem PerLane.map_congr {α β : Type} {t t' : PerLane α} {f : α → β} (h : ∀ l, f (t.get l) = f (t'.get l)) :
    t.map f = t'.map f := by
  have a := h .a
  have b := h .b
  simp_all [PerLane.map, PerLane.get]

/-- The parts of a unit that records hold (R152). -/
@[simp] abbrev UnitRec.SameSource (r r' : UnitRec) : Prop :=
  r'.settings = r.settings ∧ r'.count = r.count ∧ r'.state = r.state

theorem State.image_congr {s t : State} (denoms : t.denoms = s.denoms) (floors : t.floors = s.floors)
    (limits : t.limits = s.limits) (boxes : t.boxes = s.boxes)
    (units : ∀ u, (s.units.get u).SameSource (t.units.get u))
    (weights : ∀ l, (t.lanes.get l).weight = (s.lanes.get l).weight)
    (selects : ∀ n, (t.counters.get n).select = (s.counters.get n).select)
    (escrows : ∀ l, (t.escrows.get l).image = (s.escrows.get l).image) (r : RecordNo) : t.image r = s.image r := by
  cases r using RecordNo.cases with
  | denoms => simp [denoms]
  | settings => simpa using Twelve.map_congr fun u => (units u).1
  | floors => simp [floors]
  | limits => simp [State.limitsImage, limits, boxes]
  | weights => simpa using PerLane.map_congr weights
  | selects => simp [selects]
  | unit u => simp [(units u).2]
  | box k => simp [boxes]
  | escrow l => simp [escrows l]

/-! ### What an operation may do -/

/-- The operation marks every record whose source it changes; members of the dirty set stay, and new ones join at the
present time; the tables' laws go on. -/
structure Tracks (s t : State) : Prop where
  clock : t.now = s.now
  changed : ∀ r, t.image r ≠ s.image r → ∃ since, (r, since) ∈ t.dirty
  members : ∀ e ∈ s.dirty, e ∈ t.dirty
  joined : ∀ e ∈ t.dirty, e ∈ s.dirty ∨ e.2 = t.now
  sorted : dirtyLaw s.dirty → dirtyLaw t.dirty
  counters : s.CounterLaw → t.CounterLaw
  denoms : s.DenomLaw → t.DenomLaw

theorem Tracks.refl (s : State) : Tracks s s :=
  ⟨rfl, fun _ h => absurd rfl h, fun _ h => h, fun _ h => .inl h, id, id, id⟩

theorem Tracks.trans {s t u : State} (h : Tracks s t) (k : Tracks t u) : Tracks s u where
  clock := k.clock.trans h.clock
  changed r hr := by
    by_cases same : t.image r = s.image r
    · exact k.changed r (same ▸ hr)
    · obtain ⟨since, mem⟩ := h.changed r same
      exact ⟨since, k.members _ mem⟩
  members e he := k.members e (h.members e he)
  joined e he := by
    rcases k.joined e he with old | new
    · rw [k.clock]
      exact h.joined e old
    · exact .inr new
  sorted := k.sorted ∘ h.sorted
  counters := k.counters ∘ h.counters
  denoms := k.denoms ∘ h.denoms

theorem DenomLaw_congr {s t : State} (h : t.denoms = s.denoms) (law : s.DenomLaw) : t.DenomLaw := by
  simpa [State.DenomLaw, h] using law

/-- An operation that leaves every source and the dirty set. -/
theorem Tracks.same {s t : State} (clock : t.now = s.now := by simp) (dirty : t.dirty = s.dirty := by simp)
    (denoms : t.denoms = s.denoms := by simp) (floors : t.floors = s.floors := by simp)
    (limits : t.limits = s.limits := by simp) (boxes : t.boxes = s.boxes := by simp)
    (units : ∀ u, (s.units.get u).SameSource (t.units.get u) := by simp)
    (weights : ∀ l, (t.lanes.get l).weight = (s.lanes.get l).weight := by simp)
    (counters : t.counters = s.counters := by simp)
    (escrows : ∀ l, (t.escrows.get l).image = (s.escrows.get l).image := by simp) : Tracks s t where
  clock := clock
  changed r hr := absurd (State.image_congr denoms floors limits boxes units weights (by simp [counters]) escrows r) hr
  members _ he := dirty ▸ he
  joined _ he := .inl (dirty ▸ he)
  sorted h := dirty ▸ h
  counters h := by simpa [State.CounterLaw, counters] using h
  denoms := DenomLaw_congr denoms

theorem Quiet.image {s t : State} (h : Quiet s t) (r : RecordNo) : t.image r = s.image r :=
  State.image_congr h.denoms h.floors h.limits h.boxes (by simp [h.units]) (by simp [h.lanes]) h.selects
    (fun l => by simp [Escrow.image, h.escrows l]) r

theorem Tracks.quiet {s t : State} (h : Quiet s t) (clock : t.now = s.now) : Tracks s t where
  clock := clock
  changed r hr := absurd (h.image r) hr
  members _ he := h.dirty ▸ he
  joined _ he := .inl (h.dirty ▸ he)
  sorted law := h.dirty ▸ law
  counters := h.values
  denoms := DenomLaw_congr h.denoms

/-- An operation that changes the source of one record and marks it. -/
theorem Tracks.marking {s m : State} (r : RecordNo) (others : ∀ r', r' ≠ r → m.image r' = s.image r')
    (clock : m.now = s.now := by simp) (dirty : m.dirty = s.dirty := by simp)
    (counters : s.CounterLaw → m.CounterLaw := by simp [State.CounterLaw])
    (denoms : s.DenomLaw → m.DenomLaw := by simp [State.DenomLaw]) : Tracks s (m.markDirty r) where
  clock := by simp [clock]
  changed r' hr' := by
    by_cases same : r' = r
    · subst same
      exact exists_mem_insertDirty ..
    · exact absurd (others r' same) hr'
  members e he := mem_insertDirty_of_mem _ _ (dirty ▸ he)
  joined e he := by
    rcases mem_insertDirty he with old | rfl
    · exact .inl (dirty ▸ old)
    · exact .inr rfl
  sorted h := dirtyLaw_insertDirty _ _ (dirty ▸ h)
  counters h := by simpa [State.CounterLaw] using counters h
  denoms h := by simpa [State.DenomLaw] using denoms h

theorem Tracks.ite {s t u : State} {p : Prop} [Decidable p] (ht : Tracks s t) (hu : Tracks s u) :
    Tracks s (if p then t else u) := by
  split
  · exact ht
  · exact hu

theorem Tracks.foldl {α : Type} {f : State → α → State} (h : ∀ s x, Tracks s (f s x)) (xs : List α) (s : State) :
    Tracks s (xs.foldl f s) := by
  induction xs generalizing s with
  | nil => exact .refl s
  | cons x xs ih => exact (h s x).trans (ih _)

end Sys2Proof.Machine
end

section
/-! SUPPORT. Each operation tracks its sources (Laws/Tables): it marks the records whose content it changes. -/

namespace Sys2Proof.Machine

-- One proof after the other: many short proofs at once take more threads than the check's memory limit has room for.
set_option Elab.async false

/-! ### Updates of one record -/

theorem Twelve.modify_same {α : Type} {R : α → α → Prop} (refl : ∀ x, R x x) {t : Twelve α} {i : Fin 12} {f : α → α}
    (h : R (t.get i) (f (t.get i))) (j : Fin 12) : R (t.get j) ((t.modify i f).get j) := by
  rw [Twelve.get_modify]
  split
  next same => exact same ▸ h
  · exact refl _

/-- A change to a unit that no record holds. -/
theorem Tracks.modUnit (s : State) (u : UnitId) (f : UnitRec → UnitRec) (h : ∀ r : UnitRec, r.SameSource (f r) := by simp [UnitRec.settings]) :
    Tracks s (s.modUnit u f) :=
  .same (units := fun v => Twelve.modify_same (R := UnitRec.SameSource) (by simp) (h _) v)

/-- A change of a unit's count or state, with its record marked. -/
theorem Tracks.modUnit_marking (s : State) (u : UnitId) (f : UnitRec → UnitRec)
    (h : ∀ r : UnitRec, (f r).settings = r.settings := by intro _; rfl) : Tracks s ((s.modUnit u f).markDirty (recUnit u)) := by
  refine .marking _ fun r hr => ?_
  cases r using RecordNo.cases with
  | settings =>
    refine congrArg Image.settings (Twelve.map_congr fun v => ?_)
    · rw [State.modUnit_units, Twelve.get_modify]
      split
      next same => rw [h, same]
      · rfl
  | unit v =>
    have : v ≠ u := fun e => hr (e ▸ rfl)
    simp [Twelve.get_modify, this]
  | _ => simp [State.limitsImage]

theorem Tracks.modLane (s : State) (l : Lane) (f : LaneRec → LaneRec) (h : ∀ r, (f r).weight = r.weight := by intro _; rfl) :
    Tracks s (s.modLane l f) :=
  .same (weights := fun i => by
    rw [State.modLane_lanes, PerLane.get_modify]
    split
    next same => rw [h, same]
    · rfl)

/-- A change of a stack that leaves its slots and its owner. -/
theorem Tracks.modEscrow (s : State) (l : Lane) (f : Escrow → Escrow) (h : ∀ e, (f e).image = e.image := by intro _; rfl) :
    Tracks s (s.modEscrow l f) :=
  .same (escrows := fun i => by
    rw [State.modEscrow_escrows, PerLane.get_modify]
    split
    next same => rw [h, same]
    · rfl)

/-- A change of a stack, with its record marked. -/
theorem Tracks.modEscrow_marking (s : State) (l : Lane) (f : Escrow → Escrow) :
    Tracks s ((s.modEscrow l f).markDirty (recEscrow l)) := by
  refine .marking _ fun r hr => ?_
  cases r using RecordNo.cases with
  | escrow i =>
    have : i ≠ l := fun e => hr (e ▸ rfl)
    simp [PerLane.get_modify, this]
  | _ => simp [State.limitsImage]

theorem Tracks.sample (s : State) (x : Sample) : Tracks s (s.sample x) := .quiet (.sample ..) (by simp)

theorem Tracks.modEvents (s : State) (p : Port) (f : EventSet → EventSet) : Tracks s (s.modEvents p f) :=
  .quiet (.modEvents ..) (by simp)

theorem Tracks.answer (s : State) (p : Port) (c : Command) (data : List Field) : Tracks s (s.answer p c data) :=
  .quiet (.answer ..) (by simp)

theorem Tracks.modSale (s : State) (l : Lane) (tag : Nat) (f : Sale → Sale) : Tracks s (s.modSale l tag f) := .same

theorem Tracks.setPhase (s : State) (k : Kind) (x : Phase) : Tracks s (s.setPhase k x) := .same

theorem Tracks.modJob (s : State) (n : Nat) (f : Job → Job) : Tracks s (s.modJob n f) := .same

theorem Tracks.dropJob (s : State) (n : Nat) : Tracks s (s.dropJob n) := .same

/-! ### Shared operations (Machine/Ops.lean) -/

theorem Tracks.setUnitState (s : State) (u : UnitId) (st : UnitState) : Tracks s (s.setUnitState u st) :=
  .modUnit_marking s u _

theorem Tracks.lockIfDone (s : State) (u : UnitId) : Tracks s (s.lockIfDone u) :=
  .ite (.setUnitState ..) (.refl s)

theorem Tracks.release (s : State) (u : UnitId) (n : Nat) : Tracks s (s.release u n) :=
  (Tracks.modUnit s u _).trans
    (.lockIfDone ..)

theorem Tracks.countIn (s : State) (u : UnitId) : Tracks s (s.countIn u) := .modUnit_marking s u _

theorem Tracks.countOut (s : State) (u : UnitId) : Tracks s (s.countOut u) := .modUnit_marking s u _

/-- New counts of a cashbox, with its record marked. -/
theorem Tracks.modBox_marking (s : State) (k : Kind) (f : Cashbox → Cashbox)
    (h : ∀ b, (f b).capacity = b.capacity := by intro _; rfl) : Tracks s ((s.modBox k f).markDirty (recBox k)) := by
  refine .marking _ fun r hr => ?_
  cases r using RecordNo.cases with
  | limits => cases k <;> simp [State.limitsImage, PerKind.modify, PerKind.set, PerKind.get, h]
  | box i =>
    have : i ≠ k := fun e => hr (e ▸ rfl)
    simp [PerKind.get_modify, this]
  | _ => simp

theorem Tracks.boxIn (s : State) (k : Kind) (d : Slot) : Tracks s (s.boxIn k d) :=
  .ite (.modBox_marking s k _) (.refl s)

theorem Tracks.setOwner (s : State) (l : Lane) (o : EscrowOwner) : Tracks s (s.setOwner l o) := by
  simp only [State.setOwner, State.markIf]
  split
  · exact .modEscrow_marking ..
  next same =>
    have owner : (s.escrows.get l).owner = o := by simpa using same
    refine .same (escrows := fun i => ?_)
    rw [State.modEscrow_escrows, PerLane.get_modify]
    split
    next here => subst here; simp [Escrow.image, owner]
    · rfl

theorem Tracks.setEscrowStatus (s : State) (l : Lane) (st : EscrowStatus) : Tracks s (s.setEscrowStatus l st) :=
  .modEscrow s l _

theorem Tracks.addStray (s : State) (l : Lane) (v : Nat) : Tracks s (s.addStray l v) := by
  simp only [State.addStray]
  split
  · exact (Tracks.modLane s l _).trans (.modEvents ..)
  · exact .refl s

theorem Tracks.creditSale (s : State) (l : Lane) (tag : Nat) (k : Kind) (v : Nat) : Tracks s (s.creditSale l tag k v) := by
  simp only [State.creditSale]
  split
  · exact .addStray ..
  split
  · exact (Tracks.modSale ..).trans (.addStray ..)
  · exact .modSale ..

theorem Tracks.finishSale (s : State) (l : Lane) (tag : Nat) (st : SaleState) : Tracks s (s.finishSale l tag st) :=
  (Tracks.modSale ..).trans (.modEvents ..)

theorem Tracks.settleTest (s : State) (l : Lane) (tag : Nat) : Tracks s (s.settleTest l tag) := by
  simp only [State.settleTest]
  split
  · exact .refl s
  split
  · exact .refl s
  split
  · exact .finishSale ..
  · exact .ite (.refl s) (.finishSale ..)
  · exact .refl s

theorem Tracks.clearNeedOf (s : State) (l : Lane) (tag : Nat) : Tracks s (s.clearNeedOf l tag) :=
  .ite (.modLane s l _) (.refl s)

theorem Tracks.placeRequest (s : State) (l : Lane) (tag : Nat) (k : RequestKind) (n : Nat) :
    Tracks s (s.placeRequest l tag k n) := .same

theorem Tracks.lapse (s : State) (l : Lane) (tag : Nat) : Tracks s (s.lapse l tag) := .same

theorem Tracks.endTransfer (s : State) (u : UnitId) (e : TransferEnd) : Tracks s (s.endTransfer u e) := by
  simp only [State.endTransfer]
  split
  · exact .refl s
  · exact Tracks.trans (t := s.modTransfer u _) .same (.modEvents ..)

theorem Tracks.placeService (s : State) (u : UnitId) (k : TransferKind) (n : Nat) : Tracks s (s.placeService u k n) :=
  .same (units := fun v => Twelve.modify_same (R := UnitRec.SameSource) (by simp) (by simp [UnitRec.settings]) v)

theorem Tracks.placeStackDown (s : State) (l : Lane) : Tracks s (s.placeStackDown l) := .same

theorem Tracks.returnSucceeds (s : State) (l : Lane) : Tracks s (s.returnSucceeds l) := by
  simp only [State.returnSucceeds]
  split
  · exact ((Tracks.modLane s l _).trans (.modEscrow_marking ..)).trans (.settleTest ..)
  · exact (Tracks.modLane s l _).trans (.modEscrow_marking ..)

theorem Tracks.beginReturn (s : State) (l : Lane) : Tracks s (s.beginReturn l) := by
  simp only [State.beginReturn]
  split
  · exact (Tracks.setEscrowStatus ..).trans (.returnSucceeds ..)
  · exact .setEscrowStatus ..

theorem Tracks.returnFails (s : State) (l : Lane) : Tracks s (s.returnFails l) := by
  simp only [State.returnFails]
  split
  · exact ((Tracks.setEscrowStatus ..).trans (.modEvents ..)).trans (.modEvents ..)
  · exact ((Tracks.setEscrowStatus ..).trans (.modEvents ..)).trans (.modEvents ..)

/-! ### What follows a change (Machine/Float.lean) -/

theorem Tracks.withdrawOne (s : State) (r : Reservation) : Tracks s (s.withdrawOne r) :=
  ((Tracks.lapse ..).trans (.modEvents ..)).trans (.sample ..)

theorem Tracks.withdrawWalk (rs : List Reservation) (s : State) : Tracks s (withdrawWalk rs s).1 := by
  induction rs generalizing s with
  | nil => exact .refl s
  | cons r rs ih =>
    simp only [Machine.withdrawWalk]
    split
    · split
      · exact (Tracks.withdrawOne ..).trans (ih _)
      · exact ih s
    · exact .refl s

theorem Tracks.sweepCheck (s : State) (u : UnitId) : Tracks s (s.sweepCheck u) := by
  simp only [State.sweepCheck]
  split
  · split
    · exact .refl s
    · exact .ite (.placeService ..) (.refl s)
  · exact .refl s

theorem Tracks.sweepChecks (s : State) (left : List Reservation) (stored : List UnitId) :
    Tracks s (s.sweepChecks left stored) :=
  .foldl (fun _ _ => .ite (.sweepCheck ..) (.refl _)) _ _

theorem Tracks.startEjection (s : State) (k : Kind) (j : Job) (d : Dest) : Tracks s (s.startEjection k j d) := .same

theorem markTop_slots (es : List EscrowEntry) : (markTop es).map EscrowEntry.slot = es.map EscrowEntry.slot := by
  induction es using markTop.induct <;> simp_all [markTop]

theorem Tracks.grantStackDown (s : State) (j : Job) : Tracks s (s.grantStackDown j) := by
  simp only [State.grantStackDown]
  split
  · exact .refl s
  split
  · exact .refl s
  · exact (Tracks.startEjection ..).trans (.modEscrow _ _ _ fun e => by simp [Escrow.image, markTop_slots])

theorem Tracks.grantLane (s : State) (k : Kind) (l : Lane) (j : Job) (w : Bool) : Tracks s (s.grantLane k l j w) := by
  have started : Tracks s ((s.startEjection k j j.dest).setTurn k (s.turnAfter k l)) := .same
  simp only [State.grantLane]
  exact .ite (started.trans (.sample ..)) started

theorem Tracks.grantFirst (s : State) (k : Kind) : Tracks s (s.grantFirst k) := by
  simp only [State.grantFirst]
  split
  · exact .grantStackDown ..
  split
  · exact .grantLane ..
  split
  · exact .startEjection ..
  · exact .refl s

theorem Tracks.arbitrate (s : State) (k : Kind) : Tracks s (s.arbitrate k) := by
  simp only [State.arbitrate]
  split
  · exact .refl s
  split
  · exact .grantFirst ..
  · exact .refl s
  · exact .refl s

/-- What `conclude` does before the record writer begins a write. -/
theorem Tracks.concluding (s : State) (fall : Bool) (left : List Reservation) (stored : List UnitId) :
    ∃ t, Tracks s t ∧ s.conclude fall left stored = t.flush := by
  cases fall with
  | false => exact ⟨_, ((Tracks.sweepChecks ..).trans (.arbitrate _ .coin)).trans (.arbitrate _ .note), rfl⟩
  | true =>
    exact ⟨_, ((Tracks.withdrawWalk _ s).trans (.sweepChecks ..)).trans ((Tracks.arbitrate _ .coin).trans (.arbitrate _ .note)),
      rfl⟩

/-! ### Sales (Machine/Search.lean, Machine/Sales.lean, Machine/Lanes.lean) -/

theorem Tracks.commit (s : State) (u : UnitId) (n : Nat) : Tracks s (s.commit u n) := .modUnit s u _

theorem Tracks.commitAll (s : State) (xs : List Share) : Tracks s (s.commitAll xs) :=
  .foldl (fun _ _ => .commit ..) xs s

theorem Tracks.placeShares (s : State) (l : Lane) (tag : Nat) (xs : List Share) (place : List Job → List Job → List Job) :
    Tracks s (s.placeShares l tag xs place) :=
  Tracks.trans (t := s.commitAll xs) (.commitAll ..) (.same (units := fun _ => by simp [State.placeShares]))

theorem Tracks.openTender (s : State) (l : Lane) (tag : Nat) : Tracks s (s.openTender l tag) :=
  ((Tracks.modSale ..).trans (.modLane _ l _)).trans (.setOwner ..)

theorem Tracks.unbind (s : State) (l : Lane) : Tracks s (s.unbind l) := .modLane s l _

theorem Tracks.closeTender (s : State) (l : Lane) (tag : Nat) : Tracks s (s.closeTender l tag) :=
  (Tracks.unbind s l).trans ((Tracks.ite (.setOwner ..) (.refl _)).trans (.modSale ..))

theorem Tracks.beforeQuote (s : State) (l : Lane) (x : Sale) : Tracks s (s.beforeQuote l x) := by
  simp only [State.beforeQuote]
  split
  · exact .closeTender ..
  · exact .lapse ..
  · exact .refl s

theorem Tracks.payOut (s : State) (l : Lane) (tag : Nat) (xs : List Share) (v : Nat) : Tracks s (s.payOut l tag xs v) := by
  have dropped : Tracks s (s.dropReservation l tag) := .same
  refine dropped.trans <| (Tracks.placeShares ..).trans <| (Tracks.modSale ..).trans <| Tracks.trans (t := if 0 < v then _ else _)
    (.ite (.placeRequest ..) (.refl _)) <| Tracks.trans (.ite ((Tracks.setOwner ..).trans (.placeStackDown ..)) (.refl _))
    (.clearNeedOf ..)

theorem Tracks.beforeCancel (s : State) (l : Lane) (x : Sale) : Tracks s (s.beforeCancel l x) := by
  simp only [State.beforeCancel]
  split
  · exact .unbind ..
  · exact .lapse ..
  · exact .refl s

theorem Tracks.returnStack (s : State) (l : Lane) (tag : Nat) : Tracks s (s.returnStack l tag) :=
  .ite (.ite (.setOwner ..) (.beginReturn ..)) (.refl s)

theorem Tracks.cancelTendered (s : State) (l : Lane) (x : Sale) : Tracks s (s.cancelTendered l x) :=
  (Tracks.beforeCancel ..).trans <| (Tracks.modSale ..).trans <| Tracks.trans (.ite (.placeRequest ..) (.refl _)) <|
    (Tracks.returnStack ..).trans (.settleTest ..)

theorem Tracks.releaseJobs (s : State) (js : List Job) : Tracks s (s.releaseJobs js) := by
  refine .foldl (fun s j => ?_) js s
  split
  · exact .release ..
  · exact .refl s

theorem Tracks.stopJobs (s : State) (l : Lane) (tag : Nat) : Tracks s (s.stopJobs l tag) :=
  Tracks.trans (t := s.modLaneJobs l _) .same (.releaseJobs ..)

theorem Tracks.orphanStack (s : State) (l : Lane) (x : Sale) : Tracks s (s.orphanStack l x) := by
  simp only [State.orphanStack]
  split
  · split
    · exact (Tracks.setOwner ..).trans (.setEscrowStatus ..)
    · exact .setOwner ..
    · exact .setOwner ..
  · exact .refl s

theorem Tracks.stopSale (s : State) (l : Lane) (x : Sale) : Tracks s (s.stopSale l x) :=
  (Tracks.stopJobs s l x.tag).trans <| Tracks.trans (t := (s.stopJobs l x.tag).dropRequest l x.tag) .same <|
    (Tracks.orphanStack ..).trans (.finishSale ..)

theorem Tracks.grantFloor (s : State) (l : Lane) : Tracks s (s.grantFloor l) := by
  simp only [State.grantFloor]
  split
  · exact .modEvents ..
  · exact .refl s

theorem Tracks.closeLane (s : State) (l : Lane) : Tracks s (s.closeLane l) :=
  (Tracks.foldl (fun s tag => .finishSale s l tag .cancelled) (s.waitingTags l) s).trans <|
    (Tracks.modLane _ l _).trans (.grantFloor ..)

theorem Tracks.yieldFloor (s : State) (l : Lane) : Tracks s (s.yieldFloor l) :=
  .ite ((Tracks.modLane s l _).trans (.grantFloor ..)) (.refl s)

/-! ### Service (Machine/Service.lean) -/

theorem Twelve.modify_modify {α : Type} (t : Twelve α) (i : Fin 12) (f g : α → α) :
    (t.modify i f).modify i g = t.modify i (g ∘ f) := by
  fin_cases i <;> rfl

/-- New settings of a unit, with the settings record marked. -/
theorem Tracks.modSettings_marking (s : State) (u : UnitId) (f : UnitRec → UnitRec)
    (h : ∀ r : UnitRec, (f r).count = r.count ∧ (f r).state = r.state := by intro _; exact ⟨rfl, rfl⟩) :
    Tracks s ((s.modUnit u f).markDirty recSettings) := by
  refine .marking _ fun r hr => ?_
  cases r using RecordNo.cases with
  | settings => exact absurd rfl hr
  | unit v =>
    by_cases same : v = u
    · subst same; simp [h]
    · simp [Twelve.get_modify_other _ same]
  | _ => simp [State.limitsImage]

/-- WRITE_UNIT's effect in two parts: the settings, then the state (R138). -/
theorem State.writeSettings_eq (s : State) (u : UnitId) (x : UnitSettings) :
    s.writeSettings u x =
      (((s.modUnit u fun r =>
        { r with slot := x.slot, capacity := x.capacity, highWater := x.highWater, sweepTarget := x.sweepTarget,
                 mask := x.mask }).markDirty recSettings).modUnit u fun r =>
        { r with state := writtenState (s.units.get u).state x.slot }).markIf
        (decide (writtenState (s.units.get u).state x.slot ≠ (s.units.get u).state)) (recUnit u) := by
  simp only [State.writeSettings, State.modUnit, State.markDirty, Twelve.modify_modify]
  rfl

theorem Tracks.writeSettings (s : State) (u : UnitId) (x : UnitSettings) : Tracks s (s.writeSettings u x) := by
  rw [State.writeSettings_eq]
  refine (Tracks.modSettings_marking s u fun r =>
    { r with slot := x.slot, capacity := x.capacity, highWater := x.highWater, sweepTarget := x.sweepTarget,
             mask := x.mask }).trans ?_
  simp only [State.markIf]
  split
  · exact .modUnit_marking _ u _
  next same =>
    refine .same (units := fun v => Twelve.modify_same (R := UnitRec.SameSource) (by simp) ?_ v)
    simpa [UnitRec.settings] using same

theorem Tracks.writeFloor (s : State) (l : Lane) (d : Slot) (n : Nat) : Tracks s (s.writeFloor l d n) := by
  refine .marking recFloors fun r hr => ?_
  cases r using RecordNo.cases with
  | floors => exact absurd rfl hr
  | _ => simp [State.limitsImage]

/-- The values of all enabled slots are different (R1). -/
theorem distinctValues_iff (t : Twelve Denom) :
    distinctValues t = true ↔
      ∀ d e, d ≠ e → (t.get d).enabled = true → (t.get e).enabled = true → (t.get d).value ≠ (t.get e).value := by
  simp only [distinctValues, List.all_eq_true, mem_allSlots, forall_true_left, Bool.or_eq_true, decide_eq_true_eq,
    Bool.not_eq_true']
  refine forall_congr' fun d => forall_congr' fun e => ?_
  cases (t.get d).enabled <;> cases (t.get e).enabled <;> simp [or_iff_not_imp_left]

/-- The range check of SET_DENOM: the ranges of R1, and a value that no other enabled slot has (R139). -/
theorem State.setDenomInRange_iff (s : State) (d : Slot) (x : Denom) :
    s.setDenomInRange d x = true ↔
      1 ≤ x.value ∧ x.value ≤ 50000 ∧ x.lowWater ≤ 1000 ∧ (x.enabled = true →
        ∀ e, e ≠ d → (s.denoms.get e).enabled = true → (s.denoms.get e).value ≠ x.value) := by
  simp only [State.setDenomInRange, Denom.inRange, State.valueTaken, Bool.and_eq_true, decide_eq_true_eq,
    Bool.not_eq_true', Bool.and_eq_false_imp, List.any_eq_false, mem_allSlots, forall_true_left, and_assoc, not_and, ne_eq]

/-- SET_DENOM keeps the values of enabled slots different (R1, R139). -/
theorem DenomLaw_set {s : State} {d : Slot} {x : Denom} (law : s.DenomLaw) (range : s.setDenomInRange d x = true) :
    { s with denoms := s.denoms.set d x }.DenomLaw := by
  obtain ⟨-, -, -, other⟩ := (s.setDenomInRange_iff d x).mp range
  simp only [State.DenomLaw, distinctValues_iff, Twelve.get_set] at law ⊢
  intro a b ne ha hb
  split at ha <;> split at hb <;> simp_all
  · exact fun e => other b ‹_› hb e.symm

theorem Tracks.setDenom {s : State} {d : Slot} {x : Denom} (range : s.setDenomInRange d x = true) :
    Tracks s ({ s with denoms := s.denoms.set d x }.markDirty recDenoms) := by
  refine .marking recDenoms (denoms := fun law => DenomLaw_set law range) fun r hr => ?_
  cases r using RecordNo.cases with
  | denoms => exact absurd rfl hr
  | _ => simp [State.limitsImage]

/-- The settings of SET_LIMITS stand in the record of the setting (R141). -/
theorem Tracks.writeSetting (s : State) (x : Setting) (v : Nat) : Tracks s ((s.writeSetting x v).markDirty x.record) := by
  have limits : ∀ (t : State) (y : Limits), Tracks t ({ t with limits := y }.markDirty recLimits) := fun t y => by
    refine .marking _ fun r hr => ?_
    cases r using RecordNo.cases with
    | limits => exact absurd rfl hr
    | _ => simp
  cases x with
  | cupLimit =>
    have lower : ∀ (t : State) (l : Lane), Tracks t _ := fun t l => (Tracks.modLane t l fun r => { r with cup := min r.cup v })
    exact ((Tracks.ite ((lower s .a).trans (.sample ..)) (lower s .a)).trans
      (.ite ((lower _ .b).trans (.sample ..)) (lower _ .b))).trans (limits _ _)
  | outletLimit =>
    have lower : ∀ (t : State) (l : Lane), Tracks t _ := fun t l =>
      (Tracks.modLane t l fun r => { r with outlet := min r.outlet v })
    exact ((Tracks.ite ((lower s .a).trans (.sample ..)) (lower s .a)).trans
      (.ite ((lower _ .b).trans (.sample ..)) (lower _ .b))).trans (limits _ _)
  | weight l =>
    refine .marking _ (fun r hr => ?_) (counters := id) (denoms := id)
    cases r using RecordNo.cases with
    | weights => exact absurd rfl hr
    | _ => simp [State.writeSetting, State.limitsImage]
  | cashboxCapacity k =>
    refine .marking _ (fun r hr => ?_) (counters := id) (denoms := id)
    cases r using RecordNo.cases with
    | limits => exact absurd rfl hr
    | box i =>
      by_cases same : i = k
      · subst same; simp [State.writeSetting]
      · simp [State.writeSetting, PerKind.get_modify_other _ same]
    | _ => simp [State.writeSetting]
  | _ => exact limits s _

theorem Tracks.audit (s : State) (u : UnitId) (n : Nat) : Tracks s (s.audit u n) := .modUnit_marking s u _

theorem Tracks.modTally (s : State) (l : Lane) (f : Twelve Nat → Twelve Nat) : Tracks s (s.modTally l f) := .same

theorem Tracks.beginFloatIn (s : State) (l : Lane) : Tracks s (s.beginFloatIn l) :=
  ((Tracks.modLane s l fun r => { r with binding := .floatIn }).trans (.setOwner ..)).trans (.modTally ..)

theorem Tracks.endFloatIn (s : State) (l : Lane) : Tracks s (s.endFloatIn l) :=
  (Tracks.unbind s l).trans (.ite (.setOwner ..) (.refl _))

theorem Tracks.keepForSale (s : State) (l : Lane) (tag v : Nat) : Tracks s (s.keepForSale l tag v) :=
  (Tracks.modSale ..).trans <| Tracks.trans (.ite (.placeRequest ..) (.refl _)) (.settleTest ..)

theorem Tracks.keepStack (s : State) (l : Lane) : Tracks s (s.keepStack l) :=
  .ite ((Tracks.setOwner ..).trans (.setEscrowStatus ..))
    (((Tracks.setOwner ..).trans (.setEscrowStatus ..)).trans (.placeStackDown ..))

theorem Tracks.keepEscrow (s : State) (l : Lane) : Tracks s (s.keepEscrow l) := by
  simp only [State.keepEscrow]
  split
  · exact (Tracks.keepStack ..).trans (.keepForSale ..)
  · exact .keepStack ..

theorem Tracks.clearBox (s : State) (k : Kind) : Tracks s (s.clearBox k) := .modBox_marking s k _

/-- A counter that starts afresh stands at 0, and its select is in the selects record (R183). -/
theorem Tracks.startCounter (s : State) (n : Fin 8) (x : Select) : Tracks s (s.startCounter n x) := by
  refine .marking recSelects (fun r hr => ?_) (counters := fun law i => ?_)
  · cases r using RecordNo.cases with
    | selects => exact absurd rfl hr
    | _ => simp [State.limitsImage]
  · simp only [Eight.get_set]
    split
    · exact (by decide : 0 < Config.counterModulus)
    · exact law i

/-! ### Reports (Machine/Reports.lean) -/

theorem Tracks.storePiece (s : State) (k : Kind) (l : Lane) (d : Slot) (x : Store) : Tracks s (s.storePiece k l d x) := by
  cases x with
  | unit u => exact .countIn ..
  | cashbox => exact (Tracks.boxIn ..).trans (.sample ..)

theorem Tracks.tallyPiece (s : State) (l : Lane) (d : Slot) : Tracks s (s.tallyPiece l d) := .modTally ..

theorem Tracks.creditCoin (s : State) (l : Lane) (d : Slot) : Tracks s (s.creditCoin l d) := by
  simp only [State.creditCoin]
  split
  · exact .creditSale ..
  · exact .addStray ..
  · exact .tallyPiece ..

theorem Tracks.takeCoin (s : State) (l : Lane) (d : Slot) : Tracks s (s.takeCoin l d) := by
  have path : Tracks s { s with coinPaths := s.coinPaths.set l (some (s.coinStore l d)) } := .same
  exact path.trans <| ((Tracks.sample ..).trans (.storePiece ..)).trans (.ite (.creditCoin ..) (.refl _))

theorem Tracks.pushNote (s : State) (l : Lane) (d : Slot) (c : Credit) : Tracks s (s.pushNote l d c) :=
  .modEscrow_marking ..

theorem Tracks.growStackDown (s : State) (l : Lane) : Tracks s (s.growStackDown l) := .same

theorem Tracks.joinStackDown (s : State) (l : Lane) : Tracks s (s.joinStackDown l) := by
  simp only [State.joinStackDown]
  split
  · exact .growStackDown ..
  · exact .placeStackDown ..

theorem Tracks.takeNote (s : State) (l : Lane) (d : Slot) : Tracks s (s.takeNote l d) := by
  simp only [State.takeNote]
  split
  · exact (Tracks.pushNote ..).trans (.creditSale ..)
  · exact ((Tracks.pushNote ..).trans (.tallyPiece ..)).trans (.joinStackDown ..)
  · exact .ite ((((Tracks.pushNote ..).trans (.setOwner ..)).trans (.placeStackDown ..)).trans (.addStray ..))
      (((Tracks.pushNote ..).trans (.growStackDown ..)).trans (.addStray ..))

theorem Tracks.endEjection (s : State) (k : Kind) (e : Ejection) (x : Phase) : Tracks s (s.endEjection k e x) :=
  (Tracks.setPhase ..).trans (.modJob ..)

theorem Tracks.removeStopped (s : State) (j : Job) (u : UnitId) : Tracks s (s.removeStopped j u) :=
  (Tracks.dropJob ..).trans (.release ..)

theorem Tracks.bump (s : State) (x : Dest) (m : Mask12) : Tracks s (s.bump x m) := by
  cases x with
  | cup l =>
    exact .ite ((Tracks.modLane s l _).trans (.ite (.sample ..) (.refl _))) (.refl s)
  | outlet l =>
    exact .ite ((Tracks.modLane s l _).trans (.ite (.sample ..) (.refl _))) (.refl s)
  | _ => exact .refl s

theorem Tracks.moveToCashbox (s : State) (u : UnitId) : Tracks s (s.moveToCashbox u) := by
  have moved : ∀ t : State, Tracks t (t.transferMoved u) := fun _ => .same
  simp only [State.moveToCashbox]
  split
  · exact moved s
  · exact ((Tracks.boxIn ..).trans (moved _)).trans (.sample ..)

theorem Tracks.deliver (s : State) (j : Job) (u : UnitId) (v : Nat) : Tracks s (s.deliver j u v) := by
  simp only [State.deliver]
  split
  · exact (Tracks.sample s _).trans ((Tracks.bump ..).trans (.modSale ..))
  · exact .sample ..
  · exact (Tracks.sample s _).trans (.moveToCashbox ..)
  · exact (Tracks.sample s _).trans (.moveToCashbox ..)

theorem Tracks.countPiece (s : State) (j : Job) (u : UnitId) : Tracks s (s.countPiece j u) :=
  ((Tracks.countOut ..).trans (.modJob ..)).trans (.deliver ..)

theorem Tracks.countExtra (s : State) (j : Job) (u : UnitId) : Tracks s (s.countExtra j u) :=
  (Tracks.modUnit_marking s u _).trans (.deliver ..)

theorem Tracks.countPieces (s : State) (j : Job) (u : UnitId) (p : Pieces) : Tracks s (s.countPieces j u p) :=
  (Tracks.countPiece s j u).trans <| Tracks.trans (.ite (.countPiece ..) (.refl _)) (.ite (.countExtra ..) (.refl _))

theorem Tracks.endTransferOf (s : State) (j : Job) (u : UnitId) (x : TransferEnd) : Tracks s (s.endTransferOf j u x) := by
  simp only [State.endTransferOf]
  split
  · exact .refl s
  · exact .refl s
  · exact .endTransfer ..
  · exact .endTransfer ..

theorem Tracks.closeJob (s : State) (j : Job) (u : UnitId) : Tracks s (s.closeJob j u) :=
  .ite (((Tracks.dropJob ..).trans (.sample ..)).trans (.endTransferOf ..)) (.ite (.removeStopped ..) (.refl s))

theorem Tracks.shortenJob (s : State) (j : Job) (u : UnitId) : Tracks s (s.shortenJob j u) := by
  have shortened : Tracks s ((s.modJob j.serial fun j => { j with ordered := j.ordered - 1 }).release u 1) :=
    (Tracks.modJob ..).trans (.release ..)
  have finish : ∀ t : State, Tracks t (if j.ordered - 1 ≤ j.done then (t.dropJob j.serial).endTransferOf j u .complete else t) :=
    fun t => .ite ((Tracks.dropJob ..).trans (.endTransferOf ..)) (.refl t)
  cases origin : j.origin <;> simp only [State.shortenJob, origin]
  · exact (shortened.trans (.placeRequest ..)).trans (finish _)
  · exact shortened.trans (finish _)
  · exact shortened.trans (finish _)
  · exact shortened.trans (finish _)

theorem Tracks.shorten (s : State) (u : UnitId) : Tracks s (s.shorten u) := by
  simp only [State.shorten]
  split
  · split
    · exact .shortenJob ..
    · exact .refl s
  · exact .refl s

theorem Tracks.settleJob (s : State) (j : Job) : Tracks s (s.settleJob j) := by
  simp only [State.settleJob]
  split
  · exact .ite (.refl s) (.settleTest ..)
  · exact .refl s
  · exact .refl s
  · exact .refl s

theorem Tracks.detect (s : State) (k : Kind) (e : Ejection) (j : Job) (u : UnitId) (p : Pieces) :
    Tracks s (s.detect k e j u p) :=
  ((Tracks.countPieces ..).trans (.endEjection ..)).trans <| ((Tracks.closeJob ..).trans (.lockIfDone ..)).trans <|
    Tracks.trans (.ite (.shorten ..) (.refl _)) (.settleJob ..)

theorem Tracks.closeStack (s : State) (l : Lane) (n : Nat) : Tracks s (s.closeStack l n) :=
  .ite ((Tracks.dropJob ..).trans (.ite (.refl _) (.setOwner ..))) (.refl s)

theorem Tracks.stackDetected (s : State) (e : Ejection) (l : Lane) (p : Pieces) : Tracks s (s.stackDetected e l p) := by
  have popped : Tracks s (s.popNote l) := .modEscrow_marking ..
  have finish : ∀ t : State, Tracks t (((t.modJob e.job fun j => { j with done := j.done + 1 }).endEjection .note e
      (e.afterStack p)).closeStack l e.job) :=
    fun t => ((Tracks.modJob ..).trans (.endEjection ..)).trans (.closeStack ..)
  simp only [State.stackDetected]
  refine popped.trans ?_
  split
  · exact (Tracks.storePiece ..).trans (finish _)
  · exact finish _

theorem Tracks.clearTransit (s : State) (l : Lane) : Tracks s (s.clearTransit l) :=
  .modEscrow s l _ fun e => by simp [Escrow.image]

theorem Tracks.replanRemoved (s : State) (u : UnitId) (js : List Job) : Tracks s (s.replanRemoved u js) :=
  .foldl (fun _ _ => .placeRequest ..) _ _

theorem Tracks.endRemoved (s : State) (u : UnitId) (js : List Job) : Tracks s (s.endRemoved u js) :=
  .ite (.endTransfer ..) (.refl s)

theorem Tracks.dismissJobs (s : State) (u : UnitId) : Tracks s (s.dismissJobs u) := by
  have dropped : Tracks s (s.dropJobs fun j => j.onUnit u) := .same
  exact (dropped.trans (.modUnit _ u _)).trans ((Tracks.replanRemoved ..).trans (.endRemoved ..))

theorem Tracks.thirdMiss (s : State) (k : Kind) (e : Ejection) (j : Job) (u : UnitId) : Tracks s (s.thirdMiss k e j u) :=
  (Tracks.endEjection ..).trans <| Tracks.trans (.ite (.setUnitState ..) (.refl _)) <|
    (Tracks.dismissJobs ..).trans (.sample ..)

theorem Tracks.lastMiss (s : State) (k : Kind) (e : Ejection) (j : Job) (u : UnitId) : Tracks s (s.lastMiss k e j u) :=
  (Tracks.endEjection ..).trans (.ite (.removeStopped ..) (.refl _))

/-! ### Plans and restarts (Machine/Planning.lean, Machine/Restart.lean) -/

theorem Tracks.expire (s : State) (r : Reservation) : Tracks s (s.expire r) :=
  ((Tracks.lapse ..).trans (.modEvents ..)).trans (.sample ..)

theorem Tracks.reserve (s : State) (l : Lane) (tag : Nat) (plan : Plan) : Tracks s (s.reserve l tag plan) := .same

theorem Tracks.completeQuote (s : State) (r : PlanReq) (x : Sale) : Tracks s (s.completeQuote r x) := by
  have blocked : ∀ (t : State) (b : Bool) (asked : Mask12),
      Tracks t (if b then (t.setNeed r.lane r.tag asked).sampleBlocked r.lane asked else t) :=
    fun t _ _ => .ite ((Tracks.modLane t r.lane _).trans (.sample ..)) (.refl t)
  simp only [State.completeQuote]
  generalize s.liftedSearch r (s.searchFor r.lane r.tag r.amount r.shielded) = second
  have first : ∀ (f : Sale → Sale) (plan : Plan) (o : PlanOutcome) (n : Nat),
      Tracks s ((((s.modSale r.lane r.tag f).reserve r.lane r.tag plan).sampleOutcome r.lane o plan).sampleSteps r.lane n) :=
    fun _ _ _ _ => ((Tracks.modSale ..).trans (.reserve ..)).trans ((Tracks.sample ..).trans (.sample ..))
  cases second with
  | none => exact ((first ..).trans (blocked ..)).trans (.answer ..)
  | some y => exact (((first ..).trans (.sample ..)).trans (blocked ..)).trans (.answer ..)

theorem Tracks.completeJobs (s : State) (r : PlanReq) : Tracks s (s.completeJobs r) :=
  ((Tracks.placeShares ..).trans (.modSale ..)).trans <| ((Tracks.sample ..).trans (.sample ..)).trans (.settleTest ..)

theorem Tracks.makeUncertain (s : State) (u : UnitId) : Tracks s (s.makeUncertain u) := .ite (.refl s) (.setUnitState ..)

theorem Tracks.stopEjection (s : State) (k : Kind) : Tracks s (s.stopEjection k) := by
  simp only [State.stopEjection]
  split
  · exact .refl s
  next e _ =>
    have ended : Tracks s (s.endEjection k e .ready) := .endEjection ..
    split
    · exact ended.trans (.makeUncertain ..)
    · exact ended.trans ((Tracks.clearTransit ..).trans (.makeUncertain ..))
    · exact ended.trans (.clearTransit ..)

theorem Tracks.resetUnit (s : State) (u : UnitId) : Tracks s (s.resetUnit u) :=
  (Tracks.modUnit s u _).trans (.lockIfDone ..)

theorem Tracks.resetEscrow (s : State) (l : Lane) : Tracks s (s.resetEscrow l) :=
  (Tracks.setOwner ..).trans (.modEscrow _ l _ fun e => by simp [Escrow.image, EscrowEntry.restarted])

theorem Tracks.clearRun (s : State) (c : RestartCause) : Tracks s (s.clearRun c) :=
  .same rfl rfl rfl rfl rfl rfl (fun _ => ⟨rfl, rfl, rfl⟩) (fun l => by simp [State.clearRun, LaneRec.closed]) rfl
    fun _ => rfl

/-! ### Every change tracks its sources -/

theorem Change.tracks {t m : State} {c : Closing} (h : Change t c m) : Tracks t m := by
  cases h with
  | quiet | settle | write => exact .refl t
  | openSale => exact .same
  | tender => exact .openTender ..
  | quote => exact ((Tracks.beforeQuote ..).trans (.clearNeedOf ..)).trans (.placeRequest ..)
  | pay => exact (Tracks.payOut ..).trans (.settleTest ..)
  | cancelWaiting => exact .finishSale ..
  | cancel => exact .cancelTendered ..
  | @release l =>
    exact Tracks.trans (t := t.modSales l _) .same (.clearNeedOf ..)
  | stop => exact .stopSale ..
  | laneOpen l => exact .modLane t l _
  | laneClose => exact .closeLane ..
  | floorHold l => exact .modLane t l _
  | floorYield => exact .yieldFloor ..
  | lockUnit | unlockUnit | clearJam => exact .setUnitState ..
  | writeUnit => exact .writeSettings ..
  | setDenom range => exact .setDenom range
  | setFloor => exact .writeFloor ..
  | setLimits => exact .writeSetting ..
  | auditUnit => exact .audit ..
  | emptyUnit => exact .placeService ..
  | floatInBegin => exact .beginFloatIn ..
  | floatInEnd => exact .endFloatIn ..
  | clearFault => exact .same
  | giveBack => exact .beginReturn ..
  | keep => exact .keepEscrow ..
  | cashboxCleared => exact .clearBox ..
  | counterSet => exact .startCounter ..
  | coin => exact .takeCoin ..
  | note => exact .takeNote ..
  | strayEnd => exact .endEjection ..
  | exit => exact .detect ..
  | entry => exact .stackDetected ..
  | stackMiss => exact (Tracks.clearTransit ..).trans (.endEjection ..)
  | retry | senseReady | senseEjecting => exact .setPhase ..
  | lastMiss => exact .lastMiss ..
  | thirdMiss => exact .thirdMiss ..
  | returned => exact .returnSucceeds ..
  | returnFails => exact .returnFails ..
  | cupCleared l => exact .modLane t l _
  | outletCleared l => exact .modLane t l _
  | expire => exact .expire ..
  | planDropped => exact .same
  | @completeQuote _ rest =>
    exact Tracks.trans (t := { t with planReqs := rest }) .same (.completeQuote ..)
  | @completeJobs _ rest =>
    exact Tracks.trans (t := { t with planReqs := rest }) .same (.completeJobs ..)
  | tested => exact .same
  | pfwActive => exact (Tracks.stopEjection ..).trans (.stopEjection ..)
  | reset =>
    exact ((Tracks.stopEjection ..).trans (.stopEjection ..)).trans <| (Tracks.foldl (fun _ _ => .resetUnit ..) _ _).trans <|
      ((Tracks.resetEscrow ..).trans (.resetEscrow ..)).trans (.clearRun ..)

/-! ### The beginning of a write (R155) -/

/-- A write begins with one record, whose content it takes; every other member of the dirty set stays. -/
theorem State.startWrite_cases (s : State) :
    s.startWrite = s ∨
      ∃ r, s.startWrite = { s with writer := .writing (s.image r), dirty := s.dirty.filter fun e => decide (e.1 ≠ r) } := by
  simp only [State.startWrite]
  split
  · exact .inl rfl
  split
  · exact .inl rfl
  next r _ => exact .inr ⟨r, rfl⟩

theorem State.flush_cases (s : State) :
    s.flush = s ∨
      ∃ r, s.flush = { s with writer := .writing (s.image r), dirty := s.dirty.filter fun e => decide (e.1 ≠ r) } := by
  simp only [State.flush]
  split
  · exact s.startWrite_cases
  · exact .inl rfl

/-- Every closing tracks its sources up to the beginning of a write. -/
theorem Closing.tracks (c : Closing) (m : State) :
    ∃ t, Tracks m t ∧ (c.run m = t ∨
      ∃ r, c.run m = { t with writer := .writing (t.image r), dirty := t.dirty.filter fun e => decide (e.1 ≠ r) }) := by
  cases c with
  | none => exact ⟨m, .refl m, .inl rfl⟩
  | flush => exact ⟨m, .refl m, m.flush_cases⟩
  | settle => exact ⟨_, (Tracks.arbitrate m .coin).trans (.arbitrate _ .note), State.flush_cases _⟩
  | conclude fall left stored =>
    obtain ⟨t, tracks, run⟩ := Tracks.concluding m fall left stored
    exact ⟨t, tracks, by simpa only [Closing.run, run] using t.flush_cases⟩
  | write => exact ⟨m, .refl m, m.startWrite_cases⟩

/-- What an event does to the dirty set and the records (R154, R155). -/
theorem Event.tracks {s u : State} (h : Event s u) :
    ∃ b t, Quiet s b ∧ Tracks b t ∧ (u = t ∨
      ∃ r, u = { t with writer := .writing (t.image r), dirty := t.dirty.filter fun e => decide (e.1 ≠ r) }) := by
  obtain ⟨b, c, m, m', before, change, after, clock, rfl⟩ := h
  obtain ⟨t, tracks, run⟩ := c.tracks m'
  exact ⟨b, t, before, (change.tracks.trans (.quiet after clock)).trans tracks, run⟩

theorem Image.record_image (s : State) (r : RecordNo) : (s.image r).record = r := by
  cases r using RecordNo.cases <;> simp [Image.record]

/-- R154 and R155 for one event: a record whose source changes is dirty or in writing, a member stays or is in
writing, a new member joins at the time of the event. -/
theorem Event.records {s u : State} (h : Event s u) (r : RecordNo) :
    (u.image r ≠ s.image r → (∃ since, (r, since) ∈ u.dirty) ∨ u.writer = .writing (u.image r)) ∧
      (∀ since, (r, since) ∈ s.dirty → (r, since) ∈ u.dirty ∨ ∃ x, u.writer = .writing x ∧ x.record = r) ∧
      ∀ since, (r, since) ∈ u.dirty → (r, since) ∈ s.dirty ∨ since = u.now := by
  obtain ⟨b, t, before, tracks, run⟩ := h.tracks
  have changed : t.image r ≠ s.image r → ∃ since, (r, since) ∈ t.dirty := before.image r ▸ tracks.changed r
  have members : ∀ since, (r, since) ∈ s.dirty → (r, since) ∈ t.dirty := fun _ he => tracks.members _ (before.dirty ▸ he)
  have joined : ∀ since, (r, since) ∈ t.dirty → (r, since) ∈ s.dirty ∨ since = t.now :=
    fun _ he => before.dirty ▸ tracks.joined _ he
  rcases run with rfl | ⟨r', rfl⟩
  · exact ⟨fun h => .inl (changed h), fun n h => .inl (members n h), joined⟩
  · by_cases same : r = r'
    · subst same
      exact ⟨fun _ => .inr rfl, fun _ _ => .inr ⟨_, rfl, Image.record_image t r⟩,
        fun n h => joined n (List.mem_of_mem_filter h)⟩
    · have stays : ∀ n, (r, n) ∈ t.dirty → (r, n) ∈ t.dirty.filter fun e => decide (e.1 ≠ r') :=
        fun n h => List.mem_filter.mpr ⟨h, by simpa using same⟩
      exact ⟨fun h => .inl ((changed h).imp stays), fun n h => .inl (stays n (members n h)),
        fun n h => joined n (List.mem_of_mem_filter h)⟩

/-! ### The laws of the tables -/

/-- R1, R154 and R179: what every step keeps of the tables. -/
structure TablesLaw (a b : State) : Prop where
  denoms : a.DenomLaw → b.DenomLaw
  counters : a.CounterLaw → b.CounterLaw
  sorted : dirtyLaw a.dirty → dirtyLaw b.dirty

theorem TablesLaw.trans {a b c : State} (h : TablesLaw a b) (k : TablesLaw b c) : TablesLaw a c :=
  ⟨k.denoms ∘ h.denoms, k.counters ∘ h.counters, k.sorted ∘ h.sorted⟩

theorem Quiet.tables {s t : State} (h : Quiet s t) : TablesLaw s t :=
  ⟨DenomLaw_congr h.denoms, h.values, fun law => h.dirty ▸ law⟩

theorem TablesLaw.filtered (t : State) (w : Writer) (p : RecordNo × Nat → Bool) :
    TablesLaw t { t with writer := w, dirty := t.dirty.filter p } :=
  ⟨id, id, fun law => dirtyLaw_sublist law List.filter_sublist⟩

theorem State.flush_tables (m : State) : TablesLaw m m.flush := by
  rcases m.flush_cases with h | ⟨r, h⟩
  · rw [h]; exact ⟨id, id, id⟩
  · rw [h]; exact .filtered ..

theorem Event.tables {s u : State} (h : Event s u) : TablesLaw s u := by
  obtain ⟨b, t, before, tracks, run⟩ := h.tracks
  have upTo : TablesLaw s t := before.tables.trans ⟨tracks.denoms, tracks.counters, tracks.sorted⟩
  rcases run with rfl | ⟨r, rfl⟩
  · exact upTo
  · exact upTo.trans (.filtered ..)

/-- The restored denomination table has different values in enabled slots (R1, R2). -/
theorem CountStore.restoredDenoms_distinct (c : CountStore) : distinctValues c.restoredDenoms = true := by
  simp only [CountStore.restoredDenoms, CountStore.goodDenoms, Cell.good]
  split
  · split
    next good => exact (Bool.and_eq_true _ _ ▸ good).2
    · decide
  · decide
  · decide

theorem State.restoredDirty_sorted (s : State) : dirtyLaw s.restoredDirty := by
  have all : dirtyLaw (allRecords.map fun r => (r, s.now)) := by
    simp only [dirtyLaw, List.map_map]
    exact (by decide : (allRecords.map Fin.val).Pairwise (· < ·))
  simp only [State.restoredDirty]
  split
  · simp [dirtyLaw]
  · exact dirtyLaw_sublist all (List.filter_sublist.map _)

theorem State.restore_tables (s : State) : s.restore.DenomLaw ∧ s.restore.CounterLaw ∧ dirtyLaw s.restore.dirty := by
  have loaded : TablesLaw { s.load with dirty := s.load.restoredDirty } s.restore := State.flush_tables _
  refine ⟨loaded.denoms s.store.restoredDenoms_distinct, loaded.counters fun n => ?_,
    loaded.sorted s.load.restoredDirty_sorted⟩
  simp [State.load, Config.counterModulus]

theorem step_tables {s u : State} (h : step s = .next u) : TablesLaw s u := by
  simp only [step] at h
  split at h
  · injection h with h
    exact h ▸ s.firstEvent_event.tables.trans s.tick_event.tables
  next c rest _ =>
    have popped := (Quiet.pending s rest).tables.trans (State.firstEvent_event _).tables
    by_cases on : c = .powerOn
    · subst on
      obtain ⟨denoms, counters, sorted⟩ := State.restore_tables (takePowerLoss { s with pending := rest }.firstEvent)
      rw [← exec_powerOn h] at denoms counters sorted
      exact ⟨fun _ => denoms, fun _ => counters, fun _ => sorted⟩
    · exact popped.trans (exec_event h on).tables

/-- Settles O57: every change tracks its sources in the dirty set, and every closing but for the record that its write
begins with. -/
theorem stepKeepsTables : Obligations.StepKeepsTables := by
  refine ⟨fun s t h => ?_, fun c s t running on h r => ?_⟩
  · obtain ⟨denoms, counters, sorted⟩ := step_tables h
    exact ⟨denoms, counters, sorted⟩
  · have event := exec_event h on
    rw [State.firstEvent_running running] at event
    exact event.records r

end Sys2Proof.Machine
end

section
/-! SUPPORT. The choice of a unit (R16, R94) and the split of a plan over units (R94, R95). -/

namespace Sys2Proof.Machine

-- One proof after the other: many short proofs at once take more threads than the check's memory limit has room for.
set_option Elab.async false

/-! ### The best of a list of units -/

/-- One round of a search for the best unit: a unit that passes the test stands where none stood or where it beats. -/
def bestStep (p : UnitId → Bool) (beats : UnitId → UnitId → Prop) [DecidableRel beats] (best : Option UnitId) (u : UnitId) :
    Option UnitId :=
  if p u then
    match best with
    | none => some u
    | some b => if beats u b then some u else some b
  else best

/-- The unit passes the test, no other that does has a lower key, and none with the same key a lower number. -/
def Best {α : Type} [LinearOrder α] (p : UnitId → Bool) (key : UnitId → α) (us : List UnitId) (u : UnitId) : Prop :=
  u ∈ us ∧ p u = true ∧ ∀ v ∈ us, p v = true → key u < key v ∨ key u = key v ∧ u ≤ v

theorem Best.unique {α : Type} [LinearOrder α] {p : UnitId → Bool} {key : UnitId → α} {us : List UnitId} {u v : UnitId}
    (hu : Best p key us u) (hv : Best p key us v) : u = v := by
  obtain ⟨memU, passU, bestU⟩ := hu
  obtain ⟨memV, passV, bestV⟩ := hv
  rcases bestU v memV passV with h | ⟨same, h⟩ <;> rcases bestV u memU passU with k | ⟨same', k⟩
  · exact absurd h (lt_asymm k)
  · exact absurd same' h.ne'
  · exact absurd same k.ne'
  · exact le_antisymm h k

theorem foldl_bestStep {α : Type} [LinearOrder α] {p : UnitId → Bool} {beats : UnitId → UnitId → Prop} [DecidableRel beats]
    {key : UnitId → α} (hb : ∀ u b, beats u b ↔ key u < key b) {us : List UnitId} (sorted : us.Pairwise (· < ·)) :
    match us.foldl (bestStep p beats) none with
    | none => ∀ v ∈ us, p v = false
    | some u => Best p key us u := by
  induction us using List.reverseRecOn with
  | nil => simp
  | append_singleton us w ih =>
    obtain ⟨sortedUs, -, above⟩ := List.pairwise_append.mp sorted
    have below : ∀ v ∈ us, v < w := fun v hv => above v hv w (by simp)
    specialize ih sortedUs
    simp only [List.foldl_append, List.foldl_cons, List.foldl_nil]
    generalize us.foldl (bestStep p beats) none = best at ih ⊢
    cases pw : p w with
    | false =>
      simp only [bestStep, pw, Bool.false_eq_true, if_false]
      cases best with
      | none => simpa [or_imp, forall_and, pw] using ih
      | some b =>
        obtain ⟨mem, pass, least⟩ := ih
        refine ⟨by simp [mem], pass, fun v hv pv => least v ?_ pv⟩
        rcases List.mem_append.mp hv with h | h
        · exact h
        · simp_all
    | true =>
      simp only [bestStep, pw, if_true]
      cases best with
      | none =>
        show Best p key (us ++ [w]) w
        refine ⟨by simp, pw, fun v hv pv => ?_⟩
        rcases List.mem_append.mp hv with h | h
        · simp_all
        · exact .inr (by simp_all)
      | some b =>
        obtain ⟨mem, pass, least⟩ := ih
        by_cases lower : key w < key b
        · simp only [hb, if_pos lower]
          show Best p key (us ++ [w]) w
          refine ⟨by simp, pw, fun v hv pv => ?_⟩
          rcases List.mem_append.mp hv with h | h
          · rcases least v h pv with k | ⟨k, -⟩
            · exact .inl (lower.trans k)
            · exact .inl (k ▸ lower)
          · exact .inr (by simp_all)
        · simp only [hb, if_neg lower]
          show Best p key (us ++ [w]) b
          refine ⟨by simp [mem], pass, fun v hv pv => ?_⟩
          rcases List.mem_append.mp hv with h | h
          · exact least v h pv
          · obtain rfl : v = w := by simpa using h
            rcases (not_lt.mp lower).lt_or_eq with k | k
            · exact .inl k
            · exact .inr ⟨k, (below b mem).le⟩

theorem allUnits_sorted : allUnits.Pairwise (· < ·) := by decide

section
variable {α : Type} [LinearOrder α] {p : UnitId → Bool} {beats : UnitId → UnitId → Prop} [DecidableRel beats]
  {key : UnitId → α} (hb : ∀ u b, beats u b ↔ key u < key b)
include hb

theorem foldl_bestStep_eq_none_iff : allUnits.foldl (bestStep p beats) none = none ↔ ∀ v, p v = false := by
  have spec := foldl_bestStep (p := p) hb allUnits_sorted
  constructor
  · intro h
    simpa [h] using spec
  · intro h
    split at spec
    · assumption
    next u _ => exact absurd (h u) (by simp [spec.2.1])

theorem foldl_bestStep_eq_some_iff (u : UnitId) :
    allUnits.foldl (bestStep p beats) none = some u ↔
      p u = true ∧ ∀ v, p v = true → key u < key v ∨ key u = key v ∧ u ≤ v := by
  have spec := foldl_bestStep (p := p) hb allUnits_sorted
  constructor
  · intro h
    simpa [h, Best] using spec
  · rintro ⟨pass, least⟩
    split at spec
    next none => exact absurd (spec u (by simp)) (by simp [pass])
    next v found =>
      have best : Best p key allUnits u := ⟨by simp, pass, fun w _ => least w⟩
      rw [found, spec.unique best]

end

/-! ### The unit that pays (R94) -/

theorem State.pays_iff (s : State) (l : Lane) (d : Slot) (u : UnitId) :
    (s.unitOfSlot d u && s.serves u l && decide (0 < (s.units.get u).free)) = true ↔ s.CanPay l d u := by
  simp only [State.unitOfSlot, State.serves, State.unitActive, State.mechFault, UnitRec.free, State.CanPay,
    Bool.and_eq_true, decide_eq_true_eq, Bool.not_eq_true', Nat.sub_pos_iff_lt]
  tauto

theorem State.roomiest_eq_fold (s : State) (l : Lane) (d : Slot) :
    s.roomiest l d = allUnits.foldl
      (bestStep (fun u => s.unitOfSlot d u && s.serves u l && decide (0 < (s.units.get u).free))
        fun u b => (s.units.get b).free < (s.units.get u).free) none := rfl

theorem State.roomiest_eq_none_iff (s : State) (l : Lane) (d : Slot) :
    s.roomiest l d = none ↔ ∀ u, ¬ s.CanPay l d u := by
  rw [s.roomiest_eq_fold]
  refine (foldl_bestStep_eq_none_iff (key := fun u => OrderDual.toDual (s.units.get u).free) (by exact fun _ _ => Iff.rfl)).trans ?_
  exact forall_congr' fun u => by rw [← s.pays_iff, Bool.not_eq_true]

theorem State.roomiest_eq_some_iff (s : State) (l : Lane) (d : Slot) (u : UnitId) :
    s.roomiest l d = some u ↔ s.Roomiest l d u := by
  rw [s.roomiest_eq_fold]
  refine (foldl_bestStep_eq_some_iff (key := fun u => OrderDual.toDual (s.units.get u).free) (by exact fun _ _ => Iff.rfl) u).trans ?_
  simp only [s.pays_iff, State.Roomiest, OrderDual.toDual_lt_toDual, OrderDual.toDual_inj]
  simp only [UnitRec.free, eq_comm (a := (s.units.get u).count - (s.units.get u).committed)]

/-! ### Committing pieces -/

theorem State.commit_get (s : State) (u v : UnitId) (n : Nat) :
    (s.commit u n).units.get v =
      { s.units.get v with committed := (s.units.get v).committed + if v = u then n else 0 } := by
  simp only [State.commit, State.modUnit_units, Twelve.get_modify]
  split
  next same => rw [same]
  · rfl

@[simp] theorem State.commit_slotValue (s : State) (u : UnitId) (n : Nat) (d : Slot) :
    (s.commit u n).slotValue d = s.slotValue d := rfl

@[simp] theorem State.commitAll_cons (s : State) (x : Share) (xs : List Share) :
    s.commitAll (x :: xs) = (s.commit x.unit x.pieces).commitAll xs := rfl

theorem State.commitAll_append (s : State) (xs ys : List Share) : s.commitAll (xs ++ ys) = (s.commitAll xs).commitAll ys :=
  List.foldl_append

/-- A unit pays after a commitment exactly where it paid and has a piece left. -/
theorem State.canPay_commit (s : State) (l : Lane) (d : Slot) (u v : UnitId) (n : Nat) :
    (s.commit u n).CanPay l d v ↔
      s.CanPay l d v ∧ (v = u → (s.units.get u).committed + n < (s.units.get u).count) := by
  simp only [State.CanPay, s.commit_get u v n]
  simp only [State.commit, State.modUnit_mechs]
  by_cases same : v = u
  · subst same
    simp only [if_true, forall_true_left]
    constructor
    · rintro ⟨h₁, h₂, h₃, h₄, h₅⟩
      exact ⟨⟨h₁, h₂, h₃, h₄, by omega⟩, h₅⟩
    · rintro ⟨⟨h₁, h₂, h₃, h₄, -⟩, h₅⟩
      exact ⟨h₁, h₂, h₃, h₄, h₅⟩
  · simp [same]

theorem State.serves_commit (s : State) (l : Lane) (u v : UnitId) (n : Nat) : (s.commit u n).serves v l = s.serves v l := by
  simp [State.serves, State.unitActive, State.mechFault, s.commit_get u v n]

theorem State.unitOfSlot_commit (s : State) (d : Slot) (u v : UnitId) (n : Nat) :
    (s.commit u n).unitOfSlot d v = s.unitOfSlot d v := by
  simp [State.unitOfSlot, s.commit_get u v n]

/-! ### One entry of a plan -/

theorem splitEntry_zero (l : Lane) (d : Slot) (n : Nat) (s : State) : splitEntry l d n 0 s = ([], 0, s) := by
  cases n <;> rfl

theorem splitEntry_none {l : Lane} {d : Slot} {s : State} (h : ∀ u, ¬ s.CanPay l d u) (n k : Nat) :
    splitEntry l d n k s = ([], k, s) := by
  cases n with
  | zero => rfl
  | succ n =>
    simp only [splitEntry, (s.roomiest_eq_none_iff l d).mpr h]
    split
    next zero => rw [zero]
    · rfl

theorem splitEntry_some {l : Lane} {d : Slot} {s : State} {u : UnitId} (h : s.Roomiest l d u) {n k : Nat} (hk : 0 < k) :
    splitEntry l d (n + 1) k s =
      ({ unit := u, slot := d, pieces := min (s.units.get u).free k } ::
          (splitEntry l d n (k - min (s.units.get u).free k) (s.commit u (min (s.units.get u).free k))).1,
        (splitEntry l d n (k - min (s.units.get u).free k) (s.commit u (min (s.units.get u).free k))).2) := by
  simp [splitEntry, (s.roomiest_eq_some_iff l d u).mpr h, Nat.pos_iff_ne_zero.mp hk]

/-- The cases of a round: no piece left, no unit that pays, or a share of the roomiest unit. -/
theorem splitEntry_induct {l : Lane} {d : Slot} {P : Nat → Nat → State → Prop} (zero : ∀ n s, P n 0 s)
    (out : ∀ k s, P 0 k s) (none : ∀ n k s, (∀ u, ¬ s.CanPay l d u) → P (n + 1) k s)
    (some : ∀ n k s u, 0 < k → s.Roomiest l d u → P n (k - min (s.units.get u).free k) (s.commit u (min (s.units.get u).free k)) →
      P (n + 1) k s) (n k : Nat) (s : State) : P n k s := by
  induction n generalizing k s with
  | zero => exact out k s
  | succ n ih =>
    rcases Nat.eq_zero_or_pos k with rfl | hk
    · exact zero _ s
    cases h : s.roomiest l d with
    | none => exact none n k s ((s.roomiest_eq_none_iff l d).mp h)
    | some u => exact some n k s u hk ((s.roomiest_eq_some_iff l d u).mp h) (ih _ _)

/-- The state that the split of an entry leaves has its shares committed. -/
theorem splitEntry_state (l : Lane) (d : Slot) (n k : Nat) (s : State) :
    (splitEntry l d n k s).2.2 = s.commitAll (splitEntry l d n k s).1 := by
  induction n, k, s using splitEntry_induct (l := l) (d := d) with
  | zero n s => rw [splitEntry_zero]; rfl
  | out k s => rfl
  | none n k s h => rw [splitEntry_none h]; rfl
  | some n k s u hk h ih => rw [splitEntry_some h hk]; exact ih

/-- Every share of an entry is of its slot, on a unit that serves the lane, and not empty. -/
theorem splitEntry_shares (l : Lane) (d : Slot) (n k : Nat) (s : State) :
    ∀ x ∈ (splitEntry l d n k s).1,
      x.slot = d ∧ s.unitOfSlot d x.unit = true ∧ s.serves x.unit l = true ∧ 0 < x.pieces := by
  induction n, k, s using splitEntry_induct (l := l) (d := d) with
  | zero n s => simp [splitEntry_zero]
  | out k s => simp [splitEntry]
  | none n k s h => simp [splitEntry_none h]
  | some n k s u hk h ih =>
    have pays := (s.pays_iff l d u).mpr h.1
    simp only [Bool.and_eq_true, decide_eq_true_eq] at pays
    obtain ⟨⟨ofSlot, serves⟩, free⟩ := pays
    rw [splitEntry_some h hk]
    refine List.forall_mem_cons.mpr ⟨⟨rfl, ofSlot, serves, by simp only; omega⟩, fun x hx => ?_⟩
    simpa [State.serves_commit, State.unitOfSlot_commit] using ih x hx

/-- The pieces of the shares and the pieces left are the pieces of the entry. -/
theorem splitEntry_pieces (l : Lane) (d : Slot) (n k : Nat) (s : State) :
    ((splitEntry l d n k s).1.map Share.pieces).sum + (splitEntry l d n k s).2.1 = k := by
  induction n, k, s using splitEntry_induct (l := l) (d := d) with
  | zero n s => simp [splitEntry_zero]
  | out k s => simp [splitEntry]
  | none n k s h => simp [splitEntry_none h]
  | some n k s u hk h ih =>
    rw [splitEntry_some h hk]
    simp only [List.map_cons, List.sum_cons]
    omega

/-- Committing the shares of an entry keeps committed within count (R7). -/
theorem splitEntry_committed (l : Lane) (d : Slot) (n k : Nat) (s : State)
    (h : ∀ u, (s.units.get u).committed ≤ (s.units.get u).count) (u : UnitId) :
    ((splitEntry l d n k s).2.2.units.get u).committed ≤ ((splitEntry l d n k s).2.2.units.get u).count := by
  induction n, k, s using splitEntry_induct (l := l) (d := d) with
  | zero n s => simpa [splitEntry_zero] using h u
  | out k s => simpa [splitEntry] using h u
  | none n k s hn => simpa [splitEntry_none hn] using h u
  | some n k s v hk hv ih =>
    rw [splitEntry_some hv hk]
    refine ih fun w => ?_
    rw [s.commit_get]
    have := h w
    split
    next same => subst same; simp only [UnitRec.free]; omega
    · simpa using this

/-- The units that pay the lane a piece of the slot. -/
def State.payers (s : State) (l : Lane) (d : Slot) : List UnitId :=
  allUnits.filter fun u => s.unitOfSlot d u && s.serves u l && decide (0 < (s.units.get u).free)

theorem State.mem_payers (s : State) (l : Lane) (d : Slot) (u : UnitId) : u ∈ s.payers l d ↔ s.CanPay l d u := by
  simp only [State.payers, List.mem_filter, mem_allUnits, true_and, s.pays_iff]

theorem State.payers_length_le (s : State) (l : Lane) (d : Slot) : (s.payers l d).length ≤ allUnits.length :=
  List.length_filter_le ..

/-- A unit that has given all its free pieces pays no more. -/
theorem State.payers_commit_lt {s : State} {l : Lane} {d : Slot} {u : UnitId} (h : s.CanPay l d u) {k : Nat}
    (hk : (s.units.get u).free < k) :
    ((s.commit u (min (s.units.get u).free k)).payers l d).length < (s.payers l d).length := by
  have sub : ((s.commit u (min (s.units.get u).free k)).payers l d).Sublist (s.payers l d) :=
    List.monotone_filter_right _ fun v hv => by
      rw [s.pays_iff]
      rw [State.pays_iff, State.canPay_commit] at hv
      exact hv.1
  refine lt_of_le_of_ne sub.length_le fun same => ?_
  have mem : u ∈ (s.commit u (min (s.units.get u).free k)).payers l d :=
    sub.eq_of_length same ▸ (s.mem_payers l d u).mpr h
  have room := ((State.canPay_commit ..).mp ((State.mem_payers ..).mp mem)).2 rfl
  simp only [UnitRec.free] at hk room
  omega

/-- Every round uses up a unit or the pieces, so as many rounds as there are units that pay are enough. -/
theorem splitEntry_rounds (l : Lane) (d : Slot) (n k : Nat) (s : State) (h : (s.payers l d).length ≤ n) :
    splitEntry l d (n + 1) k s = splitEntry l d n k s := by
  induction n, k, s using splitEntry_induct (l := l) (d := d) with
  | zero n s => simp only [splitEntry_zero]
  | out k s =>
    have : ∀ u, ¬ s.CanPay l d u := fun u hu => by
      have := (s.mem_payers l d u).mpr hu
      simp_all
    simp only [splitEntry_none this]
  | none n k s hn => simp only [splitEntry_none hn]
  | some n k s u hk hu ih =>
    rw [splitEntry_some hu hk, splitEntry_some hu hk]
    rcases Nat.lt_or_ge (s.units.get u).free k with less | enough
    · rw [ih (by have := State.payers_commit_lt hu.1 less; omega)]
    · have : k - min (s.units.get u).free k = 0 := by omega
      simp only [this, splitEntry_zero]

/-- With rounds enough, pieces are left only where no unit pays any more (R95). -/
theorem splitEntry_left (l : Lane) (d : Slot) (n k : Nat) (s : State) (h : (s.payers l d).length ≤ n)
    (left : 0 < (splitEntry l d n k s).2.1) (v : UnitId) : ¬ (splitEntry l d n k s).2.2.CanPay l d v := by
  induction n, k, s using splitEntry_induct (l := l) (d := d) with
  | zero n s => simp [splitEntry_zero] at left
  | out k s => exact fun hv => by simpa [List.length_eq_zero_iff.mp (Nat.le_zero.mp h)] using (s.mem_payers l d v).mpr hv
  | none n k s hn => simpa [splitEntry_none hn] using hn v
  | some n k s u hk hu ih =>
    rw [splitEntry_some hu hk] at left ⊢
    rcases Nat.lt_or_ge (s.units.get u).free k with less | enough
    · exact ih (by have := State.payers_commit_lt hu.1 less; omega) left
    · have : k - min (s.units.get u).free k = 0 := by omega
      simp [this, splitEntry_zero] at left

/-! ### The split of a plan -/

theorem State.slotValue_commitAll (s : State) (xs : List Share) (d : Slot) : (s.commitAll xs).slotValue d = s.slotValue d := by
  simp [State.slotValue]

theorem State.serves_commitAll (s : State) (xs : List Share) (u : UnitId) (l : Lane) :
    (s.commitAll xs).serves u l = s.serves u l := by
  induction xs generalizing s with
  | nil => rfl
  | cons x xs ih => rw [State.commitAll_cons, ih, State.serves_commit]

theorem State.unitOfSlot_commitAll (s : State) (xs : List Share) (d : Slot) (u : UnitId) :
    (s.commitAll xs).unitOfSlot d u = s.unitOfSlot d u := by
  induction xs generalizing s with
  | nil => rfl
  | cons x xs ih => rw [State.commitAll_cons, ih, State.unitOfSlot_commit]

theorem splitPlan_shares (l : Lane) (plan : Plan) (s : State) :
    ∀ x ∈ (splitPlan l plan s).1, s.unitOfSlot x.slot x.unit = true ∧ s.serves x.unit l = true ∧ 0 < x.pieces := by
  induction plan generalizing s with
  | nil => simp [splitPlan]
  | cons e rest ih =>
    intro x hx
    rcases List.mem_append.mp hx with h | h
    · obtain ⟨slot, ofSlot, serves, pos⟩ := splitEntry_shares l e.1 _ e.2 s x h
      exact ⟨slot ▸ ofSlot, serves, pos⟩
    · have := ih _ x h
      rwa [splitEntry_state, State.unitOfSlot_commitAll, State.serves_commitAll] at this

theorem State.sharesValue_of_slot (s : State) (d : Slot) (xs : List Share) (h : ∀ x ∈ xs, x.slot = d) :
    s.sharesValue xs = (xs.map Share.pieces).sum * s.slotValue d := by
  induction xs with
  | nil => simp [State.sharesValue]
  | cons x xs ih =>
    have tail := ih fun y hy => h y (.tail _ hy)
    simp only [State.sharesValue, List.map_cons, List.sum_cons, h x (.head _), Nat.add_mul] at tail ⊢
    rw [tail]

theorem splitPlan_value (l : Lane) (plan : Plan) (s : State) :
    s.sharesValue (splitPlan l plan s).1 + (splitPlan l plan s).2 = (plan.map fun e => e.2 * s.slotValue e.1).sum := by
  induction plan generalizing s with
  | nil => rfl
  | cons e rest ih =>
    have value := s.sharesValue_of_slot e.1 _ fun x hx => (splitEntry_shares l e.1 allUnits.length e.2 s x hx).1
    have entry : s.sharesValue (splitEntry l e.1 allUnits.length e.2 s).1 +
        (splitEntry l e.1 allUnits.length e.2 s).2.1 * s.slotValue e.1 = e.2 * s.slotValue e.1 := by
      rw [value, ← Nat.add_mul, splitEntry_pieces]
    have tail := ih (s.commitAll (splitEntry l e.1 allUnits.length e.2 s).1)
    simp only [State.slotValue_commitAll, State.sharesValue] at tail entry
    simp only [splitPlan, List.map_cons, List.sum_cons, ← tail, splitEntry_state, State.sharesValue, List.map_append,
      List.sum_append]
    omega

theorem splitPlan_state_committed (l : Lane) (plan : Plan) (s : State)
    (h : ∀ u, (s.units.get u).committed ≤ (s.units.get u).count) (u : UnitId) :
    ((s.commitAll (splitPlan l plan s).1).units.get u).committed ≤ ((s.commitAll (splitPlan l plan s).1).units.get u).count := by
  induction plan generalizing s with
  | nil => exact h u
  | cons e rest ih =>
    have entry := splitEntry_committed l e.1 allUnits.length e.2 s h
    have := ih _ entry
    rw [splitEntry_state] at this
    simpa only [splitPlan, State.commitAll_append, splitEntry_state] using this

theorem State.commitAll_same (s : State) (xs : List Share) (u : UnitId) :
    ((s.commitAll xs).units.get u).count = (s.units.get u).count ∧
      ((s.commitAll xs).units.get u).capacity = (s.units.get u).capacity := by
  induction xs generalizing s with
  | nil => exact ⟨rfl, rfl⟩
  | cons x xs ih => simpa only [State.commitAll_cons, s.commit_get] using ih (s.commit x.unit x.pieces)

/-- One share of the roomiest unit, then the rest of the entry on the state with the share committed (R94). -/
theorem splitPlan_roomiest {l : Lane} {d : Slot} {s : State} {u : UnitId} (h : s.Roomiest l d u) {k : Nat} (hk : 0 < k)
    (rest : Plan) :
    splitPlan l ((d, k) :: rest) s =
      ({ unit := u, slot := d, pieces := min (s.units.get u).free k } ::
          (splitPlan l ((d, k - min (s.units.get u).free k) :: rest) (s.commit u (min (s.units.get u).free k))).1,
        (splitPlan l ((d, k - min (s.units.get u).free k) :: rest) (s.commit u (min (s.units.get u).free k))).2) := by
  have rounds : splitEntry l d 12 (k - min (s.units.get u).free k) (s.commit u (min (s.units.get u).free k)) =
      splitEntry l d 11 (k - min (s.units.get u).free k) (s.commit u (min (s.units.get u).free k)) := by
    rcases Nat.lt_or_ge (s.units.get u).free k with less | enough
    · have := State.payers_commit_lt h.1 less
      have := s.payers_length_le l d
      exact splitEntry_rounds _ _ _ _ _ (by simp only [allUnits, List.length_cons, List.length_nil] at this; omega)
    · have : k - min (s.units.get u).free k = 0 := by omega
      simp only [this, splitEntry_zero]
  have entry := splitEntry_some (n := 11) h hk
  simp only [splitPlan, show allUnits.length = 12 from rfl, rounds, entry, List.cons_append, State.commit_slotValue]

/-- Settles O9: the rounds of an entry by induction, and twelve rounds are enough, as each uses up a unit or the
pieces. -/
theorem split : Obligations.Split := by
  refine ⟨fun l plan s => ⟨splitPlan_value l plan s, splitPlan_shares l plan s⟩, fun l plan s law u => ⟨?_, ?_⟩,
    fun l d k rest s => ⟨rfl, ?_, fun _ none => ?_, fun hk u hu => splitPlan_roomiest hu hk rest, fun left u => ?_⟩⟩
  · exact splitPlan_state_committed l plan s (fun v => (law v).1) u
  · obtain ⟨count, capacity⟩ := s.commitAll_same (splitPlan l plan s).1 u
    rw [count, capacity]
    exact (law u).2
  · simp [splitPlan, splitEntry_zero]
  · simp [splitPlan, splitEntry_none none]
  · have state : s.commitAll (splitPlan l [(d, k)] s).1 = (splitEntry l d allUnits.length k s).2.2 := by
      simp [splitPlan, splitEntry_state]
    rw [state]
    refine splitEntry_left l d _ k s (s.payers_length_le l d) ?_ u
    simp only [splitPlan, Nat.add_zero] at left
    exact Nat.pos_of_mul_pos_right left

end Sys2Proof.Machine
end

section
/-! SUPPORT: the reset state meets the laws (O54). -/
namespace Sys2Proof.Machine

-- One proof after the other: many short proofs at once take more threads than the check's memory limit has room for.
set_option Elab.async false

/-! ### The reset state -/

theorem reset_jobs : State.reset.allJobs = [] := rfl

theorem reset_unit (u : UnitId) : State.reset.units.get u = (UnitSettings.default u).toUnit 0 .absent := by
  simp [State.reset]

theorem reset_unit_free (u : UnitId) :
    (State.reset.units.get u).count = 0 ∧ (State.reset.units.get u).committed = 0 ∧
      (State.reset.units.get u).state = .absent ∧ (State.reset.units.get u).slot = none := by
  rw [reset_unit]
  exact ⟨rfl, rfl, rfl, by fin_cases u <;> rfl⟩

theorem reset_denomLaw : State.reset.DenomLaw := by
  unfold State.DenomLaw
  decide +kernel

theorem reset_orderLaw : State.reset.OrderLaw := fun l => by
  cases l <;> exact ⟨Nat.zero_le _, List.nodup_nil, fun x h => nomatch h⟩

theorem reset_escrowLaw : State.reset.EscrowLaw := fun l => by cases l <;> exact Nat.zero_le _

theorem reset_eventLaw : State.reset.EventLaw := fun p => by
  cases p <;> exact ⟨Nat.zero_le _, Nat.zero_le _, Nat.zero_le _⟩

theorem reset_counterLaw : State.reset.CounterLaw := fun n => by
  revert n
  decide +kernel

theorem reset_busyLaw : State.reset.BusyLaw := fun p => by cases p <;> exact Nat.zero_le _

theorem reset_unitLaw : State.reset.UnitLaw := fun u => by
  obtain ⟨hcount, hcommitted, -, -⟩ := reset_unit_free u
  exact ⟨by omega, by omega⟩

theorem reset_capacityLaw : State.reset.CapacityLaw := by
  refine ⟨fun u => ?_, fun l j h => ?_, fun j h => nomatch h⟩
  · revert u
    decide +kernel
  · cases l <;> nomatch h

theorem reset_reservationLaw : State.reset.ReservationLaw := fun d => by
  exact Nat.zero_le _

theorem reset_laneQueueLaw : State.reset.LaneQueueLaw := fun l => by cases l <;> exact Nat.zero_le _

theorem reset_jobLaw : State.reset.JobLaw := by
  unfold State.JobLaw
  rw [reset_jobs]
  refine ⟨fun u => ?_, by simp, List.nodup_nil, by simp, ?_, fun k e h => ?_⟩
  · obtain ⟨-, hcommitted, -, -⟩ := reset_unit_free u
    simp [hcommitted, State.owed, reset_jobs]
  · intro j h
    nomatch h
  · cases k <;> nomatch h

theorem reset_unitStateLaw : State.reset.UnitStateLaw := fun u => by
  obtain ⟨-, -, hstate, hslot⟩ := reset_unit_free u
  simp [hstate, hslot, reset_jobs]

theorem reset_planLaw : State.reset.PlanLaw := by
  unfold State.PlanLaw
  exact ⟨List.nodup_nil, List.nodup_nil, by simp [State.reset], by simp [State.reset]⟩

/-- Settles O54: the store is blank, so every unit is ABSENT with count 0 and every list is empty. -/
theorem resetMeetsLaws : Obligations.ResetMeetsLaws := by
  unfold Obligations.ResetMeetsLaws
  exact ⟨reset_denomLaw, reset_orderLaw, reset_escrowLaw, reset_eventLaw, reset_counterLaw, Nat.zero_le _,
    reset_busyLaw, List.Pairwise.nil, reset_capacityLaw, reset_reservationLaw, reset_unitLaw, reset_laneQueueLaw,
    List.nodup_nil, List.nodup_nil, reset_capacityLaw, reset_unitLaw, reset_jobLaw, reset_unitStateLaw, reset_planLaw,
    reset_reservationLaw⟩

end Sys2Proof.Machine
end

section
/-! SUPPORT. Parameters of requests (R168), and SET_DENOM (R139). -/
namespace Sys2Proof.Machine

-- One proof after the other: many short proofs at once take more threads than the check's memory limit has room for.
set_option Elab.async false

/-! ### Parameters -/

@[simp] theorem twelveOf_val (i : Fin 12) : twelveOf i.val = some i := by simp [twelveOf]

@[simp] theorem slotOf_val (d : Slot) : slotOf d.val = some d := twelveOf_val d

@[simp] theorem unitOf_val (u : UnitId) : unitOf u.val = some u := twelveOf_val u

theorem slotOf_of_ge {n : Nat} (h : 12 ≤ n) : slotOf n = none := by
  simp [slotOf, twelveOf, Nat.not_lt.mpr h]

theorem unitOf_of_ge {n : Nat} (h : 12 ≤ n) : unitOf n = none := slotOf_of_ge h

@[simp] theorem laneOf_code (l : Lane) : laneOf (laneCode l) = some l := by cases l <;> rfl

theorem laneOf_of_ge {n : Nat} (h : 2 ≤ n) : laneOf n = none := by
  obtain ⟨n, rfl⟩ := Nat.exists_eq_add_of_le' h
  rfl

@[simp] theorem kindOf_code (k : Kind) : kindOf (kindCode k) = some k := by cases k <;> rfl

theorem kindOf_of_ge {n : Nat} (h : 2 ≤ n) : kindOf n = none := by
  obtain ⟨n, rfl⟩ := Nat.exists_eq_add_of_le' h
  rfl

theorem kindOf_of_le {n : Nat} (h : n ≤ 1) : kindOf n = some (if n = 0 then .coin else .note) := by
  match n, h with
  | 0, _ => rfl
  | 1, _ => rfl

theorem flagOf_of_ge {n : Nat} (h : 2 ≤ n) : flagOf n = none := by
  obtain ⟨n, rfl⟩ := Nat.exists_eq_add_of_le' h
  rfl

theorem flagOf_of_le {n : Nat} (h : n ≤ 1) : flagOf n = some (decide (n = 1)) := by
  match n, h with
  | 0, _ => rfl
  | 1, _ => rfl

theorem placeOf_of_ge {n : Nat} (h : 4 ≤ n) : placeOf n = none := by
  obtain ⟨n, rfl⟩ := Nat.exists_eq_add_of_le' h
  rfl

@[simp] theorem State.ranged_some {α : Type} (s : State) (p : Port) (c : Command) (a : α) (body : α → State → State) :
    s.ranged p c (some a) body = body a s := rfl

@[simp] theorem State.ranged_none {α : Type} (s : State) (p : Port) (c : Command) (body : α → State → State) :
    s.ranged p c none body = s.refuse p c .range := rfl

theorem State.keyed_key {s : State} (h : s.key = true) (p : Port) (c : Command) (body : State → State) :
    s.keyed p c body = body s := if_pos h

/-- A service request at the ready SP with maintenance mode reaches its body (R134, R170). -/
theorem State.request_keyed {s : State} (h : Ready s .sp) (key : s.key = true) (c : Command)
    (permitted : c.permitted .sp = true) (body : State → State) :
    (s.request .sp c fun s => s.keyed .sp c body) = body (s.setOutstanding .sp c.byte) := by
  have key' : (s.setOutstanding .sp c.byte).key = true := by simpa using key
  rw [State.request_ready h c permitted, State.keyed_key key']

/-! ### SET_DENOM -/

theorem denomOf_eq_none {value kindNo enabledNo acceptNo recycleNo lowWater : Nat}
    (h : 1 < kindNo ∨ 1 < enabledNo ∨ 1 < acceptNo ∨ 1 < recycleNo) :
    denomOf value kindNo enabledNo acceptNo recycleNo lowWater = none := by
  unfold denomOf
  split
  · next hk he ha hr =>
    rcases h with h | h | h | h
    · exact absurd hk (by simp [kindOf_of_ge h])
    · exact absurd he (by simp [flagOf_of_ge h])
    · exact absurd ha (by simp [flagOf_of_ge h])
    · exact absurd hr (by simp [flagOf_of_ge h])
  · rfl

theorem denomOf_eq_some {value kindNo enabledNo acceptNo recycleNo lowWater : Nat} (hk : kindNo ≤ 1)
    (he : enabledNo ≤ 1) (ha : acceptNo ≤ 1) (hr : recycleNo ≤ 1) :
    denomOf value kindNo enabledNo acceptNo recycleNo lowWater =
      some { value := value, kind := if kindNo = 0 then .coin else .note, enabled := decide (enabledNo = 1)
             accept := decide (acceptNo = 1), recycle := decide (recycleNo = 1), lowWater := lowWater } := by
  simp [denomOf, kindOf_of_le hk, flagOf_of_le he, flagOf_of_le ha, flagOf_of_le hr]

/-- The record that SET_DENOM's parameters spell carries their value and low-water mark. -/
theorem denomOf_fields {value kindNo enabledNo acceptNo recycleNo lowWater : Nat} {x : Denom}
    (h : denomOf value kindNo enabledNo acceptNo recycleNo lowWater = some x) :
    x.value = value ∧ x.lowWater = lowWater := by
  unfold denomOf at h
  split at h
  · cases h
    exact ⟨rfl, rfl⟩
  · cases h

theorem State.setDenomAllowed_iff (s : State) (d : Slot) (x : Denom) :
    s.setDenomAllowed d x = true ↔
      (s.lanes.get .a).opened = false ∧ (s.lanes.get .b).opened = false ∧
        (x.kind = (s.denoms.get d).kind ∨ ∀ u, (s.units.get u).slot ≠ some d) := by
  simp [State.setDenomAllowed, State.unitOfSlot, PerLane.get, and_assoc]

/-- SET_DENOM of a record that names a kind and flags: RANGE, then STATE, then the slot's record is written (R139). -/
theorem exec_setDenom {d : Slot} {value kindNo enabledNo acceptNo recycleNo lowWater : Nat} {x : Denom} {s : State}
    (h : Ready s .sp) (key : s.key = true)
    (hx : denomOf value kindNo enabledNo acceptNo recycleNo lowWater = some x) :
    exec (.setDenom .sp d.val value kindNo enabledNo acceptNo recycleNo lowWater) s =
      .next
        (if s.setDenomInRange d x = false then s.refusedWith .sp .setDenom .range
        else if s.setDenomAllowed d x = false then s.refusedWith .sp .setDenom .state
        else
          ({ s with
            denoms := s.denoms.set d x
            dirty := insertDirty recDenoms s.now s.dirty }.replied .sp .setDenom []).settleEvent) := by
  have : exec (.setDenom .sp d.val value kindNo enabledNo acceptNo recycleNo lowWater) s =
      execSetDenom .sp d.val value kindNo enabledNo acceptNo recycleNo lowWater s := rfl
  rw [this, execSetDenom, h.firstEvent, takeSetDenom, State.request_keyed h key _ rfl, slotOf_val, hx]
  have range : (s.setOutstanding .sp Command.setDenom.byte).setDenomInRange d x = s.setDenomInRange d x := rfl
  have allowed : (s.setOutstanding .sp Command.setDenom.byte).setDenomAllowed d x = s.setDenomAllowed d x := rfl
  simp only [State.ranged_some, range, allowed, Bool.not_eq_true']
  rfl

/-- Settles O18: SET_DENOM refuses a code that names nothing, then goes by its range and its state checks. -/
theorem setDenom : Obligations.SetDenom := by
  unfold Obligations.SetDenom
  refine ⟨fun d value kindNo enabledNo acceptNo recycleNo lowWater s h key => ⟨fun codes => ?_, fun hk he ha hr =>
    denomOf_eq_some hk he ha hr⟩, fun d value kindNo enabledNo acceptNo recycleNo lowWater x s h key hx => ?_⟩
  · have : exec (.setDenom .sp d.val value kindNo enabledNo acceptNo recycleNo lowWater) s =
        execSetDenom .sp d.val value kindNo enabledNo acceptNo recycleNo lowWater s := rfl
    rw [this, execSetDenom, h.firstEvent, takeSetDenom, State.request_keyed h key _ rfl, slotOf_val,
      denomOf_eq_none codes]
    rfl
  · obtain ⟨rfl, rfl⟩ := denomOf_fields hx
    have inRange := s.setDenomInRange_iff d x
    have allowed := s.setDenomAllowed_iff d x
    rw [exec_setDenom h key hx]
    refine ⟨fun out => ?_, fun low high water other => ⟨fun state => ?_, fun a b kind => ?_⟩⟩
    · rw [if_pos (Bool.eq_false_iff.mpr fun e => out (inRange.mp e))]
    · have ok := inRange.mpr ⟨low, high, water, other⟩
      rw [if_neg (by simp [ok]), if_pos]
      refine Bool.eq_false_iff.mpr fun e => ?_
      obtain ⟨a, b, kind⟩ := allowed.mp e
      rcases state with h | h | ⟨ne, u, h⟩
      · exact absurd h (by simp [a])
      · exact absurd h (by simp [b])
      · exact kind.elim ne fun none => none u h
    · have ok := inRange.mpr ⟨low, high, water, other⟩
      have yes := allowed.mpr ⟨a, b, kind⟩
      rw [if_neg (by simp [ok]), if_neg (by simp [yes])]

end Sys2Proof.Machine
end

section
/-! SUPPORT. The reads (R21, R79, R88, R111, R133, R151, R165, R184). -/
namespace Sys2Proof.Machine

-- One proof after the other: many short proofs at once take more threads than the check's memory limit has room for.
set_option Elab.async false

/-! ### How a read is answered -/

/-- A read at a ready port whose parameter names something makes its fields. -/
theorem State.reply_some {α : Type} {s : State} {p : Port} {c : Command} {x : Option α} {a : α}
    {fields : State → α → List Field} {data : List Field} (h : Ready s p) (permitted : c.permitted p = true)
    (hx : x = some a) (hf : fields (s.setOutstanding p c.byte) a = data) :
    (.next (s.firstEvent.reply p c x fields) : Result) = .next (s.replied p c data) := by
  rw [h.firstEvent, State.reply, State.request_ready h c permitted, hx, State.ranged_some, hf, State.replied]

/-- A read at a ready port whose parameter names nothing is refused with RANGE. -/
theorem State.reply_none {α : Type} {s : State} {p : Port} {c : Command} {x : Option α}
    {fields : State → α → List Field} (h : Ready s p) (permitted : c.permitted p = true) (hx : x = none) :
    (.next (s.firstEvent.reply p c x fields) : Result) = .next (s.refusedWith p c .range) := by
  rw [h.firstEvent, State.reply, State.request_ready h c permitted, hx, State.ranged_none, State.refusedWith]

/-! ### The place of the job in flight (R133) -/

/-- A job stands behind the jobs of other serial numbers. -/
theorem positionIn_append {front back : List Job} {j : Job} (h : ∀ i ∈ front, i.serial ≠ j.serial) :
    positionIn j.serial (front ++ j :: back) = some (front.length + 1) := by
  have : (front ++ j :: back).takeWhile (fun i => decide (i.serial ≠ j.serial)) = front := by
    rw [List.takeWhile_append_of_pos (by simpa using h)]
    simp
  rw [positionIn, this, if_pos (by simp)]

theorem positionIn_eq_none {serial : Nat} {js : List Job} (h : ∀ i ∈ js, i.serial ≠ serial) :
    positionIn serial js = none := by
  simpa [positionIn] using h

/-- Where serial numbers are distinct, no job before another has its number. -/
theorem serial_ne_of_nodup {js ks : List Job} {j : Job} (distinct : ((js ++ ks).map Job.serial).Nodup) (h : j ∈ ks) :
    ∀ i ∈ js, i.serial ≠ j.serial := by
  intro i hi
  rw [List.map_append, List.nodup_append] at distinct
  obtain ⟨-, -, apart⟩ := distinct
  exact apart _ (List.mem_map_of_mem hi) _ (List.mem_map_of_mem h)

/-- Where serial numbers are distinct, one is found at its job. -/
theorem State.findJob_eq_some {s : State} {j : Job} (h : j ∈ s.allJobs) (distinct : (s.allJobs.map Job.serial).Nodup) :
    s.findJob j.serial = some j := by
  obtain ⟨front, back, e⟩ := List.append_of_mem h
  rw [State.findJob, e, List.find?_eq_some_iff_append]
  rw [e] at distinct
  exact ⟨by simp, front, back, rfl, fun i hi => by simpa using serial_ne_of_nodup distinct (by simp) i hi⟩

theorem State.mem_allJobs_of_jobsAt {s : State} {x : Place} {j : Job} (h : j ∈ s.jobsAt x) : j ∈ s.allJobs := by
  cases x with
  | lane l => cases l <;> simp_all [State.allJobs, State.jobsAt, PerLane.get]
  | service => simp_all [State.allJobs, State.jobsAt]
  | stackDown => simp_all [State.allJobs, State.jobsAt]

theorem State.jobsAt_nodup {s : State} (distinct : (s.allJobs.map Job.serial).Nodup) (x : Place) :
    ((s.jobsAt x).map Job.serial).Nodup := by
  simp only [State.allJobs, List.map_append, List.nodup_append] at distinct
  obtain ⟨⟨⟨ha, hb, -⟩, hs, -⟩, hk, -⟩ := distinct
  cases x with
  | lane l => cases l <;> assumption
  | service => exact hs
  | stackDown => exact hk

/-- The place fields of the job in flight: its place, its position there and its origin. -/
theorem State.jobPlaceFields_eq {s : State} {n : Nat} {x : Place} {front back : List Job} {j : Job}
    (hx : placeOf n = some x) (split : s.jobsAt x = front ++ j :: back)
    (distinct : (s.allJobs.map Job.serial).Nodup) :
    s.jobPlaceFields j.serial = [byteField n, byteField (front.length + 1)] ++ originFields j.origin := by
  have mem : j ∈ s.jobsAt x := by simp [split]
  have here : positionIn j.serial (s.jobsAt x) = some (front.length + 1) := by
    have own := s.jobsAt_nodup distinct x
    rw [split] at own ⊢
    exact positionIn_append (serial_ne_of_nodup own (by simp))
  have found := State.findJob_eq_some (State.mem_allJobs_of_jobsAt mem) distinct
  have before {js ks : List Job} (e : ((js ++ ks).map Job.serial).Nodup) (h : j ∈ ks) : positionIn j.serial js = none :=
    positionIn_eq_none (serial_ne_of_nodup e h)
  simp only [State.allJobs, List.append_assoc] at distinct
  have afterA : ((s.laneJobs.b ++ (s.serviceJobs ++ s.stackJobs)).map Job.serial).Nodup := by
    rw [List.map_append] at distinct
    exact (List.nodup_append.mp distinct).2.1
  have afterB : ((s.serviceJobs ++ s.stackJobs).map Job.serial).Nodup := by
    rw [List.map_append] at afterA
    exact (List.nodup_append.mp afterA).2.1
  unfold State.jobPlaceFields
  rw [found]
  match n, x, hx with
  | 0, .lane .a, _ =>
    have : positionIn j.serial s.laneJobs.a = _ := here
    simp [this]
  | 1, .lane .b, _ =>
    have : positionIn j.serial s.laneJobs.b = _ := here
    have mem : j ∈ s.laneJobs.b := mem
    simp [this, before distinct (by simp [mem])]
  | 2, .service, _ =>
    have : positionIn j.serial s.serviceJobs = _ := here
    have mem : j ∈ s.serviceJobs := mem
    simp [this, before distinct (by simp [mem]), before afterA (by simp [mem])]
  | 3, .stackDown, _ =>
    have : positionIn j.serial s.stackJobs = _ := here
    have mem : j ∈ s.stackJobs := mem
    simp [this, before distinct (by simp [mem]), before afterA (by simp [mem]), before afterB mem]

/-- READ_MECHANISM of an ejection in flight (R133). -/
theorem State.mechanismFields_ejecting {s : State} {k : Kind} {e : Ejection} {n : Nat} {x : Place}
    {front back : List Job} {j : Job} (phase : (s.mechs.get k).phase = .ejecting e) (hx : placeOf n = some x)
    (split : s.jobsAt x = front ++ j :: back) (serial : j.serial = e.job)
    (distinct : (s.allJobs.map Job.serial).Nodup) :
    s.mechanismFields k =
      [byteField 1, flagField (s.mechs.get k).sense, byteField n, byteField (front.length + 1)] ++
        originFields j.origin ++
        [byteField (sourceCode e.source), byteField (destCode e.dest), byteField e.attempt,
          flagField e.faultPending] := by
  have place := State.jobPlaceFields_eq hx split distinct
  rw [serial] at place
  simp [State.mechanismFields, phase, phaseCode, place]

/-! ### The dirty set as a set of record numbers (R165) -/

theorem dirtyMask_getLsbD (ds : List (RecordNo × Nat)) (r : RecordNo) :
    (dirtyMask ds).getLsbD r.val = true ↔ ∃ since, (r, since) ∈ ds := by
  have bit (a : RecordNo) : (BitVec.ofNat 22 (2 ^ a.val)).getLsbD r.val = decide (a = r) := by
    rw [BitVec.getLsbD_ofNat, Nat.testBit_two_pow]
    simp [Fin.ext_iff]
  have fold (m : BitVec 22) : (ds.foldl (fun m e => m ||| BitVec.ofNat 22 (2 ^ e.1.val)) m).getLsbD r.val = true ↔
      m.getLsbD r.val = true ∨ ∃ since, (r, since) ∈ ds := by
    induction ds generalizing m with
    | nil => simp
    | cons d ds ih =>
      obtain ⟨a, since⟩ := d
      rw [List.foldl_cons, ih, BitVec.getLsbD_or, bit]
      simp only [decide_eq_true_eq, Bool.or_eq_true, List.mem_cons, Prod.mk.injEq, exists_or, or_assoc, @eq_comm _ a r,
        exists_and_left, exists_eq, and_true]
  rw [dirtyMask, fold]
  simp

/-! ### The jobs of a place (R111) -/

theorem Job.fields_eq (j : Job) :
    j.fields = originFields j.origin ++
      [byteField (match j.origin with
        | .sale _ _ => 1
        | .stackDown => 0
        | _ => 2), byteField (sourceCode j.source), countField j.ordered, countField j.done,
        byteField (destCode j.dest), flagField j.inFlight, flagField j.stopped] := by
  unfold Job.fields
  cases j.origin <;> rfl

theorem State.queueFields_eq (s : State) (x : Place) {fields : Job → List Field} (h : ∀ j, j.fields = fields j) :
    s.queueFields x = listFields ((s.jobsAt x).map fields) ++ s.deliveryFields x ++ s.turnFields := by
  rw [State.queueFields, funext h]

/-- Places other than a lane's queue have no delivery counts. -/
theorem State.queueFields_eq_of_nil (s : State) {x : Place} {fields : Job → List Field} (h : ∀ j, j.fields = fields j)
    (none : s.deliveryFields x = []) : s.queueFields x = listFields ((s.jobsAt x).map fields) ++ s.turnFields := by
  rw [s.queueFields_eq x h, none, List.append_nil]

/-! ### The reads -/

theorem counterOf_val (n : Fin 8) : counterOf n.val = some n := by simp [counterOf]

theorem counterOf_of_ge {n : Nat} (h : 8 ≤ n) : counterOf n = none := by simp [counterOf, Nat.not_lt.mpr h]

/-- Settles O25: each read makes the fields of its rule, and refuses a parameter that names nothing. -/
theorem reads : Obligations.Reads := by
  unfold Obligations.Reads
  refine ⟨fun p s h => ⟨fun n hn => ⟨?_, ?_⟩, fun n hn => ?_, fun d => ?_, fun u => ?_, fun k => ?_⟩,
    fun p s h => ⟨?_, fun l => ?_, ⟨fun l => ?_, ?_, ?_⟩, fun k => ⟨?_, ?_, ?_, ?_⟩, fun n => ⟨fun hn => ⟨?_, ?_⟩, fun hn => ?_⟩⟩,
    fun p s h => ⟨?_, ⟨dirtyMask s.dirty, dirtyMask_getLsbD s.dirty, ?_⟩, fun n => ?_, fun n hn => ?_⟩⟩
  · exact State.reply_none h rfl (slotOf_of_ge hn)
  · exact State.reply_none h rfl (unitOf_of_ge hn)
  · exact State.reply_none h rfl (kindOf_of_ge hn)
  · exact State.reply_some h rfl (slotOf_val d) rfl
  · exact State.reply_some h rfl (unitOf_val u) rfl
  · exact State.reply_some h rfl (kindOf_code k) rfl
  · exact State.reply_some h rfl rfl rfl
  · exact State.reply_some h rfl (laneOf_code l) rfl
  · exact State.reply_some h rfl (show placeOf (laneCode l) = some (.lane l) by cases l <;> rfl)
      (State.queueFields_eq _ _ Job.fields_eq)
  · exact State.reply_some h rfl rfl (State.queueFields_eq_of_nil _ Job.fields_eq rfl)
  · exact State.reply_some h rfl rfl (State.queueFields_eq_of_nil _ Job.fields_eq rfl)
  · exact State.reply_some h rfl (kindOf_code k) rfl
  · exact fun phase => by simp [State.mechanismFields, phase, phaseCode]
  · exact fun c phase => by simp [State.mechanismFields, phase, phaseCode]
  · exact fun e n x front j back phase hx split serial distinct =>
      State.mechanismFields_ejecting phase hx split serial distinct
  · exact State.reply_none h rfl (laneOf_of_ge hn)
  · exact State.reply_none h rfl (kindOf_of_ge hn)
  · exact State.reply_none h rfl (placeOf_of_ge hn)
  · exact State.reply_some h rfl rfl rfl
  · exact State.reply_some h rfl rfl rfl
  · exact State.reply_some h rfl (counterOf_val n) rfl
  · exact State.reply_none h rfl (counterOf_of_ge hn)

end Sys2Proof.Machine
end

section
/-! SUPPORT. STOP (R107): what is released, and from which unit. -/
namespace Sys2Proof.Machine

-- One proof after the other: many short proofs at once take more threads than the check's memory limit has room for.
set_option Elab.async false

/-! ### Releasing pieces (R91, R10) -/

/-- A unit of which `n` committed pieces are released, where any job of it is: LOCK_PENDING with none left is LOCKED. -/
def UnitRec.released (r : UnitRec) (n : Nat) (any : Bool) : UnitRec :=
  { r with
    committed := r.committed - n
    state := if r.state = .lockPending ∧ r.committed - n = 0 ∧ any = true then .locked else r.state }

@[simp] theorem UnitRec.released_none (r : UnitRec) : r.released 0 false = r := by simp [UnitRec.released]

theorem UnitRec.released_released (r : UnitRec) {n m : Nat} {any : Bool} (idle : any = false → m = 0) :
    (r.released n true).released m any = r.released (n + m) true := by
  cases any with
  | true =>
    by_cases lp : r.state = .lockPending <;> by_cases zero : r.committed - n = 0 <;>
      simp [UnitRec.released, lp, zero, Nat.sub_sub] <;> omega
  | false => simp [idle rfl, UnitRec.released]

theorem State.release_get (s : State) (u v : UnitId) (n : Nat) :
    (s.release v n).units.get u = if u = v then (s.units.get u).released n true else s.units.get u := by
  by_cases e : u = v
  · subst e
    by_cases done : (s.units.get u).state = .lockPending ∧ (s.units.get u).committed - n = 0 <;>
      simp [State.release, State.lockIfDone, State.setUnitState, UnitRec.released, done]
  · by_cases done : (s.units.get v).state = .lockPending ∧ (s.units.get v).committed - n = 0 <;>
      simp [State.release, State.lockIfDone, State.setUnitState, Twelve.get_modify, done, e]

/-- The pieces that jobs still owe from a unit. -/
def owedBy (js : List Job) (u : UnitId) : Nat := ((js.filter fun j => j.onUnit u).map Job.undone).sum

theorem owedBy_eq_zero {js : List Job} {u : UnitId} (h : (js.any fun j => j.onUnit u) = false) : owedBy js u = 0 := by
  have none : (js.filter fun j => j.onUnit u) = [] := by simpa using h
  simp [owedBy, none]

theorem State.releaseJobs_get (s : State) (js : List Job) (u : UnitId) :
    (s.releaseJobs js).units.get u = (s.units.get u).released (owedBy js u) (js.any fun j => j.onUnit u) := by
  induction js generalizing s with
  | nil => simp [State.releaseJobs, owedBy]
  | cons j js ih =>
    have tail : (s.releaseJobs (j :: js)) =
      (match j.source with
        | .unit v => s.release v j.undone
        | .escrow _ => s).releaseJobs js := rfl
    rw [tail, ih]
    by_cases on : j.source = .unit u
    · have here : j.onUnit u = true := by simp [Job.onUnit, on]
      have sum : owedBy (j :: js) u = j.undone + owedBy js u := by simp [owedBy, here]
      simp only [on, State.release_get, if_pos, List.any_cons, here, Bool.true_or, sum]
      exact UnitRec.released_released _ owedBy_eq_zero
    · have off : j.onUnit u = false := by simp [Job.onUnit, on]
      have same : ((match j.source with
        | .unit v => s.release v j.undone
        | .escrow _ => s) : State).units.get u = s.units.get u := by
        cases e : j.source with
        | unit v => simp [State.release_get, show u ≠ v from fun h => on (h ▸ e)]
        | escrow l => rfl
      simp [same, owedBy, off]

/-! ### The parts that STOP changes -/

/-- A sale's jobs that are not in flight. -/
def State.waitingJobs (s : State) (l : Lane) (tag : Nat) : List Job :=
  (s.laneJobs.get l).filter fun j => j.ofSale l tag && !j.inFlight

theorem State.stopJobs_eq (s : State) (l : Lane) (tag : Nat) :
    s.stopJobs l tag =
      (s.modLaneJobs l fun q =>
        (q.filter fun j => !(j.ofSale l tag && !j.inFlight)).map fun j =>
          if j.ofSale l tag then { j with stopped := true } else j).releaseJobs (s.waitingJobs l tag) := by
  rw [State.waitingJobs, State.stopJobs, List.filter_filter]
  simp only [Bool.and_comm]

theorem State.stopSale_laneJobs (s : State) (l : Lane) (x : Sale) :
    (s.stopSale l x).laneJobs = s.laneJobs.modify l fun q =>
      (q.filter fun j => !(j.ofSale l x.tag && !j.inFlight)).map fun j =>
        if j.ofSale l x.tag then { j with stopped := true } else j := by
  simp [State.stopSale, State.finishSale, State.modSale, State.dropRequest, State.stopJobs_eq]

theorem State.stopSale_planReqs (s : State) (l : Lane) (x : Sale) :
    (s.stopSale l x).planReqs = s.planReqs.filter fun r => !r.isOf l x.tag := by
  simp [State.stopSale, State.dropRequest]

theorem State.stopSale_sales (s : State) (l : Lane) (x : Sale) :
    (s.stopSale l x).sales = s.sales.modify l fun ys => ys.map fun y =>
      if y.tag = x.tag then { y with state := .stopped } else y := by
  simp [State.stopSale, State.finishSale, State.modSale, State.dropRequest]

theorem State.stopSale_events (s : State) (l : Lane) (x : Sale) :
    (s.stopSale l x).events = s.events.modify l.port fun e =>
      { e with finished := pushLast e.finished (x.tag, .stopped) } := by
  simp [State.stopSale, State.finishSale, State.raiseFinished, State.dropRequest]

theorem State.stopSale_units (s : State) (l : Lane) (x : Sale) (u : UnitId) :
    (s.stopSale l x).units.get u =
      (s.units.get u).released (owedBy (s.waitingJobs l x.tag) u)
        ((s.waitingJobs l x.tag).any fun j => j.onUnit u) := by
  simp [State.stopSale, State.dropRequest, State.stopJobs_eq, State.releaseJobs_get]

theorem State.orphanStack_none {s : State} {l : Lane} {x : Sale}
    (h : ¬ (x.state = .refunding ∧ (s.escrows.get l).owner = .sale x.tag)) : s.orphanStack l x = s := if_neg h

theorem State.orphanStack_escrow {s : State} {l : Lane} {x : Sale} (refunding : x.state = .refunding)
    (owner : (s.escrows.get l).owner = .sale x.tag) :
    (s.orphanStack l x).escrows.get l =
      { s.escrows.get l with
        owner := .orphan
        status := if (s.escrows.get l).status = .fault then .idle else (s.escrows.get l).status } := by
  rw [State.orphanStack, if_pos ⟨refunding, owner⟩]
  cases h : (s.escrows.get l).status <;> simp [State.setOwner, State.setEscrowStatus, h]

theorem State.stopSale_escrows (s : State) (l : Lane) (x : Sale) :
    ∃ t : State, t.escrows = s.escrows ∧ (s.stopSale l x).escrows = (t.orphanStack l x).escrows :=
  ⟨(s.stopJobs l x.tag).dropRequest l x.tag, by simp [State.dropRequest], by simp [State.stopSale]⟩

theorem State.stopSale_escrows_same {s : State} {l : Lane} {x : Sale}
    (h : ¬ (x.state = .refunding ∧ (s.escrows.get l).owner = .sale x.tag)) : (s.stopSale l x).escrows = s.escrows := by
  obtain ⟨t, same, e⟩ := s.stopSale_escrows l x
  rw [e, State.orphanStack_none (by rwa [same]), same]

theorem State.stopSale_escrow {s : State} {l : Lane} {x : Sale} (refunding : x.state = .refunding)
    (owner : (s.escrows.get l).owner = .sale x.tag) :
    (s.stopSale l x).escrows.get l =
      { s.escrows.get l with
        owner := .orphan
        status := if (s.escrows.get l).status = .fault then .idle else (s.escrows.get l).status } := by
  obtain ⟨t, same, e⟩ := s.stopSale_escrows l x
  rw [e, State.orphanStack_escrow refunding (by rwa [same]), same]

/-- The sale found under a tag, after a change of the sales of that tag that keeps the tag. -/
theorem find_map_tag {ys : List Sale} {tag : Nat} {x : Sale} {f : Sale → Sale} (keeps : ∀ y, (f y).tag = y.tag)
    (h : (ys.find? fun y => decide (y.tag = tag)) = some x) :
    ((ys.map fun y => if y.tag = tag then f y else y).find? fun y => decide (y.tag = tag)) = some (f x) := by
  have hx : x.tag = tag := by simpa using List.find?_some h
  have pred : (fun y : Sale => decide (y.tag = tag)) ∘ (fun y => if y.tag = tag then f y else y) =
      fun y => decide (y.tag = tag) := by
    funext y
    by_cases e : y.tag = tag <;> simp [e, keeps]
  rw [List.find?_map, pred, h]
  simp [hx]

/-! ### STOP -/

/-- STOP of a lane that the port may name: NO_SALE, STATE, then its effect (R106, R107). -/
theorem exec_stop {p : Port} {lane : Option Nat} {l : Lane} {tag : Nat} {s : State} (h : Ready s p)
    (named : namedLane p lane = some l) :
    exec (.stop p lane tag) s =
      .next
        (match s.findSale l tag with
        | none => s.refusedWith p .stop .noSale
        | some x =>
          if x.state = .paying ∨ x.state = .refunding then ((s.replied p .stop []).stopSale l x).conclude false [] []
          else s.refusedWith p .stop .state) := by
  have permitted : Command.stop.permitted p = true := by cases p <;> rfl
  have : exec (.stop p lane tag) s = execStop p lane tag s := rfl
  rw [this, execStop, h.firstEvent, takeStop, State.request_ready h _ permitted, named]
  rfl

theorem namedLane_eq {p : Port} {lane : Option Nat} {l : Lane}
    (h : p.lane = some l ∧ lane = none ∨ p = .sp ∧ lane = some (laneCode l)) : namedLane p lane = some l := by
  rcases h with ⟨hp, rfl⟩ | ⟨rfl, rfl⟩
  · simp [namedLane, hp]
  · simp [namedLane]

/-- Settles O12: the state before the event's end is `stopSale` of the reply, whose parts are those of the lemmas. -/
theorem stop : Obligations.Stop := by
  unfold Obligations.Stop
  intro p lane l tag s h named
  have run := exec_stop (tag := tag) h (namedLane_eq named)
  refine ⟨fun none => by rw [run, none], fun x hx => ?_⟩
  rw [hx] at run
  have hxtag : x.tag = tag := by simpa using List.find?_some hx
  subst hxtag
  refine ⟨fun np nr => by simp [run, np, nr], fun live => ⟨(s.replied p .stop []).stopSale l x, ?_⟩⟩
  refine ⟨by simp [run, live], by simp [State.replied], by simp [State.replied], by simp [State.replied],
    by simp [State.replied], by simp [State.replied], by simp [State.replied], by simp [State.replied],
    by simp [State.replied], by simp [State.replied], by simp [State.replied], by simp [State.replied],
    by simp [State.replied], by simp [State.replied], by simp,
    State.stopSale_laneJobs _ l x, State.stopSale_planReqs _ l x, ?_, State.stopSale_sales _ l x,
    State.stopSale_events _ l x, fun u => ?_, fun refunding owner => ?_, fun other => ?_⟩
  · rw [State.findSale, State.stopSale_sales, PerLane.get_modify_same]
    exact find_map_tag (f := fun y => { y with state := .stopped }) (fun _ => rfl) hx
  · rw [State.stopSale_units]
    have owed : owedBy ((s.replied p .stop []).waitingJobs l x.tag) u =
        (((s.laneJobs.get l).filter fun j => j.ofSale l x.tag && !j.inFlight && j.onUnit u).map Job.undone).sum := by
      rw [owedBy, State.waitingJobs, List.filter_filter]
      simp only [Bool.and_comm]
      rfl
    have any : (((s.replied p .stop []).waitingJobs l x.tag).any fun j => j.onUnit u) =
        (s.laneJobs.get l).any fun j => j.ofSale l x.tag && !j.inFlight && j.onUnit u := by
      rw [State.waitingJobs, List.any_filter]
      rfl
    rw [owed, any]
    exact ⟨rfl, rfl, rfl, rfl⟩
  · rw [State.stopSale_escrow (s := s.replied p .stop []) refunding owner]
    exact ⟨rfl, rfl, rfl⟩
  · refine State.stopSale_escrows_same fun h => ?_
    obtain ⟨refunding, owner⟩ := h
    rcases other with paying | ne
    · exact absurd paying (by simp [refunding])
    · exact ne owner

end Sys2Proof.Machine
end

section
/-! SUPPORT. Where a piece is routed (R16, R18), and the accept lines (R19, R34). -/

namespace Sys2Proof.Machine

-- One proof after the other: many short proofs at once take more threads than the check's memory limit has room for.
set_option Elab.async false

/-! ### The emptiest unit (R16) -/

theorem State.fits_iff (s : State) (k : Kind) (d : Slot) (limit : UnitRec → Nat) (u : UnitId) :
    (decide (unitKind u = k) && s.unitOfSlot d u && s.unitActive u &&
      decide ((s.units.get u).count < limit (s.units.get u))) = true ↔ s.Fits k d limit u := by
  simp only [State.unitOfSlot, State.unitActive, State.Fits, Bool.and_eq_true, decide_eq_true_eq]
  tauto

theorem State.emptiest_eq_fold (s : State) (k : Kind) (d : Slot) (limit : UnitRec → Nat) :
    s.emptiest k d limit = allUnits.foldl
      (bestStep (fun u => decide (unitKind u = k) && s.unitOfSlot d u && s.unitActive u &&
          decide ((s.units.get u).count < limit (s.units.get u)))
        fun u b => (s.units.get u).count < (s.units.get b).count) none := rfl

theorem State.emptiest_eq_none_iff (s : State) (k : Kind) (d : Slot) (limit : UnitRec → Nat) :
    s.emptiest k d limit = none ↔ ∀ u, ¬ s.Fits k d limit u := by
  rw [s.emptiest_eq_fold]
  refine (foldl_bestStep_eq_none_iff (key := fun u => (s.units.get u).count) (by exact fun _ _ => Iff.rfl)).trans ?_
  exact forall_congr' fun u => by rw [← s.fits_iff, Bool.not_eq_true]

theorem State.emptiest_eq_some_iff (s : State) (k : Kind) (d : Slot) (limit : UnitRec → Nat) (u : UnitId) :
    s.emptiest k d limit = some u ↔ s.Emptiest k d limit u := by
  rw [s.emptiest_eq_fold]
  refine (foldl_bestStep_eq_some_iff (key := fun u => (s.units.get u).count) (by exact fun _ _ => Iff.rfl) u).trans ?_
  simp only [s.fits_iff, State.Emptiest]

/-! ### The route -/

/-- An enabled slot of the kind with recycle set: units come first (R16, R18). -/
def State.Recycled (s : State) (k : Kind) (d : Slot) : Prop :=
  (s.denoms.get d).enabled = true ∧ (s.denoms.get d).kind = k ∧ (s.denoms.get d).recycle = true

theorem State.route_recycled {s : State} {k : Kind} {d : Slot} (h : s.Recycled k d) (floatIn : Bool) :
    s.route k d floatIn =
      match s.emptiest k d (if floatIn then UnitRec.capacity else UnitRec.highWater) with
      | some u => some (.unit u)
      | none => if s.boxFull k then (s.emptiest k d UnitRec.capacity).map .unit else some .cashbox := by
  obtain ⟨enabled, kind, recycle⟩ := h
  simp only [State.route, enabled, kind, recycle, decide_true, Bool.and_true, if_true]
  cases s.emptiest k d (if floatIn then UnitRec.capacity else UnitRec.highWater) <;> cases s.boxFull k <;> rfl

theorem State.route_plain {s : State} {k : Kind} {d : Slot} (h : ¬ s.Recycled k d) (floatIn : Bool) :
    s.route k d floatIn = if s.boxFull k then none else some .cashbox := by
  have : ((s.denoms.get d).enabled && decide ((s.denoms.get d).kind = k) && (s.denoms.get d).recycle) = false := by
    rw [Bool.eq_false_iff]
    simpa [State.Recycled, and_assoc] using h
  simp [State.route, this]

/-- The unit that takes a piece: the emptiest below its limit, or below capacity where the box is FULL (R16, R18). -/
theorem State.route_unit_iff {s : State} {k : Kind} {d : Slot} (h : s.Recycled k d) (floatIn : Bool) (u : UnitId) :
    s.route k d floatIn = some (.unit u) ↔
      s.Emptiest k d (if floatIn then UnitRec.capacity else UnitRec.highWater) u ∨
        (∀ v, ¬ s.Fits k d (if floatIn then UnitRec.capacity else UnitRec.highWater) v) ∧ s.boxFull k = true ∧
          s.Emptiest k d UnitRec.capacity u := by
  rw [State.route_recycled h]
  simp only [← s.emptiest_eq_some_iff, ← s.emptiest_eq_none_iff]
  cases s.emptiest k d (if floatIn then UnitRec.capacity else UnitRec.highWater) with
  | some v => simp
  | none => cases s.boxFull k <;> simp

theorem State.route_cashbox_iff (s : State) (k : Kind) (d : Slot) (floatIn : Bool) :
    s.route k d floatIn = some .cashbox ↔
      s.boxFull k = false ∧ (s.Recycled k d → ∀ u,
        ¬ s.Fits k d (if floatIn then UnitRec.capacity else UnitRec.highWater) u) := by
  by_cases h : s.Recycled k d
  · rw [State.route_recycled h]
    simp only [h, forall_const, ← s.emptiest_eq_none_iff]
    cases s.emptiest k d (if floatIn then UnitRec.capacity else UnitRec.highWater) with
    | some v => simp
    | none => cases s.boxFull k <;> simp
  · rw [State.route_plain h]
    cases s.boxFull k <;> simp [h]

theorem State.route_none_iff (s : State) (k : Kind) (d : Slot) (floatIn : Bool) :
    s.route k d floatIn = none ↔
      s.boxFull k = true ∧ (s.Recycled k d → ∀ u,
        ¬ s.Fits k d (if floatIn then UnitRec.capacity else UnitRec.highWater) u ∧ ¬ s.Fits k d UnitRec.capacity u) := by
  by_cases h : s.Recycled k d
  · rw [State.route_recycled h]
    simp only [h, forall_const, forall_and, ← s.emptiest_eq_none_iff]
    cases s.emptiest k d (if floatIn then UnitRec.capacity else UnitRec.highWater) with
    | some v => simp
    | none => cases s.boxFull k <;> simp
  · rw [State.route_plain h]
    cases s.boxFull k <;> simp [h]

/-- A routed unit is below its high-water mark or below its capacity (R16, R18). -/
theorem State.route_fits {s : State} {k : Kind} {d : Slot} {floatIn : Bool} {u : UnitId}
    (h : s.route k d floatIn = some (.unit u)) :
    s.Fits k d UnitRec.highWater u ∨ s.Fits k d UnitRec.capacity u := by
  by_cases recycled : s.Recycled k d
  · rcases (State.route_unit_iff recycled floatIn u).mp h with ⟨fits, -⟩ | ⟨-, -, fits, -⟩
    · cases floatIn with
      | false => exact .inl fits
      | true => exact .inr fits
    · exact .inr fits
  · rw [State.route_plain recycled] at h
    split at h <;> simp_all

/-! ### The accept lines -/

theorem State.headOpen_iff (s : State) (l : Lane) :
    s.headOpen l = true ↔
      (s.lanes.get l).binding = .floatIn ∨ ∃ tag y, (s.lanes.get l).binding = .sale tag ∧
        s.findSale l tag = some y ∧ y.coinValue + y.noteValue < min 999999 (y.due + s.limits.payout) := by
  unfold State.headOpen
  cases binding : (s.lanes.get l).binding with
  | none => simp
  | floatIn => simp
  | sale tag => cases found : s.findSale l tag <;> simp [found, Sale.tendered, State.ceiling, Config.maxAmount]

theorem State.acceptLine_iff (s : State) (l : Lane) (d : Slot) :
    s.acceptLine l d = true ↔ s.powered = true ∧ (s.denoms.get d).enabled = true ∧ (s.denoms.get d).accept = true ∧
      s.headOpen l = true ∧ ((s.denoms.get d).kind = .note → (s.escrows.get l).entries.length < 8) ∧
        s.route (s.denoms.get d).kind d (decide ((s.lanes.get l).binding = .floatIn)) ≠ none := by
  have room : (decide ((s.denoms.get d).kind = .coin) || decide ((s.escrows.get l).entries.length < Config.escrowRoom)) =
      true ↔ ((s.denoms.get d).kind = .note → (s.escrows.get l).entries.length < 8) := by
    cases (s.denoms.get d).kind with
    | coin => simp
    | note =>
      simp only [reduceCtorEq, decide_false, Bool.false_or, decide_eq_true_eq, true_implies]
      rfl
  simp only [State.acceptLine, Bool.and_eq_true, room, Option.isSome_iff_ne_none]
  tauto

/-- Settles O32, by the route's two forms and what stands in the accept line. -/
theorem route : Obligations.Route := by
  unfold Obligations.Route
  refine ⟨fun k d floatIn s => ⟨fun h u => State.route_unit_iff h floatIn u, fun h u => ?_,
    s.route_cashbox_iff k d floatIn, s.route_none_iff k d floatIn⟩, fun l d s => ?_⟩
  · rw [State.route_plain h]
    split <;> simp
  · rw [s.acceptLine_iff l d, s.headOpen_iff l]

end Sys2Proof.Machine
end

section
/-! SUPPORT. COIN_PIECE_REPORT (R16, R17, R35, R37, R38, R144, R180). -/

namespace Sys2Proof.Machine

-- One proof after the other: many short proofs at once take more threads than the check's memory limit has room for.
set_option Elab.async false

/-! ### Credit -/

@[simp] theorem lanePort_ne_sp (l : Lane) : l.port ≠ .sp := by cases l <;> decide

/-- A sample raises an event at the service port at most. -/
theorem State.sample_events (s : State) (x : Sample) {p : Port} (hp : p ≠ .sp) :
    (s.sample x).events.get p = s.events.get p := by
  simp only [State.sample]
  split <;> simp [State.raiseWrapped, PerPort.get_modify_other _ hp]

theorem StrayRise.zero {s t : State} {l : Lane} (lanes : t.lanes = s.lanes)
    (events : t.events.get l.port = s.events.get l.port) : StrayRise s t l 0 := by
  intro bound
  have same : min 999999 ((s.lanes.get l).stray + 0) = (s.lanes.get l).stray := by omega
  simp only [same, lanes, events]
  refine ⟨?_, by simp⟩
  cases l <;> rfl

/-- What a rise is counted from may be an earlier state with the same lanes and the same events of the lane's port. -/
theorem StrayRise.of_same {s s' t : State} {l : Lane} {v : Nat} (h : StrayRise s' t l v) (lanes : s'.lanes = s.lanes)
    (events : s'.events.get l.port = s.events.get l.port) : StrayRise s t l v := by
  unfold StrayRise at h ⊢
  rwa [lanes, events] at h

theorem State.addStray_rise (s : State) (l : Lane) (v : Nat) : StrayRise s (s.addStray l v) l v := by
  intro bound
  simp only [State.addStray, Config.maxAmount]
  split
  next rise => simp [State.raiseStray, PerLane.modify, rise]
  next still =>
    have same : min 999999 ((s.lanes.get l).stray + v) = (s.lanes.get l).stray := by omega
    simp only [same, lt_irrefl, if_false]
    exact ⟨by cases l <;> rfl, trivial⟩

theorem State.addStray_lanes {s : State} {l : Lane} (bound : (s.lanes.get l).stray ≤ 999999) (v : Nat) :
    (s.addStray l v).lanes =
      s.lanes.set l { s.lanes.get l with stray := min 999999 ((s.lanes.get l).stray + v) } :=
  (s.addStray_rise l v bound).1

/-- A sale whose tender rises by an amount of a kind (R26, R35). -/
def Sale.raised (x : Sale) (k : Kind) (add : Nat) : Sale :=
  (match k with
    | .coin => { x with coinValue := x.coinValue + add }
    | .note => { x with noteValue := x.noteValue + add }).withChange

@[simp] theorem Sale.raised_tag (x : Sale) (k : Kind) (add : Nat) : (x.raised k add).tag = x.tag := by cases k <;> rfl

/-- What the tender of a sale can still take of a value (R35). -/
def Sale.taking (x : Sale) (v : Nat) : Nat := min v (999999 - x.tendered)

theorem State.creditSale_eq {s : State} {l : Lane} {tag : Nat} {x : Sale} (h : s.findSale l tag = some x) (k : Kind)
    (v : Nat) :
    s.creditSale l tag k v =
      if x.taking v < v then (s.modSale l tag fun y => y.raised k (x.taking v)).addStray l (v - x.taking v)
      else s.modSale l tag fun y => y.raised k (x.taking v) := by
  rw [State.creditSale, h]
  rfl

theorem State.creditSale_findSale {s : State} {l : Lane} {tag : Nat} {x : Sale} (h : s.findSale l tag = some x)
    (k : Kind) (v : Nat) : (s.creditSale l tag k v).findSale l tag = some (x.raised k (x.taking v)) := by
  have sales : (s.creditSale l tag k v).sales = s.sales.modify l fun ys => ys.map fun y =>
      if y.tag = tag then y.raised k (x.taking v) else y := by
    rw [State.creditSale_eq h]
    by_cases passes : x.taking v < v <;> simp [passes, State.modSale]
  rw [State.findSale, sales, PerLane.get_modify_same]
  exact find_map_tag (f := fun y => y.raised k (x.taking v)) (fun _ => Sale.raised_tag ..) h

/-- What a tender cannot hold becomes stray credit (R35, R38). -/
theorem State.creditSale_rise {s : State} {l : Lane} {tag : Nat} {x : Sale} (h : s.findSale l tag = some x)
    (k : Kind) (v : Nat) (bound : x.tendered ≤ 999999) :
    StrayRise s (s.creditSale l tag k v) l (x.tendered + v - 999999) ∧
      (x.tendered + v ≤ 999999 → (s.creditSale l tag k v).lanes = s.lanes) := by
  rw [State.creditSale_eq h]
  have taking : x.taking v = min v (999999 - x.tendered) := rfl
  by_cases passes : x.taking v < v
  · have excess : v - x.taking v = x.tendered + v - 999999 := by omega
    rw [if_pos passes, excess]
    exact ⟨(State.addStray_rise _ l _).of_same (by simp) (by simp), fun fits => by omega⟩
  · have none : x.tendered + v - 999999 = 0 := by omega
    rw [if_neg passes, none]
    exact ⟨.zero (by simp) (by simp), fun _ => by simp⟩

/-! ### The coin's store -/

/-- The state once a coin is counted in its store, before its credit. -/
def State.storeCoin (s : State) (l : Lane) (d : Slot) : State :=
  (({ s with coinPaths := s.coinPaths.set l (some (s.coinStore l d)) }.samplePieceIn l d).storePiece .coin l d
    (s.coinStore l d))

theorem State.takeCoin_eq (s : State) (l : Lane) (d : Slot) :
    s.takeCoin l d = if s.taken .coin d = true then (s.storeCoin l d).creditCoin l d else s.storeCoin l d := by
  have same : (s.storeCoin l d).taken .coin d = s.taken .coin d := by simp [State.storeCoin, State.taken]
  rw [← same]
  rfl

theorem State.storePiece_saw (s : State) (k : Kind) (l : Lane) (d : Slot) (x : Store) :
    Saw s (s.storePiece k l d x)
      (if x = .cashbox then [{ kind := .pieceToCashbox, lane := .lane l, slots := some (slotBit d), value := 1 }]
      else []) := by
  intro n
  cases x <;> simp [State.storePiece, State.sampleToCashbox]

theorem State.storePiece_events (s : State) (k : Kind) (l : Lane) (d : Slot) (x : Store) {p : Port} (hp : p ≠ .sp) :
    (s.storePiece k l d x).events.get p = s.events.get p := by
  cases x <;> simp [State.storePiece, State.sampleToCashbox, State.sample_events _ _ hp]

theorem State.storeCoin_saw (s : State) (l : Lane) (d : Slot) :
    Saw s (s.storeCoin l d) ({ kind := .pieceIn, lane := .lane l, slots := some (slotBit d), value := 1 } ::
      if s.coinStore l d = .cashbox then
        [{ kind := .pieceToCashbox, lane := .lane l, slots := some (slotBit d), value := 1 }]
      else []) := by
  intro n
  rw [State.storeCoin, State.storePiece_saw]
  simp [State.samplePieceIn]

theorem State.storeCoin_events (s : State) (l : Lane) (d : Slot) :
    (s.storeCoin l d).events.get l.port = s.events.get l.port := by
  rw [State.storeCoin, State.storePiece_events _ _ _ _ _ (lanePort_ne_sp l), State.samplePieceIn,
    State.sample_events _ _ (lanePort_ne_sp l)]

@[simp] theorem State.storeCoin_keeps (s : State) (l : Lane) (d : Slot) :
    SameConfig s (s.storeCoin l d) ∧ SameLanes s (s.storeCoin l d) ∧ (s.storeCoin l d).tallies = s.tallies ∧
      (s.storeCoin l d).coinPaths = s.coinPaths.set l (some (s.coinStore l d)) := by
  simp [State.storeCoin]

theorem State.storeCoin_unit {s : State} {l : Lane} {d : Slot} {u : UnitId} (h : s.coinStore l d = .unit u) :
    (s.storeCoin l d).boxes = s.boxes ∧
      (s.storeCoin l d).units = s.units.set u { s.units.get u with count := (s.units.get u).count + 1 } := by
  simp [State.storeCoin, h, State.storePiece, State.countIn, Twelve.modify]

theorem State.boxIn_counts (s : State) (k : Kind) (d e : Slot) :
    ((s.boxIn k d).boxes.get k).counts.get e =
      if e = d ∧ (s.boxes.get k).counts.get d < 65535 then (s.boxes.get k).counts.get d + 1
      else (s.boxes.get k).counts.get e := by
  by_cases room : (s.boxes.get k).counts.get d < 65535
  · simp [State.boxIn, Config.maxBoxCount, room, Twelve.get_modify]
  · simp [State.boxIn, Config.maxBoxCount, room]

theorem State.storeCoin_cashbox {s : State} {l : Lane} {d : Slot} (h : s.coinStore l d = .cashbox) :
    (s.storeCoin l d).units = s.units ∧ (s.storeCoin l d).boxes.get .note = s.boxes.get .note ∧
      ∀ e, ((s.storeCoin l d).boxes.get .coin).counts.get e =
        if e = d ∧ (s.boxes.get .coin).counts.get d < 65535 then (s.boxes.get .coin).counts.get d + 1
        else (s.boxes.get .coin).counts.get e := by
  have boxes : (s.storeCoin l d).boxes = (s.boxIn .coin d).boxes := by
    simp [State.storeCoin, h, State.storePiece, State.sampleToCashbox, State.boxIn, State.samplePieceIn]
    split <;> simp
  refine ⟨by simp [State.storeCoin, h, State.storePiece, State.sampleToCashbox], ?_, fun e => ?_⟩
  · rw [boxes, State.boxIn]
    split <;> simp [PerKind.get_modify_other]
  · rw [boxes, State.boxIn_counts]

/-! ### The report -/

theorem exec_coinPieceReport {s : State} (running : s.Running) (l : Lane) (d : Slot) :
    exec (.coinPieceReport l d) s =
      .next ((s.takeCoin l d).conclude false [] (checkedUnit (s.floatHead l) (s.coinStore l d))) := by
  have : exec (.coinPieceReport l d) s = execCoinPieceReport l d s := rfl
  rw [this, execCoinPieceReport, State.firstEvent_running running, takeCoinPieceReport, State.whenPowered,
    if_pos running.1]

theorem State.coinStore_eq (s : State) (l : Lane) (d : Slot) :
    s.coinStore l d =
      if (s.denoms.get d).enabled = true ∧ (s.denoms.get d).kind = .coin then
        (s.route .coin d (decide ((s.lanes.get l).binding = .floatIn))).getD .cashbox
      else .cashbox := by
  simp [State.coinStore, State.taken, State.floatHead]

theorem State.taken_iff (s : State) (k : Kind) (d : Slot) :
    s.taken k d = true ↔ (s.denoms.get d).enabled = true ∧ (s.denoms.get d).kind = k := by
  simp [State.taken]

/-- The credit of a coin keeps its store, its samples and its path. -/
theorem State.takeCoin_store (s : State) (l : Lane) (d : Slot) :
    (s.takeCoin l d).units = (s.storeCoin l d).units ∧ (s.takeCoin l d).boxes = (s.storeCoin l d).boxes ∧
      (s.takeCoin l d).counters = (s.storeCoin l d).counters ∧
      (s.takeCoin l d).coinPaths = (s.storeCoin l d).coinPaths := by
  rw [State.takeCoin_eq]
  split <;> simp

theorem State.storeCoin_findSale (s : State) (l : Lane) (d : Slot) (tag : Nat) :
    (s.storeCoin l d).findSale l tag = s.findSale l tag := by simp [State.findSale]

/-! What a taken coin does, by the head's binding (R35, R37, R144). -/

theorem State.takeCoin_taken {s : State} {l : Lane} {d : Slot} (h : s.taken .coin d = true) :
    s.takeCoin l d = (s.storeCoin l d).creditCoin l d := by rw [State.takeCoin_eq, if_pos h]

theorem State.takeCoin_sale {s : State} {l : Lane} {d : Slot} {tag : Nat} (h : s.taken .coin d = true)
    (binding : (s.lanes.get l).binding = .sale tag) :
    s.takeCoin l d = (s.storeCoin l d).creditSale l tag .coin (s.denoms.get d).value := by
  have : ((s.storeCoin l d).lanes.get l).binding = .sale tag := by simpa using binding
  rw [State.takeCoin_taken h, State.creditCoin, this]
  simp [State.slotValue]

theorem State.takeCoin_none {s : State} {l : Lane} {d : Slot} (h : s.taken .coin d = true)
    (binding : (s.lanes.get l).binding = .none) :
    s.takeCoin l d = (s.storeCoin l d).addStray l (s.denoms.get d).value := by
  have : ((s.storeCoin l d).lanes.get l).binding = .none := by simpa using binding
  rw [State.takeCoin_taken h, State.creditCoin, this]
  simp [State.slotValue]

theorem State.takeCoin_floatIn {s : State} {l : Lane} {d : Slot} (h : s.taken .coin d = true)
    (binding : (s.lanes.get l).binding = .floatIn) : s.takeCoin l d = (s.storeCoin l d).tallyPiece l d := by
  have : ((s.storeCoin l d).lanes.get l).binding = .floatIn := by simpa using binding
  rw [State.takeCoin_taken h, State.creditCoin, this]

/-- Settles O33: the coin is stored, then credited by the head's binding, each by its own lemmas. -/
theorem coinReport : Obligations.CoinReport := by
  unfold Obligations.CoinReport
  intro l d s running taken floatIn store v
  have hstore : store = s.coinStore l d := (s.coinStore_eq l d).symm
  have htaken : taken ↔ s.taken .coin d = true := (s.taken_iff .coin d).symm
  obtain ⟨units, boxes, counters, paths⟩ := s.takeCoin_store l d
  have rise {t : State} {w : Nat} (h : StrayRise (s.storeCoin l d) t l w) : StrayRise s t l w :=
    h.of_same (by simp) (s.storeCoin_events l d)
  clear_value store
  subst hstore
  refine ⟨s.takeCoin l d, ?_, by rw [paths]; simp, ?_, fun u hu => ?_, fun hu => ?_, fun not => ?_, fun is binding => ?_,
    fun is binding => ?_, fun is tag x binding found bound => ?_, ?_⟩
  · rw [exec_coinPieceReport running]
    cases s.coinStore l d <;> rfl
  · intro n
    rw [counters]
    exact s.storeCoin_saw l d n
  · rw [boxes, units]
    exact State.storeCoin_unit hu
  · rw [boxes, units]
    exact State.storeCoin_cashbox hu
  · rw [State.takeCoin_eq, if_neg (fun h => not (htaken.mpr h))]
    exact ⟨by simp, by simp, by simp, .zero (by simp) (s.storeCoin_events l d)⟩
  · rw [State.takeCoin_none (htaken.mp is) binding]
    refine ⟨by simp, by simp, rise (State.addStray_rise _ l v), fun bound => ?_⟩
    simpa using State.addStray_lanes (s := s.storeCoin l d) (by simpa using bound) v
  · rw [State.takeCoin_floatIn (htaken.mp is) binding]
    refine ⟨by simp, by simp, .zero (by simp) ?_, ?_⟩
    · simpa using s.storeCoin_events l d
    · simp [State.tallyPiece, PerLane.modify, Twelve.modify]
  · rw [State.takeCoin_sale (htaken.mp is) binding]
    have found' : (s.storeCoin l d).findSale l tag = some x := by rwa [State.storeCoin_findSale]
    obtain ⟨excess, fits⟩ := State.creditSale_rise found' .coin v bound
    have sum : x.tendered = x.coinValue + x.noteValue := rfl
    have taking : x.taking v = min v (999999 - x.tendered) := rfl
    refine ⟨x.raised .coin (x.taking v), State.creditSale_findSale found' .coin v, rfl, ?_, rfl, rfl, rfl, by simp,
      rise excess, fun h => by simpa using fits h⟩
    show x.coinValue + x.taking v + x.noteValue = _
    omega
  · simp

end Sys2Proof.Machine
end

section
/-! SUPPORT. The arbiters (R97 to R101, R105) and the drives (R114). -/

namespace Sys2Proof.Machine

-- One proof after the other: many short proofs at once take more threads than the check's memory limit has room for.
set_option Elab.async false

/-! ### Eligible jobs (R98) -/

/-- The top entry is not in transit, and its note has a route (R18, R42, R98). -/
theorem State.topRoute_isSome_iff (s : State) (l : Lane) :
    (s.topRoute l).isSome = true ↔ ∃ front n, (s.escrows.get l).entries = front ++ [n] ∧ n.inTransit = false ∧
      s.route .note n.slot (decide ((s.escrows.get l).owner = .floatIn)) ≠ none := by
  constructor
  · intro some
    rcases List.eq_nil_or_concat (s.escrows.get l).entries with nil | ⟨front, n, e⟩
    · simp [State.topRoute, nil] at some
    · refine ⟨front, n, by simpa using e, ?_⟩
      cases transit : n.inTransit <;> simp_all [State.topRoute, Option.isSome_iff_ne_none]
  · rintro ⟨front, n, e, transit, routed⟩
    simpa [State.topRoute, e, transit, Option.isSome_iff_ne_none] using routed

theorem State.destPaused_eq_false_iff (s : State) (x : Dest) :
    s.destPaused x = false ↔ (∀ l, x = .cup l → (s.lanes.get l).cup ≠ s.limits.cup) ∧
      ∀ l, x = .outlet l → (s.lanes.get l).outlet ≠ s.limits.outlet := by
  cases x <;> simp [State.destPaused, State.cupPaused, State.outletPaused]

theorem State.eligibleJob_iff (s : State) (j : Job) :
    s.eligibleJob j = true ↔ j.inFlight = false ∧ j.done < j.ordered ∧
      (∀ u, j.source = .unit u → (s.units.get u).state ≠ .jammed ∧
        (∀ l, j.dest = .cup l → (s.lanes.get l).cup ≠ s.limits.cup) ∧
        (∀ l, j.dest = .outlet l → (s.lanes.get l).outlet ≠ s.limits.outlet)) ∧
      (∀ l, j.source = .escrow l → ∃ front n, (s.escrows.get l).entries = front ++ [n] ∧ n.inTransit = false ∧
        s.route .note n.slot (decide ((s.escrows.get l).owner = .floatIn)) ≠ none) := by
  cases source : j.source with
  | unit u => simp [State.eligibleJob, source, s.destPaused_eq_false_iff, and_assoc]
  | escrow l => simp [State.eligibleJob, source, s.topRoute_isSome_iff, and_assoc]

theorem State.firstEligible_eq_none_iff (s : State) (k : Kind) (q : List Job) :
    s.firstEligible k q = none ↔ ∀ j ∈ q, j.source.kind = k → s.eligibleJob j = false := by
  simp [State.firstEligible]

theorem State.firstEligible_split {s : State} {k : Kind} {q : List Job} {j : Job} (h : s.firstEligible k q = some j) :
    ∃ front back, q = front ++ j :: back ∧ (∀ i ∈ front, i.source.kind = k → s.eligibleJob i = false) ∧
      j.source.kind = k ∧ s.eligibleJob j = true := by
  obtain ⟨test, front, back, e, before⟩ := List.find?_eq_some_iff_append.mp h
  simp only [Bool.and_eq_true, decide_eq_true_eq] at test
  refine ⟨front, back, e, fun i hi kind => ?_, test.1, test.2⟩
  simpa [kind] using before i hi

/-! ### What a grant does (R97) -/

/-- What a grant of `j` to the mechanism changes, with the turn state that follows and the lane left waiting. -/
structure Granted (k : Kind) (s t : State) (j : Job) (dest : Dest) (turn : Turn) (waits : Option Lane) : Prop where
  phase : (t.mechs.get k).phase =
    .ejecting { job := j.serial, source := j.source, dest := dest, attempt := 1, faultPending := false
                ends := s.now + Config.ejectTimeout k }
  powered : t.powered = s.powered
  turns : t.turns = s.turns.set k turn
  stores : SameStores s t
  sales : t.sales = s.sales
  plans : SamePlans s t
  lanes : t.lanes = s.lanes
  jobs : t.allJobs = s.allJobs.map fun i => if i.serial = j.serial then { i with inFlight := true } else i
  escrows : ∀ l, j.source ≠ .escrow l → t.escrows.get l = s.escrows.get l
  saw : Saw s t (waits.toList.map fun o => { kind := .turnWait, lane := .lane o, slots := none, value := 1 })

/-- The mechanism is driven for the job granted (R114). -/
theorem Granted.drive {k : Kind} {s t : State} {j : Job} {dest : Dest} {turn : Turn} {waits : Option Lane}
    (h : Granted k s t j dest turn waits) (powered : s.powered = true) : t.drive k = some (j.source, dest) := by
  simp [State.drive, h.powered, powered, h.phase]

theorem State.modJob_allJobs (s : State) (n : Nat) (f : Job → Job) :
    (s.modJob n f).allJobs = s.allJobs.map fun i => if i.serial = n then f i else i := by
  simp [State.modJob, State.allJobs, PerLane.map]

theorem PerKind.set_get {α : Type} (t : PerKind α) (k : Kind) : t.set k (t.get k) = t := by cases k <;> rfl

theorem State.startEjection_granted (s : State) (k : Kind) (j : Job) (dest : Dest) :
    Granted k s (s.startEjection k j dest) j dest (s.turns.get k) none where
  phase := by simp [State.startEjection]
  powered := by simp
  turns := by simp [PerKind.set_get]
  stores := by simp
  sales := by simp
  plans := by simp
  lanes := by simp
  jobs := s.modJob_allJobs j.serial _
  escrows := by simp
  saw := fun n => by simp

theorem State.grantLane_granted (s : State) (k : Kind) (l : Lane) (j : Job) (waits : Bool) :
    Granted k s (s.grantLane k l j waits) j j.dest (s.turnAfter k l) (if waits then some l.other else none) := by
  have start := s.startEjection_granted k j j.dest
  cases waits with
  | false =>
    exact { start with turns := by simp [State.grantLane, State.setTurn] }
  | true =>
    exact
      { phase := by simpa [State.grantLane, State.setTurn] using start.phase
        powered := by simp
        turns := by simp [State.grantLane, State.setTurn]
        stores := by simp
        sales := by simp
        plans := by simp
        lanes := by simp
        jobs := by simpa [State.grantLane, State.setTurn, State.allJobs] using start.jobs
        escrows := by simp
        saw := fun n => by simp [State.grantLane] }

theorem markTop_append (front : List EscrowEntry) (n : EscrowEntry) :
    markTop (front ++ [n]) = front ++ [{ n with inTransit := true }] := by
  induction front with
  | nil => rfl
  | cons e es ih => cases es <;> simp_all [markTop]

theorem State.grantStackDown_granted {s : State} {j : Job} {l : Lane} {route : Store} (source : j.source = .escrow l)
    (top : s.topRoute l = some route) :
    Granted .note s (s.grantStackDown j) j route.noteDest (s.turns.get .note) none := by
  have start := s.startEjection_granted .note j route.noteDest
  have eq : s.grantStackDown j =
      (s.startEjection .note j route.noteDest).modEscrow l fun e => { e with entries := markTop e.entries } := by
    rw [State.grantStackDown, source]
    simp only [top]
  rw [eq]
  exact { start with
    escrows := fun l' other => by
      have ne : l' ≠ l := fun e => other (e ▸ source)
      simp [PerLane.get_modify_other _ ne] }

theorem State.grantStackDown_escrow {s : State} {j : Job} {l : Lane} {route : Store} {front : List EscrowEntry}
    {n : EscrowEntry} (source : j.source = .escrow l) (top : s.topRoute l = some route)
    (entries : (s.escrows.get l).entries = front ++ [n]) :
    (s.grantStackDown j).escrows.get l =
      { s.escrows.get l with entries := front ++ [{ n with inTransit := true }] } := by
  simp [State.grantStackDown, source, top, entries, markTop_append]

/-! ### The decision (R97, R99, R101) -/

theorem State.arbitrate_idle {s : State} {k : Kind} (h : s.pfw = true ∨ (s.mechs.get k).phase ≠ .ready) :
    s.arbitrate k = s := by
  unfold State.arbitrate
  split
  · rfl
  next pfw =>
    split
    next ready => exact absurd ready (h.resolve_left pfw)
    all_goals rfl

theorem State.arbitrate_ready {s : State} {k : Kind} (pfw : s.pfw = false) (ready : (s.mechs.get k).phase = .ready) :
    s.arbitrate k = s.grantFirst k := by
  simp [State.arbitrate, pfw, ready]

theorem State.grantFirst_stack {s : State} {k : Kind} {j : Job} (h : s.firstEligible k s.stackJobs = some j) :
    s.grantFirst k = s.grantStackDown j := by
  rw [State.grantFirst, h]

theorem State.grantFirst_lane {s : State} {k : Kind} {l : Lane} {j : Job} (stack : s.firstEligible k s.stackJobs = none)
    (picked : s.pickLane k = some (l, j)) :
    s.grantFirst k = s.grantLane k l j (s.firstEligible k (s.laneJobs.get l.other)).isSome := by
  simp only [State.grantFirst, stack, picked]

theorem State.grantFirst_service {s : State} {k : Kind} {j : Job} (stack : s.firstEligible k s.stackJobs = none)
    (picked : s.pickLane k = none) (found : s.firstEligible k s.serviceJobs = some j) :
    s.grantFirst k = s.startEjection k j j.dest := by
  simp only [State.grantFirst, stack, picked, found]

theorem State.grantFirst_none {s : State} {k : Kind} (stack : s.firstEligible k s.stackJobs = none)
    (picked : s.pickLane k = none) (found : s.firstEligible k s.serviceJobs = none) : s.grantFirst k = s := by
  simp only [State.grantFirst, stack, picked, found]

/-- A grant to a lane, where nothing is to be stacked down. -/
theorem State.arbitrate_lane {s : State} {k : Kind} {l : Lane} {j : Job} (pfw : s.pfw = false)
    (ready : (s.mechs.get k).phase = .ready) (stack : s.firstEligible k s.stackJobs = none)
    (picked : s.pickLane k = some (l, j)) :
    Granted k s (s.arbitrate k) j j.dest (s.turnAfter k l)
      (if (s.firstEligible k (s.laneJobs.get l.other)).isSome then some l.other else none) := by
  rw [State.arbitrate_ready pfw ready, State.grantFirst_lane stack picked]
  exact s.grantLane_granted ..

/-! The turn state after a grant (R101). -/

theorem State.turnAfter_holder (s : State) (k : Kind) :
    s.turnAfter k (s.turns.get k).holder =
      if 0 < (s.turns.get k).allowance then
        { holder := (s.turns.get k).holder, allowance := (s.turns.get k).allowance - 1 }
      else
        { holder := (s.turns.get k).holder, allowance := (s.lanes.get (s.turns.get k).holder).weight - 1 } := by
  simp [State.turnAfter]

theorem State.turnAfter_other (s : State) (k : Kind) :
    s.turnAfter k (s.turns.get k).holder.other =
      { holder := (s.turns.get k).holder.other
        allowance := (s.lanes.get (s.turns.get k).holder.other).weight - 1 } := by
  simp [State.turnAfter]

/-! ### The drives -/

theorem State.drive_isSome_iff (s : State) (k : Kind) :
    (s.drive k).isSome = true ↔ s.powered = true ∧ ∃ e, (s.mechs.get k).phase = .ejecting e := by
  unfold State.drive
  cases s.powered <;> cases (s.mechs.get k).phase <;> simp

theorem State.drive_ejecting {s : State} {k : Kind} {e : Ejection} (powered : s.powered = true)
    (phase : (s.mechs.get k).phase = .ejecting e) : s.drive k = some (e.source, e.dest) := by
  simp [State.drive, powered, phase]

/-- Settles O48: the decision by the class and the turn, eligibility by R98, the closing and the drives by their
definitions. -/
theorem arbitration : Obligations.Arbitration := by
  unfold Obligations.Arbitration
  refine ⟨fun k s => ?_, fun k q j s found => ?_, fun k q s => ⟨s.firstEligible_eq_none_iff k q, s.eligibleJob_iff⟩,
    fun fall left stored s => ⟨?_, ?_, ?_⟩, fun s => ⟨s.drive_isSome_iff .coin, s.drive_isSome_iff .note, ?_, ?_⟩⟩
  · intro h w mine others grants
    have effects (j dest turn waits) (g : Granted k s (s.arbitrate k) j dest turn waits) : grants j dest turn waits := by
      refine ⟨?_, g.drive, g.turns, g.stores, g.sales, g.plans, g.lanes, g.jobs, g.escrows, ?_⟩
      · rw [g.phase]
        cases k <;> rfl
      · have saw := g.saw
        cases waits <;> exact saw
    refine ⟨State.arbitrate_idle, fun pfw ready => ⟨fun j l rt found source top => ?_, fun stack =>
      ⟨fun j hm ho => ?_, fun j hm ho => ?_, fun i j hm ho hw => ?_, fun i j hm ho hw => ?_, fun hm ho => ⟨fun j found => ?_, fun found => ?_⟩⟩⟩⟩
    · have grant : s.arbitrate k = s.grantStackDown j := by
        rw [State.arbitrate_ready pfw ready, State.grantFirst_stack found]
      obtain ⟨-, -, -, -, kind, -⟩ := State.firstEligible_split found
      obtain rfl : k = .note := by rw [← kind, source]; rfl
      refine ⟨effects j rt.noteDest (s.turns.get .note) none ?_, fun front n entries => ?_⟩
      · rw [grant]
        exact State.grantStackDown_granted source top
      · rw [grant]
        exact State.grantStackDown_escrow source top entries
    · have picked : s.pickLane k = some (h, j) := by simp [State.pickLane, hm, ho, mine, others, h]
      refine effects j j.dest _ none ?_
      simpa [State.turnAfter_holder, ho, h, w, others] using State.arbitrate_lane pfw ready stack picked
    · have picked : s.pickLane k = some (h.other, j) := by simp [State.pickLane, hm, ho, mine, others, h]
      refine effects j j.dest _ none ?_
      simpa [State.turnAfter_other, hm, h, mine] using State.arbitrate_lane pfw ready stack picked
    · have picked : s.pickLane k = some (h, i) := by simp [State.pickLane, hm, ho, hw, mine, others, h, w]
      refine effects i i.dest _ (some h.other) ?_
      simpa [State.turnAfter_holder, ho, hw, h, w, others] using State.arbitrate_lane pfw ready stack picked
    · have picked : s.pickLane k = some (h.other, j) := by simp [State.pickLane, hm, ho, hw, mine, others, h, w]
      refine effects j j.dest _ (some h) ?_
      simpa [State.turnAfter_other, hm, h, mine] using State.arbitrate_lane pfw ready stack picked
    · have picked : s.pickLane k = none := by simp [State.pickLane, hm, ho, mine, others, h]
      refine effects j j.dest (s.turns.get k) none ?_
      rw [State.arbitrate_ready pfw ready, State.grantFirst_service stack picked found]
      exact s.startEjection_granted k j j.dest
    · have picked : s.pickLane k = none := by simp [State.pickLane, hm, ho, mine, others, h]
      rw [State.arbitrate_ready pfw ready, State.grantFirst_none stack picked found]
  · obtain ⟨front, back, e, before, kind, eligible⟩ := State.firstEligible_split found
    obtain ⟨flight, undone, unit, escrow⟩ := (s.eligibleJob_iff j).mp eligible
    exact ⟨front, back, e, before, kind, flight, undone, unit, escrow⟩
  · rintro rfl
    rfl
  · rintro rfl
    simp [State.conclude]
  · simp [State.settleEvent, State.flush]
  · intro powered e phase
    have drive := State.drive_ejecting (k := .coin) powered phase
    exact ⟨by simp [State.diverter, drive], fun u source => by simp [State.tubeSelect, drive, source]⟩
  · intro powered e phase
    have drive := State.drive_ejecting (k := .note) powered phase
    exact ⟨by simp [State.transportSource, drive], by simp [State.transportDest, drive]⟩

end Sys2Proof.Machine
end

section
/-! SUPPORT. The warm reset (R120, R159 to R161). -/

namespace Sys2Proof.Machine

-- One proof after the other: many short proofs at once take more threads than the check's memory limit has room for.
set_option Elab.async false

/-! ### Records that join the dirty set (R154) -/

/-- A record joins a sorted dirty set where it is not in it; a member keeps its joining time (R154). -/
theorem mem_insertDirty_iff {ds : List (RecordNo × Nat)} (law : dirtyLaw ds) (r q : RecordNo) (n since : Nat) :
    (q, since) ∈ insertDirty r n ds ↔ (q, since) ∈ ds ∨ since = n ∧ (∀ old, (q, old) ∉ ds) ∧ q = r := by
  induction ds with
  | nil => simp [insertDirty, and_comm]
  | cons d ds ih =>
    obtain ⟨before, tail⟩ := List.pairwise_cons.mp (show List.Pairwise _ (d.1.val :: ds.map fun e => e.1.val) from law)
    have head (e) (he : e ∈ ds) : d.1.val < e.1.val := before _ (List.mem_map_of_mem he)
    have absent : (∀ e ∈ d :: ds, r.val < e.1.val) → ∀ old, (r, old) ∉ d :: ds :=
      fun below old mem => absurd (below _ mem) (lt_irrefl _)
    simp only [insertDirty]
    split
    next below =>
      have below' : ∀ old, (r, old) ∉ d :: ds := absent fun e he => by
        rcases List.mem_cons.mp he with rfl | he
        · exact below
        · exact below.trans (head e he)
      constructor
      · intro mem
        rcases List.mem_cons.mp mem with e | mem
        · cases e
          exact .inr ⟨rfl, below', rfl⟩
        · exact .inl mem
      · rintro (mem | ⟨rfl, -, rfl⟩)
        · exact List.mem_cons_of_mem _ mem
        · exact List.mem_cons_self
    · split
      next same =>
        refine ⟨.inl, ?_⟩
        rintro (mem | ⟨-, none, rfl⟩)
        · exact mem
        · exact absurd List.mem_cons_self (none d.2 |> fun h => by
            rwa [show (q, d.2) = d from Prod.ext (Fin.ext same) rfl] at h)
      next below same =>
        have ne : ∀ old, (r, old) ≠ d := fun old e => same (congrArg (fun x => x.1.val) e)
        rw [List.mem_cons, ih tail, List.mem_cons, or_assoc]
        refine or_congr_right (or_congr_right (and_congr_right fun _ => ⟨?_, ?_⟩))
        · rintro ⟨none, rfl⟩
          exact ⟨fun old => by simp [ne old, none old], rfl⟩
        · rintro ⟨none, rfl⟩
          exact ⟨fun old mem => none old (List.mem_cons_of_mem _ mem), rfl⟩

/-- The records that a change brings into the dirty set, at the time of the event. -/
structure Joins (s t : State) (joins : RecordNo → Prop) : Prop where
  clock : t.now = s.now
  law : dirtyLaw s.dirty → dirtyLaw t.dirty
  dirty : dirtyLaw s.dirty → ∀ (r : RecordNo) (since : Nat), (r, since) ∈ t.dirty ↔
    (r, since) ∈ s.dirty ∨ since = s.now ∧ (∀ old, (r, old) ∉ s.dirty) ∧ joins r

theorem Joins.none {s t : State} (clock : t.now = s.now) (dirty : t.dirty = s.dirty) : Joins s t fun _ => False where
  clock := clock
  law h := dirty ▸ h
  dirty _ r since := by simp [dirty]

theorem Joins.markDirty (s : State) (r : RecordNo) : Joins s (s.markDirty r) (· = r) where
  clock := rfl
  law := dirtyLaw_insertDirty r s.now
  dirty law q since := mem_insertDirty_iff law r q s.now since

theorem Joins.iff {s t : State} {P Q : RecordNo → Prop} (h : Joins s t P) (same : ∀ r, P r ↔ Q r) : Joins s t Q :=
  (funext fun r => propext (same r) : P = Q) ▸ h

theorem Joins.trans {s t u : State} {P Q : RecordNo → Prop} (h : Joins s t P) (k : Joins t u Q) :
    Joins s u fun r => P r ∨ Q r where
  clock := k.clock.trans h.clock
  law := k.law ∘ h.law
  dirty law r since := by
    rw [k.dirty (h.law law), h.dirty law, h.clock]
    have absent : (∀ old, (r, old) ∉ t.dirty) ↔ (∀ old, (r, old) ∉ s.dirty) ∧ ¬ ((∀ old, (r, old) ∉ s.dirty) ∧ P r) := by
      simp only [h.dirty law]
      constructor
      · exact fun no => ⟨fun old mem => no old (.inl mem), fun joined => no s.now (.inr ⟨rfl, joined⟩)⟩
      · rintro ⟨no, still⟩ old (mem | ⟨-, joined⟩)
        · exact no old mem
        · exact still joined
    rw [absent]
    tauto

/-- Joining starts from any state with the same clock and the same dirty set. -/
theorem Joins.of_same {s s' t : State} {P : RecordNo → Prop} (h : Joins s' t P) (clock : s'.now = s.now)
    (dirty : s'.dirty = s.dirty) : Joins s t P where
  clock := h.clock.trans clock
  law := dirty ▸ h.law
  dirty := by simpa [dirty, clock] using h.dirty

theorem Joins.to_same {s t t' : State} {P : RecordNo → Prop} (h : Joins s t P) (clock : t'.now = t.now)
    (dirty : t'.dirty = t.dirty) : Joins s t' P where
  clock := clock.trans h.clock
  law := dirty ▸ h.law
  dirty := by simpa [dirty] using h.dirty

/-! ### Ejections stopped (R120) -/

/-- The unit of an ejection: its source, or the drum that a stack-down is bound for (R120). -/
def Ejection.unit (e : Ejection) : Option UnitId :=
  match e.source, e.dest with
  | .unit u, _ => some u
  | .escrow _, .drum d => some d.unit
  | .escrow _, _ => none

/-- The unit of the ejection in flight at a mechanism. -/
def State.FlightAt (s : State) (k : Kind) (u : UnitId) : Prop :=
  ∃ e, (s.mechs.get k).phase = .ejecting e ∧ e.unit = some u

theorem State.unitInFlight_iff (s : State) (u : UnitId) :
    s.UnitInFlight u ↔ s.FlightAt .coin u ∨ s.FlightAt .note u := by
  have unit (e : Ejection) : e.unit = some u ↔
      e.source = .unit u ∨ ∃ l d, e.source = .escrow l ∧ e.dest = .drum d ∧ d.unit = u := by
    obtain ⟨job, source, dest, attempt, pending, ends⟩ := e
    cases source <;> cases dest <;> simp [Ejection.unit]
  simp only [State.UnitInFlight, State.FlightAt, unit]
  constructor
  · rintro ⟨k, h⟩
    cases k
    · exact .inl h
    · exact .inr h
  · rintro (h | h)
    · exact ⟨_, h⟩
    · exact ⟨_, h⟩

/-- A unit whose piece was in flight: UNCERTAIN, but for an ABSENT one (R9, R120). -/
def UnitRec.stopped (r : UnitRec) : UnitRec := if r.state = .absent then r else { r with state := .uncertain }

theorem State.makeUncertain_get (s : State) (u v : UnitId) :
    (s.makeUncertain u).units.get v = if v = u then (s.units.get v).stopped else s.units.get v := by
  by_cases absent : (s.units.get u).state = .absent
  · by_cases e : v = u
    · subst e
      simp [State.makeUncertain, UnitRec.stopped, absent]
    · simp [State.makeUncertain, absent, e]
  · by_cases e : v = u
    · subst e
      simp [State.makeUncertain, UnitRec.stopped, absent, State.setUnitState]
    · simp [State.makeUncertain, absent, e, State.setUnitState, Twelve.get_modify]

theorem Joins.makeUncertain (s : State) (u : UnitId) :
    Joins s (s.makeUncertain u) fun r => r = recUnit u ∧ (s.units.get u).state ≠ .absent := by
  unfold State.makeUncertain
  split
  next absent => exact (Joins.none rfl rfl).iff fun r => by simp [absent]
  next present =>
    have joins : Joins s (s.setUnitState u .uncertain) (· = recUnit u) :=
      (Joins.markDirty (s.modUnit u fun r => { r with state := .uncertain }) (recUnit u)).of_same rfl rfl
    exact joins.iff fun r => by simp [present]

/-- What the end of an ejection leaves of units, dirty set, stacks as they come out of a restart, and mechanisms. -/
structure Ended (k : Kind) (s t : State) : Prop where
  units : t.units = s.units
  dirty : t.dirty = s.dirty
  clock : t.now = s.now
  escrow : ∀ l, ∃ es, t.escrows.get l = { s.escrows.get l with entries := es } ∧
    es.map EscrowEntry.restarted = (s.escrows.get l).entries.map EscrowEntry.restarted
  sense : ∀ m, (t.mechs.get m).sense = (s.mechs.get m).sense
  other : ∀ m, m ≠ k → t.mechs.get m = s.mechs.get m

theorem Ended.refl (k : Kind) (s : State) : Ended k s s :=
  ⟨rfl, rfl, rfl, fun _ => ⟨_, rfl, rfl⟩, fun _ => rfl, fun _ _ => rfl⟩

theorem Ended.endEjection (s : State) (k : Kind) (e : Ejection) (x : Phase) : Ended k s (s.endEjection k e x) := by
  refine ⟨by simp, by simp, by simp, fun l => ⟨(s.escrows.get l).entries, by simp, rfl⟩, fun m => ?_, fun m ne => ?_⟩
  · by_cases e : m = k
    · subst e
      simp [State.endEjection, State.landJob, State.setPhase]
    · simp [State.endEjection, State.landJob, State.setPhase, PerKind.get_modify_other _ e]
  · simp [State.endEjection, State.landJob, State.setPhase, PerKind.get_modify_other _ ne]

theorem Ended.clearTransit {k : Kind} {s t : State} (h : Ended k s t) (m : Lane) : Ended k s (t.clearTransit m) where
  units := by simp [h.units]
  dirty := by simp [h.dirty]
  clock := by simp [h.clock]
  escrow l := by
    obtain ⟨es, e, same⟩ := h.escrow l
    by_cases ne : l = m
    · subst ne
      exact ⟨es.map fun n => { n with inTransit := false }, by simp [State.clearTransit, e],
        by rw [List.map_map]; exact same⟩
    · exact ⟨es, by simp [State.clearTransit, PerLane.get_modify_other _ ne, e], same⟩
  sense m := by simp [h.sense]
  other m ne := by simp [h.other m ne]

/-- The ejection at a mechanism ends; then its unit, if it has one, becomes UNCERTAIN. -/
theorem State.stopEjection_cases (s : State) (k : Kind) : ∃ t : State, Ended k s t ∧
    ((∀ u, ¬ s.FlightAt k u) ∧ s.stopEjection k = t ∨
      ∃ u, (∀ v, s.FlightAt k v ↔ v = u) ∧ s.stopEjection k = t.makeUncertain u) := by
  cases phase : (s.mechs.get k).phase with
  | ready => exact ⟨s, .refl k s, .inl ⟨by simp [State.FlightAt, phase], by simp [State.stopEjection, State.ejection, phase]⟩⟩
  | fault c => exact ⟨s, .refl k s, .inl ⟨by simp [State.FlightAt, phase], by simp [State.stopEjection, State.ejection, phase]⟩⟩
  | ejecting e =>
    have flight (v) : s.FlightAt k v ↔ e.unit = some v := by simp [State.FlightAt, phase]
    simp only [flight, State.stopEjection, State.ejection, phase, Ejection.unit]
    cases e.source with
    | unit u => exact ⟨s.endEjection k e .ready, .endEjection .., .inr ⟨u, by simp [eq_comm], rfl⟩⟩
    | escrow l =>
      refine ⟨(s.endEjection k e .ready).clearTransit l, (Ended.endEjection ..).clearTransit l, ?_⟩
      cases e.dest with
      | drum d => exact .inr ⟨d.unit, by simp [eq_comm], rfl⟩
      | _ => exact .inl ⟨by simp, rfl⟩

theorem State.stopEjection_get (s : State) (k : Kind) (u : UnitId) [Decidable (s.FlightAt k u)] :
    (s.stopEjection k).units.get u = if s.FlightAt k u then (s.units.get u).stopped else s.units.get u := by
  obtain ⟨t, ended, ⟨none, e⟩ | ⟨v, flight, e⟩⟩ := s.stopEjection_cases k
  · rw [e, ended.units, if_neg (none u)]
  · rw [e, State.makeUncertain_get, ended.units]
    simp only [flight]

theorem Joins.stopEjection (s : State) (k : Kind) :
    Joins s (s.stopEjection k) fun r => ∃ u, r = recUnit u ∧ s.FlightAt k u ∧ (s.units.get u).state ≠ .absent := by
  obtain ⟨t, ended, ⟨none, e⟩ | ⟨v, flight, e⟩⟩ := s.stopEjection_cases k
  · rw [e]
    exact (Joins.none ended.clock ended.dirty).iff fun r => by simp [none]
  · rw [e]
    exact ((Joins.makeUncertain t v).of_same ended.clock ended.dirty).iff fun r => by simp [flight, ended.units]

/-- Stacks and mechanisms after an ejection is stopped. -/
theorem State.stopEjection_parts (s : State) (k : Kind) :
    (∀ l, ∃ es, (s.stopEjection k).escrows.get l = { s.escrows.get l with entries := es } ∧
      es.map EscrowEntry.restarted = (s.escrows.get l).entries.map EscrowEntry.restarted) ∧
      (∀ m, ((s.stopEjection k).mechs.get m).sense = (s.mechs.get m).sense) ∧
      ∀ m, m ≠ k → (s.stopEjection k).mechs.get m = s.mechs.get m := by
  obtain ⟨t, ended, ⟨-, e⟩ | ⟨v, -, e⟩⟩ := s.stopEjection_cases k
  · rw [e]
    exact ⟨ended.escrow, ended.sense, ended.other⟩
  · rw [e]
    exact ⟨by simpa using ended.escrow, by simpa using ended.sense, by simpa using ended.other⟩

/-! ### Units and stacks at a reset (R12, R39, R160) -/

/-- A unit at a warm reset: nothing committed, LOCK_PENDING becomes LOCKED (R12, R160). -/
def UnitRec.reset (r : UnitRec) : UnitRec :=
  { r with committed := 0, state := if r.state = .lockPending then .locked else r.state }

theorem State.resetUnit_get (s : State) (u v : UnitId) :
    (s.resetUnit u).units.get v = if v = u then (s.units.get v).reset else s.units.get v := by
  by_cases pending : (s.units.get u).state = .lockPending
  · by_cases e : v = u
    · subst e
      simp [State.resetUnit, State.lockIfDone, State.setUnitState, UnitRec.reset, pending]
    · simp [State.resetUnit, State.lockIfDone, State.setUnitState, Twelve.get_modify, pending, e]
  · by_cases e : v = u
    · subst e
      simp [State.resetUnit, State.lockIfDone, UnitRec.reset, pending]
    · simp [State.resetUnit, State.lockIfDone, Twelve.get_modify, pending, e]

theorem UnitRec.reset_state_ne (r : UnitRec) : r.reset.state ≠ .lockPending := by
  unfold UnitRec.reset
  split <;> simp_all

theorem UnitRec.reset_reset (r : UnitRec) : r.reset.reset = r.reset := by
  have := r.reset_state_ne
  simp_all [UnitRec.reset]

theorem foldl_resetUnit_get (us : List UnitId) (s : State) (v : UnitId) :
    (us.foldl State.resetUnit s).units.get v = if v ∈ us then (s.units.get v).reset else s.units.get v := by
  induction us generalizing s with
  | nil => simp
  | cons u us ih =>
    rw [List.foldl_cons, ih, State.resetUnit_get]
    by_cases e : v = u <;> simp [e, UnitRec.reset_reset]

theorem State.resetUnits_get (s : State) (v : UnitId) : s.resetUnits.units.get v = (s.units.get v).reset := by
  rw [State.resetUnits, foldl_resetUnit_get, if_pos (mem_allUnits v)]

theorem Joins.resetUnit (s : State) (u : UnitId) :
    Joins s (s.resetUnit u) fun r => r = recUnit u ∧ (s.units.get u).state = .lockPending := by
  by_cases pending : (s.units.get u).state = .lockPending
  · have joins : Joins s (s.resetUnit u) (· = recUnit u) := by
      have eq : s.resetUnit u = ((s.modUnit u fun r => { r with committed := 0 }).modUnit u fun r =>
          { r with state := .locked }).markDirty (recUnit u) := by
        simp [State.resetUnit, State.lockIfDone, State.setUnitState, pending]
      rw [eq]
      exact (Joins.markDirty _ (recUnit u)).of_same rfl rfl
    exact joins.iff fun r => by simp [pending]
  · refine (Joins.none ?_ ?_).iff fun r => by simp [pending]
    · simp
    · simp [State.resetUnit, State.lockIfDone, pending]

theorem Joins.foldl_resetUnit (us : List UnitId) (s : State) :
    Joins s (us.foldl State.resetUnit s) fun r => ∃ u ∈ us, r = recUnit u ∧ (s.units.get u).state = .lockPending := by
  induction us generalizing s with
  | nil => exact (Joins.none rfl rfl).iff fun r => by simp
  | cons u us ih =>
    refine ((Joins.resetUnit s u).trans (ih (s.resetUnit u))).iff fun r => ?_
    simp only [List.mem_cons, exists_eq_or_imp]
    refine ⟨?_, ?_⟩
    · rintro (h | ⟨v, hv, rfl, pending⟩)
      · exact .inl h
      · rw [State.resetUnit_get] at pending
        split at pending
        · exact absurd pending (UnitRec.reset_state_ne _)
        · exact .inr ⟨v, hv, rfl, pending⟩
    · rintro (h | ⟨v, hv, rfl, pending⟩)
      · exact .inl h
      · by_cases e : v = u
        · subst e
          exact .inl ⟨rfl, pending⟩
        · exact .inr ⟨v, hv, rfl, by rwa [State.resetUnit_get, if_neg e]⟩

theorem Joins.resetUnits (s : State) :
    Joins s s.resetUnits fun r => ∃ u, r = recUnit u ∧ (s.units.get u).state = .lockPending :=
  (Joins.foldl_resetUnit allUnits s).iff fun r => by simp

/-- A stack after a warm reset (R39, R160). -/
def Escrow.reset (e : Escrow) : Escrow :=
  { e with entries := e.entries.map EscrowEntry.restarted, owner := e.restartOwner, status := .idle }

theorem State.resetEscrow_get (s : State) (l m : Lane) :
    (s.resetEscrow l).escrows.get m = if m = l then (s.escrows.get m).reset else s.escrows.get m := by
  by_cases e : m = l
  · subst e
    simp [State.resetEscrow, State.setOwner, Escrow.reset]
  · simp [State.resetEscrow, State.setOwner, PerLane.get_modify_other _ e, e]

theorem Joins.resetEscrow (s : State) (l : Lane) :
    Joins s (s.resetEscrow l) fun r => r = recEscrow l ∧ (s.escrows.get l).owner ≠ (s.escrows.get l).restartOwner := by
  by_cases same : (s.escrows.get l).owner = (s.escrows.get l).restartOwner
  · refine (Joins.none ?_ ?_).iff fun r => by simp [same]
    · simp
    · simp [State.resetEscrow, State.setOwner, State.markIf, same]
  · have joins : Joins s (s.resetEscrow l) (· = recEscrow l) := by
      have eq : s.resetEscrow l =
          ((s.modEscrow l fun e => { e with owner := (s.escrows.get l).restartOwner }).markDirty (recEscrow l)).modEscrow l
            fun e => { e with entries := e.entries.map EscrowEntry.restarted, status := .idle } := by
        simp [State.resetEscrow, State.setOwner, State.markIf, same]
      rw [eq]
      exact ((Joins.markDirty _ (recEscrow l)).of_same rfl rfl).to_same rfl rfl
    exact joins.iff fun r => by simp [same]

/-! ### Both ejections stopped, and the whole reset -/

theorem UnitRec.stopped_stopped (r : UnitRec) : r.stopped.stopped = r.stopped := by
  by_cases absent : r.state = .absent <;> simp [UnitRec.stopped, absent]

theorem UnitRec.stopped_absent_iff (r : UnitRec) : r.stopped.state = .absent ↔ r.state = .absent := by
  by_cases absent : r.state = .absent <;> simp [UnitRec.stopped, absent]

/-- The ejection of the note mechanism is not touched by the stop of the coin mechanism's. -/
theorem State.flightAt_stopEjection (s : State) (u : UnitId) :
    (s.stopEjection .coin).FlightAt .note u ↔ s.FlightAt .note u := by
  obtain ⟨-, -, other⟩ := s.stopEjection_parts .coin
  simp [State.FlightAt, other .note (by decide)]

theorem State.stopEjections_flight {s : State} {u : UnitId} (h : s.UnitInFlight u) :
    s.stopEjections.units.get u = (s.units.get u).stopped := by
  classical
  rw [State.unitInFlight_iff] at h
  simp only [State.stopEjections, State.stopEjection_get, State.flightAt_stopEjection]
  by_cases coin : s.FlightAt .coin u <;> by_cases note : s.FlightAt .note u <;>
    simp_all [UnitRec.stopped_stopped]

theorem State.stopEjections_still {s : State} {u : UnitId} (h : ¬ s.UnitInFlight u) :
    s.stopEjections.units.get u = s.units.get u := by
  classical
  rw [State.unitInFlight_iff, not_or] at h
  obtain ⟨coin, note⟩ := h
  simp only [State.stopEjections, State.stopEjection_get, State.flightAt_stopEjection, if_neg coin, if_neg note]

theorem Joins.stopEjections (s : State) :
    Joins s s.stopEjections fun r => ∃ u, r = recUnit u ∧ s.UnitInFlight u ∧ (s.units.get u).state ≠ .absent := by
  classical
  refine ((Joins.stopEjection s .coin).trans (Joins.stopEjection (s.stopEjection .coin) .note)).iff fun r => ?_
  have absent (u : UnitId) : ((s.stopEjection .coin).units.get u).state = .absent ↔ (s.units.get u).state = .absent := by
    rw [State.stopEjection_get]
    split
    · exact UnitRec.stopped_absent_iff _
    · exact Iff.rfl
  simp only [State.flightAt_stopEjection, ne_eq, absent, State.unitInFlight_iff, ← exists_or]
  exact exists_congr fun u => by tauto

theorem State.stopEjections_parts (s : State) :
    (∀ l, ∃ es, s.stopEjections.escrows.get l = { s.escrows.get l with entries := es } ∧
      es.map EscrowEntry.restarted = (s.escrows.get l).entries.map EscrowEntry.restarted) ∧
      ∀ m, (s.stopEjections.mechs.get m).sense = (s.mechs.get m).sense := by
  obtain ⟨escrow, sense, -⟩ := s.stopEjection_parts .coin
  obtain ⟨escrow', sense', -⟩ := (s.stopEjection .coin).stopEjection_parts .note
  refine ⟨fun l => ?_, fun m => (sense' m).trans (sense m)⟩
  obtain ⟨es, e, same⟩ := escrow l
  obtain ⟨es', e', same'⟩ := escrow' l
  refine ⟨es', ?_, ?_⟩
  · rw [State.stopEjections, e', e]
  · rw [same', e, same]

/-- A stack after a reset does not depend on what was in transit. -/
theorem Escrow.reset_congr (x : Escrow) {es : List EscrowEntry}
    (same : es.map EscrowEntry.restarted = x.entries.map EscrowEntry.restarted) :
    { x with entries := es }.reset = x.reset ∧ { x with entries := es }.restartOwner = x.restartOwner := by
  have empty : es.isEmpty = x.entries.isEmpty := by
    have := congrArg List.isEmpty same
    simpa using this
  simp [Escrow.reset, Escrow.restartOwner, same, empty]

/-- The units and the stacks of a warm reset. -/
def State.resetStores (s : State) : State := ((s.stopEjections.resetUnits).resetEscrow .a).resetEscrow .b

theorem State.warmReset_eq (s : State) (cause : RestartCause) :
    s.warmReset cause = (s.resetStores.clearRun cause).flush := rfl

@[simp] theorem State.resetStores_keeps (s : State) :
    SameQueue s s.resetStores ∧ SameClock s s.resetStores ∧ SameSupply s s.resetStores ∧
      SameConfig s s.resetStores ∧ s.resetStores.boxes = s.boxes ∧ s.resetStores.lanes = s.lanes ∧
      s.resetStores.nextJob = s.nextJob ∧ SameService s s.resetStores ∧ SameLinks s s.resetStores ∧
      SameEvents s s.resetStores ∧ s.resetStores.writer = s.writer ∧ s.resetStores.scan = s.scan ∧
      s.resetStores.store = s.store ∧ SamePaths s s.resetStores := by
  simp [State.resetStores]

theorem State.resetStores_get (s : State) (u : UnitId) :
    s.resetStores.units.get u = (s.stopEjections.units.get u).reset := by
  simp [State.resetStores, State.resetUnits_get]

theorem State.resetStores_escrow (s : State) (l : Lane) : s.resetStores.escrows.get l = (s.escrows.get l).reset := by
  obtain ⟨escrow, -⟩ := s.stopEjections_parts
  obtain ⟨es, e, same⟩ := escrow l
  have : s.resetStores.escrows.get l = (s.stopEjections.escrows.get l).reset := by
    cases l <;> simp [State.resetStores, State.resetEscrow_get]
  rw [this, e, (Escrow.reset_congr _ same).1]

theorem Joins.resetStores (s : State) : Joins s s.resetStores fun r =>
    (∃ u, r = recUnit u ∧
      (s.UnitInFlight u ∧ (s.units.get u).state ≠ .absent ∨ (s.units.get u).state = .lockPending)) ∨
    ∃ l, r = recEscrow l ∧ (s.escrows.get l).owner ≠ (s.escrows.get l).restartOwner := by
  classical
  refine (((Joins.stopEjections s).trans (.resetUnits _)).trans ((Joins.resetEscrow _ .a).trans
    (.resetEscrow _ .b))).iff fun r => ?_
  refine or_congr ?_ ?_
  · rw [← exists_or]
    refine exists_congr fun u => ?_
    by_cases flight : s.UnitInFlight u
    · rw [State.stopEjections_flight flight]
      by_cases absent : (s.units.get u).state = .absent <;> simp [UnitRec.stopped, absent, flight]
    · rw [State.stopEjections_still flight]
      simp [flight]
  · have owner (l : Lane) (t : State) (h : t.escrows.get l = s.stopEjections.escrows.get l) :
        ((t.escrows.get l).owner ≠ (t.escrows.get l).restartOwner ↔
          (s.escrows.get l).owner ≠ (s.escrows.get l).restartOwner) := by
      obtain ⟨escrow, -⟩ := s.stopEjections_parts
      obtain ⟨es, e, same⟩ := escrow l
      rw [h, e, (Escrow.reset_congr _ same).2]
    rw [owner .a _ (by simp), owner .b _ (by simp [State.resetEscrow_get])]
    constructor
    · rintro (h | h)
      · exact ⟨.a, h⟩
      · exact ⟨.b, h⟩
    · rintro ⟨l, h⟩
      cases l
      · exact .inl h
      · exact .inr h

theorem Escrow.restartOwner_eq (e : Escrow) : e.restartOwner = if e.entries = [] then .none else .orphan := by
  simp [Escrow.restartOwner]

theorem Transfer.restarted_eq (x : Transfer) :
    x.restarted = { x with ended := if x.ended = .running then .restart else x.ended } := by
  unfold Transfer.restarted
  split <;> rfl

theorem exec_resetLine {s : State} (h : s.Running) : exec .resetLine s = .next (s.warmReset .resetLine) := by
  have : exec .resetLine s = execResetLine s := rfl
  rw [this, execResetLine, State.firstEvent_running h, takeResetLine, State.whenPowered, if_pos h.1]

/-- A unit after a warm reset, by the ejection in flight and its state before. -/
theorem State.resetStores_unit (s : State) (u : UnitId) :
    (s.resetStores.units.get u).settings = (s.units.get u).settings ∧
      (s.resetStores.units.get u).count = (s.units.get u).count ∧ (s.resetStores.units.get u).committed = 0 ∧
      (s.resetStores.units.get u).state ≠ .lockPending ∧
      (s.UnitInFlight u → (s.units.get u).state ≠ .absent → (s.resetStores.units.get u).state = .uncertain) ∧
      (¬ s.UnitInFlight u → (s.resetStores.units.get u).state =
        (if (s.units.get u).state = .lockPending then .locked else (s.units.get u).state)) := by
  rw [State.resetStores_get]
  have never := (s.stopEjections.units.get u).reset_state_ne
  by_cases flight : s.UnitInFlight u
  · rw [State.stopEjections_flight flight] at never ⊢
    by_cases absent : (s.units.get u).state = .absent
    · simp_all [UnitRec.stopped, UnitRec.reset, UnitRec.settings]
    · simp_all [UnitRec.stopped, UnitRec.reset, UnitRec.settings]
  · rw [State.stopEjections_still flight] at never ⊢
    exact ⟨rfl, rfl, rfl, never, fun h => absurd h flight, fun _ => rfl⟩

@[simp] theorem State.clearRun_stores (s : State) (cause : RestartCause) :
    (s.clearRun cause).units = s.units ∧ (s.clearRun cause).escrows = s.escrows ∧
      (s.clearRun cause).dirty = s.dirty := ⟨rfl, rfl, rfl⟩

/-- Settles O51: the reset is `resetStores`, then `clearRun`, then the closing flush. -/
theorem warmReset : Obligations.WarmReset := by
  unfold Obligations.WarmReset
  refine ⟨fun s h => exec_resetLine h, fun cause s powered => ⟨s.resetStores.clearRun cause, rfl, ?_⟩⟩
  obtain ⟨-, sense⟩ := s.stopEjections_parts
  have joins := Joins.resetStores s
  refine ⟨by simp [State.clearRun], by simp [State.clearRun], by simp [State.clearRun], by simp [State.clearRun],
    by simp [State.clearRun], by simp [State.clearRun], by simp [State.clearRun], by simp [State.clearRun],
    by simp [State.clearRun], by simp [State.clearRun, powered], by simp [State.clearRun], by simp [State.clearRun],
    by simp [State.clearRun], by simp [State.clearRun], by simp [State.clearRun], rfl, rfl, fun u => ?_,
    fun l => ⟨?_, ?_, ?_, ?_, ?_⟩, rfl, rfl, rfl, rfl, fun k => ⟨?_, ?_⟩, fun u => ?_, fun p => ⟨?_, ?_⟩,
    fun law r since => ?_⟩
  · simpa using s.resetStores_unit u
  · cases l <;> rfl
  · cases l <;> rfl
  · simp [State.clearRun, LaneRec.closed]
  · have : (s.resetStores.clearRun cause).escrows.get l = (s.escrows.get l).reset := by
      simpa using s.resetStores_escrow l
    rw [this, Escrow.reset, Escrow.restartOwner_eq]
    rfl
  · cases l <;> rfl
  · cases k <;> simp [State.clearRun, restartTurn, PerKind.get, PerLane.get]
  · have : (s.resetStores.mechs.get k).sense = (s.mechs.get k).sense := by simpa [State.resetStores] using sense k
    simp [State.clearRun, Mechanism.restarted, this]
  · have : Transfer.restarted = fun x : Transfer =>
        { x with ended := if x.ended = .running then .restart else x.ended } := funext Transfer.restarted_eq
    simp [State.clearRun, this]
  · simp [State.clearRun, PortUnit.restarted]
  · simp [State.clearRun, EventSet.afterRestart]
  · have dirty : (s.resetStores.clearRun cause).dirty = s.resetStores.dirty := by simp
    rw [dirty, joins.dirty law r since]
    simp only [Escrow.restartOwner_eq]

end Sys2Proof.Machine
end

section
/-! SUPPORT. What the records of the count store restore, and when they have failed (R153, R162). -/

namespace Sys2Proof.Machine

-- One proof after the other: many short proofs at once take more threads than the check's memory limit has room for.
set_option Elab.async false

/-! ### Tables, entry by entry -/

theorem Twelve.ext_get {α : Type} {t t' : Twelve α} (h : ∀ i, t.get i = t'.get i) : t = t' := by
  obtain ⟨a0, a1, a2, a3, a4, a5, a6, a7, a8, a9, a10, a11⟩ := t
  obtain ⟨b0, b1, b2, b3, b4, b5, b6, b7, b8, b9, b10, b11⟩ := t'
  have := (⟨h 0, h 1, h 2, h 3, h 4, h 5, h 6, h 7, h 8, h 9, h 10, h 11⟩ :
    a0 = b0 ∧ a1 = b1 ∧ a2 = b2 ∧ a3 = b3 ∧ a4 = b4 ∧ a5 = b5 ∧ a6 = b6 ∧ a7 = b7 ∧ a8 = b8 ∧ a9 = b9 ∧ a10 = b10 ∧
      a11 = b11)
  simp [this]

theorem Twelve.all_toList {α : Type} (t : Twelve α) (p : α → Bool) :
    t.toList.all p = true ↔ ∀ i : Fin 12, p (t.get i) = true := by
  have : t.toList = allSlots.map t.get := rfl
  simp [this]

theorem Eight.all_toList {α : Type} (t : Eight α) (p : α → Bool) :
    t.toList.all p = true ↔ ∀ i : Fin 8, p (t.get i) = true := by
  have : t.toList = allCounters.map t.get := rfl
  rw [this, List.all_map, List.all_eq_true]
  exact ⟨fun h i => h i (by fin_cases i <;> simp [allCounters]), fun h i _ => h i⟩

theorem forall_lane {P : Lane → Prop} : (∀ l, P l) ↔ P .a ∧ P .b :=
  ⟨fun h => ⟨h .a, h .b⟩, fun h l => by cases l; exacts [h.1, h.2]⟩

/-! ### Cells -/

theorem Cell.good_whole {α : Type} {ok : α → Bool} {x : α} (h : ok x = true) : (Cell.whole x).good ok = some x :=
  if_pos h

theorem Cell.good_eq_none_iff {α : Type} {ok : α → Bool} {P : α → Prop} (range : ∀ x, ok x = true ↔ P x)
    (c : Cell α) : c.good ok = none ↔ ∀ x, c = .whole x → ¬ P x := by
  cases c with
  | blank => simp [Cell.good]
  | torn => simp [Cell.good]
  | whole x => simp [Cell.good, ← range]

/-- A record restores its content where it is whole and in range, else its default. -/
theorem Cell.restored {α : Type} {ok : α → Bool} {P : α → Prop} (range : ∀ x, ok x = true ↔ P x) (c : Cell α)
    (default : α) :
    (∀ x, c = .whole x → P x → (c.good ok).getD default = x) ∧
      ((∀ x, c = .whole x → ¬ P x) → (c.good ok).getD default = default) := by
  refine ⟨fun x whole good => ?_, fun bad => ?_⟩
  · rw [whole, Cell.good_whole ((range x).mpr good), Option.getD_some]
  · rw [(Cell.good_eq_none_iff range c).mpr bad, Option.getD_none]

theorem Cell.isBlank_iff {α : Type} (c : Cell α) : c.isBlank = true ↔ c = .blank := by cases c <;> simp [Cell.isBlank]

/-! ### The ranges (R1, R4, R13, R39, R54, R72, R80, R104, R179) -/

theorem denomsInRange_iff (x : Twelve Denom) :
    denomsInRange x = true ↔
      (∀ d, 1 ≤ (x.get d).value ∧ (x.get d).value ≤ 50000 ∧ (x.get d).lowWater ≤ 1000) ∧
        ∀ d e, d ≠ e → (x.get d).enabled = true → (x.get e).enabled = true → (x.get d).value ≠ (x.get e).value := by
  rw [denomsInRange, Bool.and_eq_true, distinctValues_iff, Twelve.all_toList]
  simp [Denom.inRange]

theorem settingsInRange_iff (x : Twelve UnitSettings) :
    settingsInRange x = true ↔ ∀ u, 1 ≤ (x.get u).capacity ∧
      (x.get u).capacity ≤ (if unitKind u = .coin then 400 else 120) ∧ 1 ≤ (x.get u).highWater ∧
        (x.get u).highWater ≤ (x.get u).capacity ∧ (x.get u).sweepTarget < (x.get u).highWater := by
  have most (u : UnitId) : maxCapacity (unitKind u) = if unitKind u = .coin then 400 else 120 := by
    cases unitKind u <;> rfl
  simp [settingsInRange, UnitSettings.inRange, most]

theorem floorsInRange_iff (x : PerLane (Twelve Nat)) :
    floorsInRange x = true ↔ ∀ l d, (x.get l).get d ≤ 255 := by
  rw [floorsInRange, List.all_append, Bool.and_eq_true, Twelve.all_toList, Twelve.all_toList, forall_lane]
  simp [PerLane.get]

theorem LimitsImage.inRange_iff (x : LimitsImage) :
    x.inRange = true ↔
      x.limits.payout ≤ 65535 ∧ 1 ≤ x.limits.piece ∧ x.limits.piece ≤ 60 ∧ 16 ≤ x.limits.effort ∧
        x.limits.effort ≤ 1024 ∧ 5 ≤ x.limits.hold ∧ x.limits.hold ≤ 250 ∧ 1 ≤ x.limits.cup ∧ x.limits.cup ≤ 60 ∧
        1 ≤ x.limits.outlet ∧ x.limits.outlet ≤ 20 ∧ 1 ≤ x.coinCapacity ∧ x.coinCapacity ≤ 3000 ∧
        1 ≤ x.noteCapacity ∧ x.noteCapacity ≤ 1000 := by
  simp [LimitsImage.inRange, Setting.inRange, and_assoc]

theorem weightsInRange_iff (x : PerLane Nat) : weightsInRange x = true ↔ ∀ l, 1 ≤ x.get l ∧ x.get l ≤ 15 := by
  rw [forall_lane]
  simp [weightsInRange, Setting.inRange, PerLane.get]

theorem selectsInRange_iff (x : Eight Select) : selectsInRange x = true ↔ ∀ n, (x.get n).threshold ≤ 16 := by
  rw [selectsInRange, Eight.all_toList]
  simp

theorem UnitImage.fits_iff (x : UnitSettings) (i : UnitImage) :
    UnitImage.fits x i = true ↔ i.count ≤ x.capacity ∧ (x.slot = none → i.count = 0) := by
  cases h : x.slot <;> simp [UnitImage.fits, h]

theorem EscrowImage.inRange_iff (i : EscrowImage) :
    i.inRange = true ↔ i.slots.length ≤ 8 ∧ ∀ tag, i.owner = .sale tag → 1 ≤ tag ∧ tag ≤ 65535 := by
  have room : (Config.escrowRoom : Nat) = 8 := rfl
  rw [EscrowImage.inRange, Bool.and_eq_true, decide_eq_true_eq, room]
  cases i.owner <;> simp [EscrowOwner.inRange]

/-! ### The failed-record set (R153) -/

theorem recordMask_getLsbD (rs : List RecordNo) (r : RecordNo) : (recordMask rs).getLsbD r.val = true ↔ r ∈ rs := by
  have : recordMask rs = dirtyMask (rs.map fun r => (r, 0)) := by simp [recordMask, dirtyMask, List.foldl_map]
  rw [this, dirtyMask_getLsbD]
  simp

theorem mem_allRecords (r : RecordNo) : r ∈ allRecords := by fin_cases r <;> simp [allRecords]

/-- Every record that is not good has failed, none of a blank store (R153). -/
theorem CountStore.failed_iff (c : CountStore) (r : RecordNo) :
    c.failedSet.getLsbD r.val = true ↔ c.isBlank = false ∧ c.isGood r = false := by
  unfold CountStore.failedSet
  split
  next blank => simp [blank]
  next written =>
    rw [recordMask_getLsbD, List.mem_filter, Bool.not_eq_true', and_iff_right (mem_allRecords r)]
    simp [written]

/-! A record is good, for each record of the table of R152. -/

theorem CountStore.isGood_denoms (c : CountStore) : c.isGood recDenoms = c.goodDenoms.isSome := rfl
theorem CountStore.isGood_settings (c : CountStore) : c.isGood recSettings = c.goodSettings.isSome := rfl
theorem CountStore.isGood_floors (c : CountStore) : c.isGood recFloors = c.goodFloors.isSome := rfl
theorem CountStore.isGood_limits (c : CountStore) : c.isGood recLimits = c.goodLimits.isSome := rfl
theorem CountStore.isGood_weights (c : CountStore) : c.isGood recWeights = c.goodWeights.isSome := rfl
theorem CountStore.isGood_selects (c : CountStore) : c.isGood recSelects = c.goodSelects.isSome := rfl
theorem CountStore.isGood_unit (c : CountStore) (u : UnitId) : c.isGood (recUnit u) = (c.goodUnit u).isSome := by
  fin_cases u <;> rfl
theorem CountStore.isGood_box (c : CountStore) (k : Kind) : c.isGood (recBox k) = (c.goodBox k).isSome := by
  cases k <;> rfl
theorem CountStore.isGood_escrow (c : CountStore) (l : Lane) : c.isGood (recEscrow l) = (c.goodEscrow l).isSome := by
  cases l <;> rfl

/-- A record of a store that is not blank has failed where it is not whole and in range. -/
theorem CountStore.failed_cell {c : CountStore} (written : c.isBlank = false) {r : RecordNo} {α : Type} {x : Cell α}
    {ok : α → Bool} {P : α → Prop} (range : ∀ x, ok x = true ↔ P x) (good : c.isGood r = (x.good ok).isSome) :
    c.failedSet.getLsbD r.val = true ↔ ∀ y, x = .whole y → ¬ P y := by
  rw [c.failed_iff, good, Option.isSome_eq_false_iff, Option.isNone_iff_eq_none, Cell.good_eq_none_iff range]
  exact and_iff_right written

theorem CountStore.isBlank_iff (c : CountStore) : c.isBlank = true ↔ c = .blank := by
  simp only [CountStore.isBlank, Bool.and_eq_true, Cell.isBlank_iff, List.all_eq_true, mem_allUnits, forall_true_left]
  constructor
  · rintro ⟨⟨⟨⟨⟨⟨⟨⟨⟨⟨denoms, settings⟩, floors⟩, limits⟩, weights⟩, selects⟩, units⟩, coin⟩, note⟩, a⟩, b⟩
    have units' : c.units = Twelve.replicate .blank := Twelve.ext_get fun u => by rw [units u, Twelve.get_replicate]
    obtain ⟨_, _, _, _, _, _, _, ⟨_, _⟩, ⟨_, _⟩⟩ := c
    simp_all [CountStore.blank]
  · rintro rfl
    exact ⟨⟨⟨⟨⟨⟨⟨⟨⟨⟨rfl, rfl⟩, rfl⟩, rfl⟩, rfl⟩, rfl⟩, fun u => Twelve.get_replicate ..⟩, rfl⟩, rfl⟩, rfl⟩, rfl⟩

end Sys2Proof.Machine
end

section
/-! SUPPORT. POWER_LOSS and POWER_ON (R152, R153, R156, R161 to R163). -/

namespace Sys2Proof.Machine

-- One proof after the other: many short proofs at once take more threads than the check's memory limit has room for.
set_option Elab.async false

/-! ### The first write after a restore (R155, R157) -/

theorem State.eligible_iff_of_pfw {s : State} (pfw : s.pfw = true) (r : RecordNo) :
    s.eligible r = true ↔ ∃ since, (r, since) ∈ s.dirty := by
  simp [State.eligible, pfw]

/-- The first record in ascending number that passes a test, if any. -/
theorem find_allRecords {p : RecordNo → Bool} {r : RecordNo} (h : allRecords.find? p = some r) :
    p r = true ∧ ∀ q, p q = true → r ≤ q := by
  obtain ⟨good, front, back, e, before⟩ := List.find?_eq_some_iff_append.mp h
  have sorted : (front ++ r :: back).Pairwise (· < ·) := e ▸ (by decide : allRecords.Pairwise (· < ·))
  refine ⟨good, fun q hq => ?_⟩
  have mem : q ∈ front ++ r :: back := e ▸ mem_allRecords q
  rw [List.pairwise_append, List.pairwise_cons] at sorted
  obtain ⟨-, ⟨after, -⟩, -⟩ := sorted
  rcases List.mem_append.mp mem with h | h
  · exact absurd hq (by simpa using before q h)
  · rcases List.mem_cons.mp h with rfl | h
    · exact le_rfl
    · exact (after q h).le

/-- While PFW is active an idle writer at scan position 0 begins with the lowest dirty record (R155, R157). -/
theorem State.startWrite_lowest {s : State} (pfw : s.pfw = true) (idle : s.writer = .idle) (scan : s.scan = 0) :
    s.dirty = [] ∧ s.startWrite = s ∨ ∃ r, (∃ since, (r, since) ∈ s.dirty) ∧ (∀ e ∈ s.dirty, r ≤ e.1) ∧
      s.startWrite = { s with writer := .writing (s.image r), dirty := s.dirty.filter fun e => decide (e.1 ≠ r) } := by
  have next : s.nextRecord = allRecords.find? fun r => s.eligible r := by
    simp only [State.nextRecord, scan]
    cases h : allRecords.find? fun r => s.eligible r <;> simp [h]
  cases h : allRecords.find? fun r => s.eligible r with
  | none =>
    left
    have none : ∀ e, e ∉ s.dirty := fun e he => by
      have := List.find?_eq_none.mp h e.1 (mem_allRecords _)
      exact this ((State.eligible_iff_of_pfw pfw _).mpr ⟨e.2, he⟩)
    exact ⟨List.eq_nil_iff_forall_not_mem.mpr none, by simp [State.startWrite, idle, next, h]⟩
  | some r =>
    right
    obtain ⟨dirty, least⟩ := find_allRecords h
    exact ⟨r, (State.eligible_iff_of_pfw pfw r).mp dirty,
      fun e he => least e.1 ((State.eligible_iff_of_pfw pfw _).mpr ⟨e.2, he⟩), by simp [State.startWrite, idle, next, h]⟩

/-! ### The dirty set of a restore (R162) -/

/-- The state loaded from the store, before the closing flush. -/
def State.loaded (s : State) : State := { s.load with dirty := s.load.restoredDirty }

theorem State.restore_eq (s : State) : s.restore = s.loaded.flush := rfl

theorem State.loaded_image (s : State) (r : RecordNo) : s.loaded.image r = s.load.image r := rfl

theorem State.flush_image (s : State) (r : RecordNo) : s.flush.image r = s.image r := by
  refine State.image_congr (by simp) (by simp) (by simp) (by simp) (fun u => ?_) (fun l => ?_) (fun n => ?_)
    (fun l => ?_) r <;> simp

theorem State.mem_loaded_dirty (s : State) (r : RecordNo) (since : Nat) :
    (r, since) ∈ s.loaded.dirty ↔
      s.store.isBlank = false ∧ since = s.now ∧ s.store.content r ≠ some (s.load.image r) := by
  have dirty : s.loaded.dirty = s.load.restoredDirty := rfl
  have store : s.load.store = s.store := rfl
  have now : s.load.now = s.now := rfl
  rw [dirty, State.restoredDirty, store, now]
  split
  next blank => simp [blank]
  next written =>
    simp only [List.mem_map, List.mem_filter, mem_allRecords, true_and, decide_eq_true_eq, Prod.mk.injEq]
    constructor
    · rintro ⟨q, differs, rfl, rfl⟩
      exact ⟨by simpa using written, rfl, differs⟩
    · rintro ⟨-, rfl, differs⟩
      exact ⟨r, differs, rfl, rfl⟩

/-- What the closing of a restore leaves of writer and dirty set. -/
theorem State.restore_cases (s : State) :
    (s.pfw = false ∨ s.loaded.dirty = []) ∧ s.restore = s.loaded ∨
      s.pfw = true ∧ ∃ r, (∃ since, (r, since) ∈ s.loaded.dirty) ∧ (∀ e ∈ s.loaded.dirty, r ≤ e.1) ∧
        s.restore = { s.loaded with
          writer := .writing (s.load.image r), dirty := s.loaded.dirty.filter fun e => decide (e.1 ≠ r) } := by
  have warning : s.loaded.pfw = s.pfw := rfl
  rw [State.restore_eq, State.flush, warning]
  cases pfw : s.pfw with
  | false => exact .inl ⟨.inl rfl, rfl⟩
  | true =>
    rcases State.startWrite_lowest (s := s.loaded) pfw rfl rfl with ⟨none, e⟩ | ⟨r, some, least, e⟩
    · exact .inl ⟨.inr none, e⟩
    · exact .inr ⟨rfl, r, some, least, e⟩

theorem State.restore_image (s : State) (r : RecordNo) : s.restore.image r = s.load.image r := by
  rw [State.restore_eq, State.flush_image, State.loaded_image]

/-- A record joins the dirty set, or is in writing, exactly where its restored source differs from it (R162). -/
theorem State.restore_dirty (s : State) (r : RecordNo) (since : Nat) :
    ((r, since) ∈ s.restore.dirty ∨ ∃ x, s.restore.writer = .writing x ∧ x.record = r ∧ since = s.now) ↔
      s.store.isBlank = false ∧ since = s.now ∧ s.store.content r ≠ some (s.restore.image r) := by
  rw [State.restore_image, ← s.mem_loaded_dirty]
  have now (q : RecordNo) (n : Nat) (h : (q, n) ∈ s.loaded.dirty) : n = s.now := ((s.mem_loaded_dirty q n).mp h).2.1
  rcases s.restore_cases with ⟨-, e⟩ | ⟨-, q, ⟨n, first⟩, -, e⟩
  · have idle : s.loaded.writer = .idle := rfl
    rw [e, idle]
    simp
  · rw [e]
    simp only [List.mem_filter, decide_eq_true_eq, Writer.writing.injEq, exists_eq_left', Image.record_image]
    constructor
    · rintro (⟨mem, -⟩ | ⟨rfl, rfl⟩)
      · exact mem
      · exact now q n first ▸ first
    · intro mem
      by_cases same : r = q
      · exact .inr ⟨same.symm, now r since mem⟩
      · exact .inl ⟨mem, same⟩

/-- While PFW is active the lowest dirty record is in writing with its content; else the writer is IDLE (R155, R157). -/
theorem State.restore_writer (s : State) :
    (s.pfw = false → s.restore.writer = .idle) ∧
      (s.pfw = true → (s.restore.writer = .idle → s.restore.dirty = []) ∧
        ∀ x, s.restore.writer = .writing x →
          x = s.restore.image x.record ∧ ∀ e ∈ s.restore.dirty, x.record < e.1) := by
  have idle : s.loaded.writer = .idle := rfl
  simp only [State.restore_image]
  rcases s.restore_cases with ⟨none, e⟩ | ⟨pfw, r, -, least, e⟩
  · rw [e, idle]
    refine ⟨fun _ => rfl, fun pfw => ⟨fun _ => none.resolve_left (by simp [pfw]), fun x writing => nomatch writing⟩⟩
  · rw [e]
    refine ⟨fun off => by simp [pfw] at off, fun _ => ⟨fun writing => (nomatch writing), fun x writing => ?_⟩⟩
    cases writing
    rw [Image.record_image]
    refine ⟨rfl, fun d hd => ?_⟩
    obtain ⟨mem, ne⟩ := List.mem_filter.mp hd
    exact lt_of_le_of_ne (least d mem) (fun e => by simp [e] at ne)

/-! ### Units and stacks restored (R12, R39, R162) -/

theorem CountStore.goodUnit_eq_some {c : CountStore} {u : UnitId} {d : Slot} {i : UnitImage}
    (slot : (c.restoredSettings.get u).slot = some d) (whole : c.units.get u = .whole i)
    (fits : i.count ≤ (c.restoredSettings.get u).capacity) : c.goodUnit u = some i := by
  rw [CountStore.goodUnit, whole]
  exact Cell.good_whole ((UnitImage.fits_iff ..).mpr ⟨fits, fun none => by simp [slot] at none⟩)

/-- A unit without a slot is ABSENT (R12). -/
theorem CountStore.restoredUnit_none {c : CountStore} {u : UnitId} (slot : (c.restoredSettings.get u).slot = none) :
    c.restoredUnit u = (c.restoredSettings.get u).toUnit 0 .absent := by
  simp [CountStore.restoredUnit, slot]

/-- A unit whose record is not good is UNCERTAIN with count 0 (R12, R162). -/
theorem CountStore.restoredUnit_failed {c : CountStore} {u : UnitId} {d : Slot}
    (slot : (c.restoredSettings.get u).slot = some d)
    (failed : ∀ i, c.units.get u = .whole i → (c.restoredSettings.get u).capacity < i.count) :
    c.restoredUnit u = (c.restoredSettings.get u).toUnit 0 .uncertain := by
  have bad : c.goodUnit u = none := by
    rw [CountStore.goodUnit, Cell.good_eq_none_iff (UnitImage.fits_iff _)]
    rintro i whole ⟨fits, -⟩
    exact absurd fits (by have := failed i whole; omega)
  simp [CountStore.restoredUnit, slot, bad]

theorem restoredState_eq (kindFits : Bool) (x : UnitState) :
    restoredState kindFits x =
      if kindFits = false then .uncertain else if x = .lockPending ∨ x = .absent then .locked else x := by
  cases kindFits <;> cases x <;> simp [restoredState]

/-- A unit whose record is good (R12, R162). -/
theorem CountStore.restoredUnit_good {c : CountStore} {u : UnitId} {d : Slot} {i : UnitImage}
    (slot : (c.restoredSettings.get u).slot = some d) (whole : c.units.get u = .whole i)
    (fits : i.count ≤ (c.restoredSettings.get u).capacity) :
    c.restoredUnit u = (c.restoredSettings.get u).toUnit (if i.state = .absent then 0 else i.count)
      (if (c.restoredDenoms.get d).kind ≠ unitKind u then .uncertain
      else if i.state = .lockPending ∨ i.state = .absent then .locked else i.state) := by
  simp [CountStore.restoredUnit, slot, CountStore.goodUnit_eq_some slot whole fits, restoredState_eq]

/-- The ranges of an escrow record (R39). -/
def EscrowImage.InRange (i : EscrowImage) : Prop :=
  i.slots.length ≤ 8 ∧ ∀ tag, i.owner = .sale tag → 1 ≤ tag ∧ tag ≤ 65535

theorem CountStore.restoredEscrow_good {c : CountStore} {l : Lane} {i : EscrowImage}
    (whole : c.escrows.get l = .whole i) (range : i.InRange) (sensorEmpty : Bool) :
    c.restoredEscrow l sensorEmpty =
      { entries := i.slots.map fun d => { slot := d, credit := .nothing, inTransit := false }
        owner := if i.slots = [] then .none else .orphan, status := .idle, sensorEmpty := sensorEmpty } := by
  have good : c.goodEscrow l = some i := by
    rw [CountStore.goodEscrow, whole]
    exact Cell.good_whole ((EscrowImage.inRange_iff i).mpr range)
  cases e : i.slots <;> simp [CountStore.restoredEscrow, good, e]

theorem CountStore.restoredEscrow_failed {c : CountStore} {l : Lane}
    (failed : ∀ i, c.escrows.get l = .whole i → ¬ i.InRange) (sensorEmpty : Bool) :
    c.restoredEscrow l sensorEmpty =
      { entries := [], owner := if c.isBlank then .none else .orphan, status := .idle, sensorEmpty := sensorEmpty } := by
  have bad : c.goodEscrow l = none := (Cell.good_eq_none_iff EscrowImage.inRange_iff _).mpr failed
  cases blank : c.isBlank <;> simp [CountStore.restoredEscrow, bad, blank]

theorem State.load_escrow (s : State) (l : Lane) :
    s.load.escrows.get l = s.store.restoredEscrow l (s.escrows.get l).sensorEmpty := by cases l <;> rfl

theorem State.load_box (s : State) (k : Kind) : s.load.boxes.get k = s.store.restoredBox k := by cases k <;> rfl

/-! ### What was written comes back -/

/-- A record that holds a content is whole. -/
theorem Cell.whole_of_good {α : Type} {c : Cell α} {x : α} (h : c.good (fun _ => true) = some x) : c = .whole x := by
  cases c <;> simp_all [Cell.good]

/-- The records that hold their sources as they stand. -/
structure Written (s : State) : Prop where
  denoms : s.store.denoms = .whole s.denoms
  settings : s.store.settings = .whole (s.units.map UnitRec.settings)
  floors : s.store.floors = .whole s.floors
  limits : s.store.limits = .whole s.limitsImage
  weights : s.store.weights = .whole (s.lanes.map LaneRec.weight)
  units : ∀ u, s.store.units.get u = .whole { count := (s.units.get u).count, state := (s.units.get u).state }
  boxes : ∀ k, s.store.boxes.get k = .whole (s.boxes.get k).counts

theorem CountStore.content_unit (c : CountStore) (u : UnitId) :
    c.content (recUnit u) = ((c.units.get u).good fun _ => true).map (.unit u) := by
  fin_cases u <;> rfl

theorem CountStore.content_box (c : CountStore) (k : Kind) :
    c.content (recBox k) = ((c.boxes.get k).good fun _ => true).map (.cashbox k) := by
  cases k <;> rfl

theorem Written.of_content {s : State} (h : ∀ r, s.store.content r = some (s.image r)) : Written s where
  denoms := by
    have : (s.store.denoms.good fun _ => true).map Image.denoms = some (.denoms s.denoms) := h recDenoms
    exact Cell.whole_of_good (by simpa using this)
  settings := by
    have : (s.store.settings.good fun _ => true).map Image.settings = some (.settings (s.units.map UnitRec.settings)) :=
      h recSettings
    exact Cell.whole_of_good (by simpa using this)
  floors := by
    have : (s.store.floors.good fun _ => true).map Image.floors = some (.floors s.floors) := h recFloors
    exact Cell.whole_of_good (by simpa using this)
  limits := by
    have : (s.store.limits.good fun _ => true).map Image.limits = some (.limits s.limitsImage) := h recLimits
    exact Cell.whole_of_good (by simpa using this)
  weights := by
    have : (s.store.weights.good fun _ => true).map Image.weights = some (.weights (s.lanes.map LaneRec.weight)) :=
      h recWeights
    exact Cell.whole_of_good (by simpa using this)
  units u := by
    have := h (recUnit u)
    rw [CountStore.content_unit, State.image_unit] at this
    exact Cell.whole_of_good (by simpa using this)
  boxes k := by
    have := h (recBox k)
    rw [CountStore.content_box, State.image_box] at this
    exact Cell.whole_of_good (by simpa using this)

end Sys2Proof.Machine
end

section
/-! SUPPORT. POWER_LOSS and POWER_ON, put together (R152, R153, R156, R161 to R163). -/

namespace Sys2Proof.Machine

-- One proof after the other: many short proofs at once take more threads than the check's memory limit has room for.
set_option Elab.async false

theorem exec_powerLoss {s : State} (h : s.Running) : exec .powerLoss s = .next s.losePower := by
  have : exec .powerLoss s = execPowerLoss s := rfl
  rw [this, execPowerLoss, State.firstEvent_running h, takePowerLoss, State.whenPowered, if_pos h.1]

theorem exec_powerOn_unpowered {s : State} (h : s.powered = false) : exec .powerOn s = .next s.restore := by
  have : exec .powerOn s = execPowerOn s := rfl
  rw [this, execPowerOn, State.firstEvent_unpowered h, takePowerOn, takePowerLoss, State.whenPowered, if_neg (by simp [h])]

/-- A power-on that finds supply and an idle writer (log 6). -/
theorem exec_powerOn_running {s : State} (h : s.Running) (idle : s.writer = .idle) :
    exec .powerOn s = .next { s with powered := false }.restore := by
  have : exec .powerOn s = execPowerOn s := rfl
  rw [this, execPowerOn, State.firstEvent_running h, takePowerOn, takePowerLoss, State.whenPowered, if_pos h.1,
    State.losePower, idle]

/-- A part of a restore that the closing flush leaves is the part as loaded. -/
theorem State.restore_parts (s : State) :
    s.restore.powered = true ∧ s.restore.store = s.store ∧ s.restore.denoms = s.store.restoredDenoms ∧
      s.restore.floors = s.store.restoredFloors ∧ s.restore.limits = s.store.restoredLimits.limits ∧
      s.restore.units = s.load.units ∧ s.restore.escrows = s.load.escrows ∧ s.restore.boxes = s.load.boxes ∧
      s.restore.lanes = s.load.lanes ∧ s.restore.counters = s.load.counters := by
  simp [State.restore, State.load]

/-- Everything else of a restore has its power-on value (R163). -/
@[simp] theorem State.restore_run (s : State) :
    s.restore.sales = ⟨[], []⟩ ∧ s.restore.laneJobs = ⟨[], []⟩ ∧ s.restore.serviceJobs = [] ∧
      s.restore.stackJobs = [] ∧ s.restore.planReqs = [] ∧ s.restore.reservations = [] ∧
      s.restore.tallies = ⟨Twelve.replicate 0, Twelve.replicate 0⟩ ∧ s.restore.transfers = Twelve.replicate none ∧
      s.restore.turns = ⟨restartTurn s.store.restoredWeights.a, restartTurn s.store.restoredWeights.a⟩ ∧
      s.restore.mechs = s.mechs.map Mechanism.restarted ∧ s.restore.retest = true ∧
      s.restore.counters =
        (Eight.tabulate fun n => { select := s.store.restoredSelects.get n, value := 0, edge := false }) ∧
      s.restore.ports = ⟨PortUnit.clear, PortUnit.clear, PortUnit.clear⟩ ∧
      s.restore.events = (s.events.map fun _ => EventSet.afterRestart .powerOn s.store.failedSet) ∧
      s.restore.armed = false ∧ s.restore.scan = 0 ∧ s.restore.lastCause = .powerOn ∧
      s.restore.lastFailed = s.store.failedSet ∧ SameQueue s s.restore ∧ SameClock s s.restore ∧
      s.restore.key = s.key ∧ s.restore.pfw = s.pfw := by
  simp [State.restore, State.load]

theorem State.restore_unit (s : State) (u : UnitId) : s.restore.units.get u = s.store.restoredUnit u := by
  have units : s.restore.units = s.load.units := by simp [State.restore]
  rw [units]
  exact Twelve.get_tabulate ..

theorem State.restore_escrow (s : State) (l : Lane) :
    s.restore.escrows.get l = s.store.restoredEscrow l (s.escrows.get l).sensorEmpty := by
  have escrows : s.restore.escrows = s.load.escrows := by simp [State.restore]
  rw [escrows, State.load_escrow]

theorem State.restore_box (s : State) (k : Kind) : s.restore.boxes.get k = s.store.restoredBox k := by
  have boxes : s.restore.boxes = s.load.boxes := by simp [State.restore]
  rw [boxes, State.load_box]

theorem State.restore_lane (s : State) (l : Lane) :
    s.restore.lanes.get l = LaneRec.closed (s.store.restoredWeights.get l) := by
  have lanes : s.restore.lanes = s.load.lanes := by simp [State.restore]
  rw [lanes]
  exact PerLane.get_map ..

/-- A record without a range restores its content where it is whole (R15). -/
theorem CountStore.restoredBox_counts (c : CountStore) (k : Kind) :
    (∀ x, c.boxes.get k = .whole x → (c.restoredBox k).counts = x) ∧
      ((∀ x, c.boxes.get k ≠ .whole x) → (c.restoredBox k).counts = Twelve.replicate 0) := by
  have restored := Cell.restored (ok := fun _ => true) (P := fun _ => True) (by simp) (c.boxes.get k)
    (Twelve.replicate 0)
  exact ⟨fun x whole => restored.1 x whole trivial, fun none => restored.2 fun x whole => absurd whole (none x)⟩

/-- What was written of the float comes back as it stood (R152, R162). -/
theorem Written.restores {s : State} (h : Written s) (denoms : denomsInRange s.denoms = true)
    (settings : settingsInRange (s.units.map UnitRec.settings) = true) (floors : floorsInRange s.floors = true)
    (limits : s.limitsImage.inRange = true) (weights : weightsInRange (s.lanes.map LaneRec.weight) = true) :
    s.store.restoredDenoms = s.denoms ∧ s.store.restoredSettings = s.units.map UnitRec.settings ∧
      s.store.restoredFloors = s.floors ∧ s.store.restoredLimits = s.limitsImage ∧
      s.store.restoredWeights = s.lanes.map LaneRec.weight := by
  simp only [CountStore.restoredDenoms, CountStore.goodDenoms, CountStore.restoredSettings, CountStore.goodSettings,
    CountStore.restoredFloors, CountStore.goodFloors, CountStore.restoredLimits, CountStore.goodLimits,
    CountStore.restoredWeights, CountStore.goodWeights, h.denoms, h.settings, h.floors, h.limits, h.weights,
    Cell.good_whole denoms, Cell.good_whole settings, Cell.good_whole floors, Cell.good_whole limits,
    Cell.good_whole weights, Option.getD_some, and_self]

theorem Written.restoredUnit {s : State} (h : Written s) (denoms : s.store.restoredDenoms = s.denoms)
    (settings : s.store.restoredSettings = s.units.map UnitRec.settings) {u : UnitId}
    (within : (s.units.get u).count ≤ (s.units.get u).capacity)
    (absent : (s.units.get u).state = .absent ↔ (s.units.get u).slot = none)
    (empty : (s.units.get u).slot = none → (s.units.get u).count = 0)
    (kind : ∀ d, (s.units.get u).slot = some d → (s.denoms.get d).kind = unitKind u) :
    s.store.restoredUnit u = { s.units.get u with
      committed := 0
      state := if (s.units.get u).state = .lockPending then .locked else (s.units.get u).state } := by
  have own : s.store.restoredSettings.get u = (s.units.get u).settings := by rw [settings, Twelve.get_map]
  cases slot : (s.units.get u).slot with
  | none =>
    rw [CountStore.restoredUnit_none (by rw [own]; exact slot), own]
    simp [UnitSettings.toUnit, UnitRec.settings, slot, absent.mpr slot, empty slot]
  | some d =>
    have present : (s.units.get u).state ≠ .absent := fun e => by simp [absent.mp e] at slot
    rw [CountStore.restoredUnit_good (d := d) (by rw [own]; exact slot) (h.units u) (by rw [own]; exact within), own,
      denoms]
    simp [UnitSettings.toUnit, UnitRec.settings, present, kind d slot, slot]

theorem Cashbox.eq_of_parts {b b' : Cashbox} (counts : b.counts = b'.counts) (capacity : b.capacity = b'.capacity) :
    b = b' := by
  cases b
  cases b'
  simp_all

theorem Written.restoredBox {s : State} (h : Written s) (limits : s.store.restoredLimits = s.limitsImage) (k : Kind) :
    s.store.restoredBox k = s.boxes.get k := by
  have counts : (s.store.restoredBox k).counts = (s.boxes.get k).counts :=
    (s.store.restoredBox_counts k).1 _ (h.boxes k)
  have capacity : (s.store.restoredBox k).capacity = (s.boxes.get k).capacity := by
    simp only [CountStore.restoredBox, limits]
    cases k <;> rfl
  exact Cashbox.eq_of_parts counts capacity

theorem PerKind.ext_get {α : Type} {t t' : PerKind α} (h : ∀ k, t.get k = t'.get k) : t = t' := by
  obtain ⟨coin, note⟩ := t
  obtain ⟨coin', note'⟩ := t'
  have := (⟨h .coin, h .note⟩ : coin = coin' ∧ note = note')
  simp [this]

/-! ### The statement -/

theorem defaultSettings_eq (u : UnitId) : UnitSettings.default u =
    if unitKind u = .coin then { slot := none, capacity := 100, highWater := 80, sweepTarget := 60, mask := .both }
    else { slot := none, capacity := 60, highWater := 48, sweepTarget := 36, mask := .both } := by
  unfold UnitSettings.default
  cases unitKind u <;> rfl

/-- Settles O52: the restore part by part, the float written and read back, and the judging record by record. -/
theorem supplyLossAndReturn : Obligations.SupplyLossAndReturn := by
  unfold Obligations.SupplyLossAndReturn
  refine ⟨fun s => ⟨fun running => ⟨fun idle => ?_, fun x writing => ?_⟩, fun off => ⟨s.restore,
    exec_powerOn_unpowered off, ?_⟩⟩, fun s running idle denoms settings floors limits weights content units =>
    ⟨_, exec_powerOn_running running idle, ?_⟩, fun c => ?_⟩
  · rw [exec_powerLoss running, State.losePower, idle]
  · rw [exec_powerLoss running, State.losePower, writing]
  · obtain ⟨powered, store, denoms, floors, limits, -⟩ := s.restore_parts
    refine ⟨powered, store, denoms, floors, limits, s.restore_unit, fun u => ⟨fun slot => ?_, fun d slot =>
      ⟨fun failed => ?_, fun i whole fits => ?_⟩⟩, fun l => ⟨?_, fun i whole room owner => ?_, fun failed => ?_⟩,
      fun k => ⟨?_, ?_, ?_⟩, fun l => ?_, by simp, by simp, by simp, by simp, by simp,
      fun k => ⟨?_, ?_⟩, by simp, by simp, fun p => ⟨?_, ?_, ?_⟩, s.restore_dirty, by simp, by simp, by simp, by simp,
      s.restore_writer.1, s.restore_writer.2, by simp, by simp, by simp, by simp⟩
    · rw [State.restore_unit, CountStore.restoredUnit_none slot]
    · rw [State.restore_unit, CountStore.restoredUnit_failed slot failed]
    · rw [State.restore_unit, CountStore.restoredUnit_good slot whole fits]
    · rw [State.restore_escrow]
      rfl
    · rw [State.restore_escrow, CountStore.restoredEscrow_good whole ⟨room, owner⟩]
      exact ⟨rfl, rfl⟩
    · have bad : ∀ i, s.store.escrows.get l = .whole i → ¬ i.InRange := by
        rintro i whole ⟨room, owner⟩
        rcases failed i whole with long | ⟨tag, own, out⟩
        · omega
        · exact out (owner tag own)
      rw [State.restore_escrow, CountStore.restoredEscrow_failed bad]
      exact ⟨rfl, rfl⟩
    · rw [State.restore_box]
      exact (s.store.restoredBox_counts k).1
    · rw [State.restore_box]
      exact (s.store.restoredBox_counts k).2
    · rw [State.restore_box]
      cases k <;> rfl
    · have status : (s.restore.escrows.get l).status = .idle := by
        rw [State.restore_escrow]
        rfl
      rw [State.restore_lane]
      cases l <;> simpa [LaneRec.closed, PerLane.get] using status
    · cases k <;> simp [restartTurn, PerKind.get]
    · simp [Mechanism.restarted]
    · cases p <;> simp [PerPort.get, PortUnit.clear]
    · cases p <;> simp [PerPort.get, PortUnit.clear]
    · simp [EventSet.afterRestart]
  · have written := Written.of_content content
    obtain ⟨rdenoms, rsettings, rfloors, rlimits, rweights⟩ := written.restores denoms settings floors limits weights
    obtain ⟨-, -, tdenoms, tfloors, tlimits, -⟩ := State.restore_parts { s with powered := false }
    refine ⟨tdenoms.trans rdenoms, tfloors.trans rfloors, tlimits.trans (by rw [rlimits]; rfl), ?_, fun l => ?_,
      fun u => ?_⟩
    · refine PerKind.ext_get fun k => ?_
      rw [State.restore_box]
      exact written.restoredBox rlimits k
    · rw [State.restore_lane]
      have own : (s.store.restoredWeights).get l = (s.lanes.get l).weight := by rw [rweights, PerLane.get_map]
      exact own
    · obtain ⟨within, absent, empty, kind⟩ := units u
      rw [State.restore_unit]
      exact written.restoredUnit rdenoms rsettings within absent empty kind
  · intro goodDenoms goodSettings goodLimits goodFloors goodWeights goodSelects goodUnit goodEscrow failed
    have denoms := Cell.restored denomsInRange_iff c.denoms (Twelve.replicate Denom.default)
    have settings := Cell.restored settingsInRange_iff c.settings (Twelve.tabulate UnitSettings.default)
    have floors := Cell.restored floorsInRange_iff c.floors ⟨Twelve.replicate 0, Twelve.replicate 0⟩
    have limits := Cell.restored LimitsImage.inRange_iff c.limits LimitsImage.default
    have weights := Cell.restored weightsInRange_iff c.weights ⟨defaultWeight, defaultWeight⟩
    have selects := Cell.restored selectsInRange_iff c.selects (Eight.tabulate fun _ => Select.default)
    refine ⟨denoms.1, denoms.2, settings.1, fun bad u => ?_, floors.1, fun bad l d => ?_, limits.1, limits.2, weights.1,
      fun bad l => ?_, selects.1, fun bad n => ?_, c.isBlank_iff, fun blank r bad => ?_, fun written => ⟨?_, ?_, ?_, ?_,
      ?_, ?_, fun u => ?_, fun k => ?_, fun l => ?_⟩⟩
    · have own : c.restoredSettings = Twelve.tabulate UnitSettings.default := settings.2 bad
      rw [own, Twelve.get_tabulate, defaultSettings_eq]
    · have own : c.restoredFloors = ⟨Twelve.replicate 0, Twelve.replicate 0⟩ := floors.2 bad
      rw [own]
      cases l <;> exact Twelve.get_replicate ..
    · have own : c.restoredWeights = ⟨defaultWeight, defaultWeight⟩ := weights.2 bad
      rw [own]
      cases l <;> rfl
    · have own : c.restoredSelects = Eight.tabulate fun _ => Select.default := selects.2 bad
      rw [own, Eight.get_tabulate]
      rfl
    · exact absurd ((c.failed_iff r).mp bad).1 (by simp [blank])
    · exact CountStore.failed_cell written denomsInRange_iff c.isGood_denoms
    · exact CountStore.failed_cell written settingsInRange_iff c.isGood_settings
    · exact CountStore.failed_cell written floorsInRange_iff c.isGood_floors
    · exact CountStore.failed_cell written LimitsImage.inRange_iff c.isGood_limits
    · exact CountStore.failed_cell written weightsInRange_iff c.isGood_weights
    · exact CountStore.failed_cell written selectsInRange_iff c.isGood_selects
    · exact CountStore.failed_cell written (UnitImage.fits_iff _) (c.isGood_unit u)
    · have cell := CountStore.failed_cell (P := fun _ => True) written (by simp) (c.isGood_box k)
      exact cell.trans (by simp)
    · exact CountStore.failed_cell written EscrowImage.inRange_iff (c.isGood_escrow l)

end Sys2Proof.Machine
end

section
/-! SUPPORT. The law of the capacities (R4, R7, R89, R128). -/

namespace Sys2Proof.Machine

-- One proof after the other: many short proofs at once take more threads than the check's memory limit has room for.
set_option Elab.async false

/-! ### What keeps the capacities -/

/-- The jobs of the lanes and of the service queue draw on units (R89). -/
def State.UnitJobs (s : State) : Prop :=
  (∀ l : Lane, ∀ j ∈ s.laneJobs.get l, ∃ u, j.source = .unit u) ∧ ∀ j ∈ s.serviceJobs, ∃ u, j.source = .unit u

/-- The counts of units are within their capacities, the high-water marks too, with room at the drum of a stack-down. -/
theorem State.capacityLaw_iff (s : State) :
    s.CapacityLaw ↔ (∀ u : UnitId, (s.units.get u).count ≤ (s.units.get u).capacity ∧
      (s.units.get u).highWater ≤ (s.units.get u).capacity ∧
      (s.stackDownInto u = true → (s.units.get u).count < (s.units.get u).capacity)) ∧ s.UnitJobs := Iff.rfl

/-- No count rises, the limits stay, no stack-down into another drum is in flight, and queued jobs draw on units. -/
structure Lighter (s t : State) : Prop where
  units : ∀ u, (t.units.get u).count ≤ (s.units.get u).count ∧ (t.units.get u).capacity = (s.units.get u).capacity ∧
    (t.units.get u).highWater = (s.units.get u).highWater
  drums : ∀ u, t.stackDownInto u = true → s.stackDownInto u = true
  jobs : s.UnitJobs → t.UnitJobs

theorem Lighter.capacityLaw {s t : State} (h : Lighter s t) (law : s.CapacityLaw) : t.CapacityLaw := by
  rw [State.capacityLaw_iff] at law ⊢
  refine ⟨fun u => ?_, h.jobs law.2⟩
  obtain ⟨count, capacity, highWater⟩ := h.units u
  obtain ⟨within, mark, room⟩ := law.1 u
  exact ⟨by omega, by omega, fun into => by have := room (h.drums u into); omega⟩

theorem Lighter.refl (s : State) : Lighter s s := ⟨fun _ => ⟨le_rfl, rfl, rfl⟩, fun _ => id, id⟩

theorem Lighter.trans {s t u : State} (h : Lighter s t) (k : Lighter t u) : Lighter s u where
  units v := ⟨(k.units v).1.trans (h.units v).1, (k.units v).2.1.trans (h.units v).2.1,
    (k.units v).2.2.trans (h.units v).2.2⟩
  drums v := h.drums v ∘ k.drums v
  jobs := k.jobs ∘ h.jobs

theorem Lighter.ite {s t u : State} {p : Prop} [Decidable p] (ht : Lighter s t) (hu : Lighter s u) :
    Lighter s (if p then t else u) := by
  split
  · exact ht
  · exact hu

theorem Lighter.foldl {α : Type} {f : State → α → State} (h : ∀ s x, Lighter s (f s x)) (xs : List α) (s : State) :
    Lighter s (xs.foldl f s) := by
  induction xs generalizing s with
  | nil => exact .refl s
  | cons x xs ih => exact (h s x).trans (ih _)

theorem State.stackDownInto_congr {s t : State} (h : (t.mechs.get .note).phase = (s.mechs.get .note).phase) (u : UnitId) :
    t.stackDownInto u = s.stackDownInto u := by
  simp only [State.stackDownInto, h]

/-- An operation that leaves units, phases and queues. -/
theorem Lighter.same {s t : State} (units : t.units = s.units := by simp)
    (phase : (t.mechs.get .note).phase = (s.mechs.get .note).phase := by simp)
    (laneJobs : t.laneJobs = s.laneJobs := by simp) (serviceJobs : t.serviceJobs = s.serviceJobs := by simp) :
    Lighter s t where
  units u := by simp [units]
  drums u := by simp [State.stackDownInto_congr phase]
  jobs := by simp [State.UnitJobs, laneJobs, serviceJobs]

theorem Quiet.lighter {s t : State} (h : Quiet s t) : Lighter s t :=
  .same h.units (h.phases _) h.laneJobs h.serviceJobs

theorem Lighter.modUnit (s : State) (u : UnitId) (f : UnitRec → UnitRec)
    (h : ∀ r : UnitRec, (f r).count ≤ r.count ∧ (f r).capacity = r.capacity ∧ (f r).highWater = r.highWater := by simp) :
    Lighter s (s.modUnit u f) where
  units v := by
    simp only [State.modUnit_units, Twelve.get_modify]
    split
    next same => exact same ▸ h _
    · exact ⟨le_rfl, rfl, rfl⟩
  drums v := by simp [State.stackDownInto]
  jobs := id

/-- A change of the jobs of the lanes and the service queue that leaves their sources. -/
theorem Lighter.modJobs {s t : State} (units : t.units = s.units) (mechs : t.mechs = s.mechs)
    (laneJobs : ∀ l, ∀ j ∈ t.laneJobs.get l, ∃ i ∈ s.laneJobs.get l, j.source = i.source)
    (serviceJobs : ∀ j ∈ t.serviceJobs, ∃ i ∈ s.serviceJobs, j.source = i.source) : Lighter s t where
  units u := by simp [units]
  drums u := by simp [State.stackDownInto, mechs]
  jobs := by
    rintro ⟨lanes, service⟩
    refine ⟨fun l j hj => ?_, fun j hj => ?_⟩
    · obtain ⟨i, hi, same⟩ := laneJobs l j hj
      exact same ▸ lanes l i hi
    · obtain ⟨i, hi, same⟩ := serviceJobs j hj
      exact same ▸ service i hi

theorem State.modJob_eq (s : State) (n : Nat) (f : Job → Job) :
    s.modJob n f = { s with
      laneJobs := s.laneJobs.map (List.map fun j => if j.serial = n then f j else j)
      serviceJobs := s.serviceJobs.map fun j => if j.serial = n then f j else j
      stackJobs := s.stackJobs.map fun j => if j.serial = n then f j else j } := rfl

theorem State.dropJobs_eq (s : State) (p : Job → Bool) :
    s.dropJobs p = { s with
      laneJobs := s.laneJobs.map (List.filter fun j => !p j)
      serviceJobs := s.serviceJobs.filter fun j => !p j
      stackJobs := s.stackJobs.filter fun j => !p j } := rfl

theorem Lighter.modJob (s : State) (n : Nat) (f : Job → Job) (h : ∀ j, (f j).source = j.source := by intro _; rfl) :
    Lighter s (s.modJob n f) := by
  refine .modJobs rfl rfl (fun l j hj => ?_) fun j hj => ?_
  · simp only [State.modJob_eq, PerLane.get_map, List.mem_map] at hj
    obtain ⟨i, hi, rfl⟩ := hj
    exact ⟨i, hi, by split <;> simp [h]⟩
  · obtain ⟨i, hi, rfl⟩ := List.mem_map.mp hj
    exact ⟨i, hi, by split <;> simp [h]⟩

theorem Lighter.dropJobs (s : State) (p : Job → Bool) : Lighter s (s.dropJobs p) := by
  refine .modJobs rfl rfl (fun l j hj => ?_) fun j hj => ⟨j, List.mem_of_mem_filter hj, rfl⟩
  simp only [State.dropJobs_eq, PerLane.get_map] at hj
  exact ⟨j, List.mem_of_mem_filter hj, rfl⟩

theorem Lighter.dropJob (s : State) (n : Nat) : Lighter s (s.dropJob n) := .dropJobs ..

/-- A phase that is not an ejection, or one with the same source and destination as before. -/
theorem Lighter.setPhase (s : State) (k : Kind) (x : Phase)
    (h : ∀ e, x = .ejecting e → ∃ e', (s.mechs.get k).phase = .ejecting e' ∧ e'.source = e.source ∧ e'.dest = e.dest) :
    Lighter s (s.setPhase k x) where
  units _ := ⟨le_rfl, rfl, rfl⟩
  drums u into := by
    cases k with
    | coin => simpa [State.stackDownInto, State.setPhase, PerKind.get_modify] using into
    | note =>
      simp only [State.stackDownInto, State.setPhase, State.modMech_mechs, PerKind.get_modify_same] at into ⊢
      cases x with
      | ejecting e =>
        obtain ⟨e', before, source, dest⟩ := h e rfl
        simpa only [before, source, dest] using into
      | ready => simp at into
      | fault => simp at into
  jobs := id

theorem Lighter.endEjection (s : State) (k : Kind) (e : Ejection) {x : Phase} (h : ∀ e', x ≠ .ejecting e') :
    Lighter s (s.endEjection k e x) :=
  (Lighter.setPhase s k x fun e' he => absurd he (h e')).trans (.modJob ..)

/-! ### Operations that keep the capacities -/

theorem Lighter.markDirty (s : State) (r : RecordNo) : Lighter s (s.markDirty r) := .same

theorem Lighter.setUnitState (s : State) (u : UnitId) (st : UnitState) : Lighter s (s.setUnitState u st) :=
  (Lighter.modUnit s u fun r => { r with state := st }).trans (.markDirty ..)

theorem Lighter.lockIfDone (s : State) (u : UnitId) : Lighter s (s.lockIfDone u) := .ite (.setUnitState ..) (.refl s)

theorem Lighter.release (s : State) (u : UnitId) (n : Nat) : Lighter s (s.release u n) :=
  (Lighter.modUnit s u fun r => { r with committed := r.committed - n }).trans (.lockIfDone ..)

theorem Lighter.removeStopped (s : State) (j : Job) (u : UnitId) : Lighter s (s.removeStopped j u) :=
  (Lighter.dropJob s j.serial).trans (.release ..)

theorem Lighter.releaseJobs (s : State) (js : List Job) : Lighter s (s.releaseJobs js) := by
  refine .foldl (fun s j => ?_) js s
  split
  · exact .release ..
  · exact .refl s

theorem Lighter.stopJobs (s : State) (l : Lane) (tag : Nat) : Lighter s (s.stopJobs l tag) := by
  rw [State.stopJobs_eq]
  refine Lighter.trans (t := s.modLaneJobs l _) (.modJobs rfl rfl (fun i j hj => ?_) fun j hj => ⟨j, hj, rfl⟩)
    (.releaseJobs ..)
  simp only [State.modLaneJobs_laneJobs, PerLane.get_modify] at hj
  split at hj
  next same =>
    obtain ⟨j', hj', rfl⟩ := List.mem_map.mp hj
    exact ⟨j', same ▸ List.mem_of_mem_filter hj', by split <;> rfl⟩
  · exact ⟨j, hj, rfl⟩

theorem Lighter.placeService (s : State) (u : UnitId) (k : TransferKind) (n : Nat) : Lighter s (s.placeService u k n) where
  units v := by
    simp only [State.placeService, State.startTransfer, State.modTransfer_units, State.modUnit_units, Twelve.get_modify]
    split
    next same => exact same ▸ ⟨le_rfl, rfl, rfl⟩
    · exact ⟨le_rfl, rfl, rfl⟩
  drums v := by simp [State.stackDownInto]
  jobs := by
    rintro ⟨lanes, service⟩
    refine ⟨by simpa using lanes, fun j hj => ?_⟩
    rcases List.mem_append.mp hj with h | h
    · exact service j h
    · exact ⟨u, by rw [List.mem_singleton.mp h]⟩

theorem State.jobsOf_source (s : State) (l : Lane) (tag n : Nat) (xs : List Share) :
    ∀ j ∈ s.jobsOf l tag n xs, ∃ x ∈ xs, j.source = .unit x.unit := by
  induction xs generalizing n with
  | nil => simp [State.jobsOf]
  | cons x xs ih =>
    refine List.forall_mem_cons.mpr ⟨⟨x, by simp, rfl⟩, fun j hj => ?_⟩
    obtain ⟨y, hy, source⟩ := ih (n + 1) j hj
    exact ⟨y, .tail _ hy, source⟩

theorem behindLast_perm (l : Lane) (tag : Nat) (q js : List Job) : (behindLast l tag q js).Perm (q ++ js) := by
  have split := List.take_append_drop (lastOf l tag q) q
  calc (behindLast l tag q js).Perm ((q.take (lastOf l tag q) ++ q.drop (lastOf l tag q)) ++ js) := by
        simp only [behindLast, List.append_assoc]
        exact (List.perm_append_comm).append_left _
    _ = q ++ js := by rw [split]

/-- Where a completion's jobs stand, the queue holds its jobs and the new ones (R66, R90, R124). -/
theorem RequestKind.place_perm (k : RequestKind) (l : Lane) (tag : Nat) (q js : List Job) :
    (k.place l tag q js).Perm (q ++ js) := by
  cases k with
  | replan => exact behindLast_perm ..
  | refund | quote => exact .refl _

theorem Lighter.commit (s : State) (u : UnitId) (n : Nat) : Lighter s (s.commit u n) := .modUnit ..

theorem Lighter.placeShares (s : State) (l : Lane) (tag : Nat) (xs : List Share) {place : List Job → List Job → List Job}
    (h : ∀ q js, (place q js).Perm (q ++ js)) : Lighter s (s.placeShares l tag xs place) where
  units u := by
    have committed : Lighter s (s.commitAll xs) := .foldl (fun _ _ => .commit ..) xs s
    simpa [State.placeShares] using committed.units u
  drums u := by simp [State.stackDownInto]
  jobs := by
    rintro ⟨lanes, service⟩
    refine ⟨fun i j hj => ?_, by simpa [State.placeShares] using service⟩
    simp only [State.placeShares, State.modLaneJobs_laneJobs, PerLane.get_modify] at hj
    have before : (s.commitAll xs).laneJobs = s.laneJobs := by simp
    split at hj
    next same =>
      rcases List.mem_append.mp ((h _ _).mem_iff.mp hj) with old | new
      · exact lanes l j (before ▸ old)
      · obtain ⟨x, -, source⟩ := s.jobsOf_source l tag _ xs j new
        exact ⟨x.unit, source⟩
    · exact lanes i j (before ▸ hj)

theorem Lighter.deliver (s : State) (j : Job) (u : UnitId) (v : Nat) : Lighter s (s.deliver j u v) := .same

theorem Lighter.countPiece (s : State) (j : Job) (u : UnitId) : Lighter s (s.countPiece j u) := by
  have out : Lighter s (s.countOut u) :=
    (Lighter.modUnit s u fun r => { r with count := r.count - 1, committed := r.committed - 1 }).trans (.markDirty ..)
  exact (out.trans (.modJob _ j.serial fun j => { j with done := j.done + 1 })).trans (.deliver ..)

theorem Lighter.countExtra (s : State) (j : Job) (u : UnitId) : Lighter s (s.countExtra j u) :=
  ((Lighter.modUnit s u fun r => { r with count := r.count - 1 }).trans (.markDirty ..)).trans (.deliver ..)

theorem Lighter.closeJob (s : State) (j : Job) (u : UnitId) : Lighter s (s.closeJob j u) :=
  .ite ((Lighter.dropJob s j.serial).trans (.same (t := ((s.dropJob j.serial).sampleDepth j.origin).endTransferOf j u .complete)))
    (.ite (.removeStopped ..) (.refl s))

theorem Lighter.shortenJob (s : State) (j : Job) (u : UnitId) : Lighter s (s.shortenJob j u) := by
  have shortened : Lighter s ((s.modJob j.serial fun j => { j with ordered := j.ordered - 1 }).release u 1) :=
    (Lighter.modJob ..).trans (.release ..)
  have finish : ∀ t : State, Lighter t (if j.ordered - 1 ≤ j.done then (t.dropJob j.serial).endTransferOf j u .complete else t) :=
    fun t => .ite ((Lighter.dropJob t j.serial).trans (.same (t := (t.dropJob j.serial).endTransferOf j u .complete)))
      (.refl t)
  cases origin : j.origin <;> simp only [State.shortenJob, origin]
  · exact (shortened.trans .same).trans (finish _)
  · exact shortened.trans (finish _)
  · exact shortened.trans (finish _)
  · exact shortened.trans (finish _)

theorem Lighter.shorten (s : State) (u : UnitId) : Lighter s (s.shorten u) := by
  simp only [State.shorten]
  split
  · split
    · exact .shortenJob ..
    · exact .refl s
  · exact .refl s

theorem Ejection.after_ne (e e' : Ejection) : e.after ≠ .ejecting e' := by
  simp only [Ejection.after]; split <;> simp

theorem Ejection.afterStack_ne (e : Ejection) (p : Pieces) (e' : Ejection) : e.afterStack p ≠ .ejecting e' := by
  simp only [Ejection.afterStack]
  split
  · simp
  · cases p <;> simp

theorem Lighter.settleJob (s : State) (j : Job) : Lighter s (s.settleJob j) := .same

theorem Lighter.detect (s : State) (k : Kind) (e : Ejection) (j : Job) (u : UnitId) (p : Pieces) :
    Lighter s (s.detect k e j u p) := by
  have counted : Lighter s (s.countPieces j u p) :=
    (Lighter.countPiece s j u).trans <| Lighter.trans (.ite (.countPiece ..) (.refl _)) (.ite (.countExtra ..) (.refl _))
  have closed (t : State) (i : Job) : Lighter t ((t.closeJob i u).lockIfDone u) :=
    (Lighter.closeJob t i u).trans (.lockIfDone ..)
  exact ((counted.trans (.endEjection _ k e e.after_ne)).trans (closed ..)).trans <|
    Lighter.trans (.ite (.shorten ..) (.refl _)) (.settleJob ..)

theorem Lighter.stopEjection (s : State) (k : Kind) : Lighter s (s.stopEjection k) := by
  have uncertain : ∀ (t : State) (u : UnitId), Lighter t (t.makeUncertain u) := fun t u =>
    .ite (.refl t) (.setUnitState ..)
  have cleared : ∀ (t : State) (l : Lane), Lighter t (t.clearTransit l) := fun _ _ => .same
  simp only [State.stopEjection]
  split
  · exact .refl s
  next e _ =>
    have ended : Lighter s (s.endEjection k e .ready) := .endEjection s k e fun _ => nofun
    split
    · exact ended.trans (uncertain ..)
    · exact ended.trans ((cleared ..).trans (uncertain ..))
    · exact ended.trans (cleared ..)

/-! ### A piece that enters a unit (R16, R128) -/

/-- A piece enters a unit with room that no stack-down is bound for. -/
theorem State.CapacityLaw.countIn {s t : State} (law : s.CapacityLaw) {u : UnitId}
    (units : t.units = s.units.modify u fun r => { r with count := r.count + 1 })
    (laneJobs : t.laneJobs = s.laneJobs) (serviceJobs : t.serviceJobs = s.serviceJobs)
    (drums : ∀ v, t.stackDownInto v = true → s.stackDownInto v = true ∧ v ≠ u)
    (room : (s.units.get u).count < (s.units.get u).capacity) : t.CapacityLaw := by
  refine ⟨fun v => ?_, by simpa [laneJobs, serviceJobs] using law.2⟩
  obtain ⟨within, mark, free⟩ := law.1 v
  rw [units, Twelve.get_modify]
  split
  next same =>
    subst same
    exact ⟨room, mark, fun into => absurd rfl (drums v into).2⟩
  next other => exact ⟨within, mark, fun into => free (drums v into).1⟩

theorem State.stackDownInto_kind {s : State} {u : UnitId} (h : s.stackDownInto u = true) : unitKind u = .note := by
  simp only [State.stackDownInto] at h
  split at h
  · split at h
    next d _ _ =>
      obtain rfl := of_decide_eq_true h
      simp [Drum.unit, unitKind]
    · simp at h
  · simp at h
  · simp at h

theorem State.coinStore_fits {s : State} {l : Lane} {d : Slot} {u : UnitId} (h : s.coinStore l d = .unit u) :
    s.Fits .coin d UnitRec.highWater u ∨ s.Fits .coin d UnitRec.capacity u := by
  simp only [State.coinStore] at h
  split at h
  · cases route : s.route .coin d (s.floatHead l) with
    | none => simp [route] at h
    | some x =>
      obtain rfl : x = .unit u := by simpa [route] using h
      exact State.route_fits route
  · simp at h

theorem State.takeCoin_capacity {s : State} (law : s.CapacityLaw) (l : Lane) (d : Slot) : (s.takeCoin l d).CapacityLaw := by
  obtain ⟨units, -, -, -⟩ := s.takeCoin_store l d
  have drums (v) : (s.takeCoin l d).stackDownInto v = s.stackDownInto v := State.stackDownInto_congr (by simp) v
  cases store : s.coinStore l d with
  | cashbox =>
    have same : (s.takeCoin l d).units = s.units := units.trans (State.storeCoin_cashbox store).1
    exact (Lighter.same same).capacityLaw law
  | unit u =>
    have fits := State.coinStore_fits store
    have kind : unitKind u = .coin := by rcases fits with h | h <;> exact h.1
    refine law.countIn (u := u) (units.trans (State.storeCoin_unit store).2) (by simp) (by simp) (fun v into => ?_) ?_
    · rw [drums] at into
      refine ⟨into, fun same => ?_⟩
      simp [← same, State.stackDownInto_kind into] at kind
    · have mark := (law.1 u).2.1
      rcases fits with ⟨-, -, -, below⟩ | ⟨-, -, -, below⟩ <;> omega

/-- Where a note of a stack-down is stored (R128). -/
def State.storeNote (s : State) (e : Ejection) (l : Lane) : State :=
  match (s.escrows.get l).movingSlot with
  | some d => (s.popNote l).storePiece .note l d e.dest.store
  | none => s.popNote l

/-- The report of a stack-down counts the note and ends the ejection (R128, R129). -/
def State.endStackDown (s : State) (e : Ejection) (p : Pieces) : State :=
  (s.modJob e.job fun j => { j with done := j.done + 1 }).endEjection .note e (e.afterStack p)

theorem State.stackDetected_eq (s : State) (e : Ejection) (l : Lane) (p : Pieces) :
    s.stackDetected e l p = ((s.storeNote e l).endStackDown e p).closeStack l e.job := by
  cases moving : (s.escrows.get l).movingSlot <;>
    simp only [State.stackDetected, State.storeNote, State.endStackDown, moving]

theorem State.storeNote_units (s : State) (e : Ejection) (l : Lane) :
    (s.storeNote e l).units = s.units ∨
      ∃ d, e.dest = .drum d ∧
        (s.storeNote e l).units = s.units.modify d.unit fun r => { r with count := r.count + 1 } := by
  simp only [State.storeNote]
  split
  next slot _ =>
    cases dest : e.dest with
    | drum d => exact .inr ⟨d, rfl, by simp [Dest.store, State.storePiece, State.countIn]⟩
    | _ => exact .inl (by simp [Dest.store, State.storePiece, State.sampleToCashbox])
  · exact .inl (by simp)

theorem State.endStackDown_jobs {s t : State} (laneJobs : t.laneJobs = s.laneJobs)
    (serviceJobs : t.serviceJobs = s.serviceJobs) (e : Ejection) (p : Pieces) :
    (t.endStackDown e p).laneJobs = (s.endStackDown e p).laneJobs ∧
      (t.endStackDown e p).serviceJobs = (s.endStackDown e p).serviceJobs := by
  simp [State.endStackDown, State.endEjection, State.setPhase, State.landJob, State.modJob_eq, laneJobs, serviceJobs]

/-- After the report of a stack-down none is in flight (R129). -/
theorem State.endStackDown_idle (s : State) (e : Ejection) (p : Pieces) (u : UnitId) :
    (s.endStackDown e p).stackDownInto u = false := by
  have phase : ((s.endStackDown e p).mechs.get .note).phase = e.afterStack p := by
    simp [State.endStackDown, State.endEjection, State.setPhase, State.landJob]
  cases h : e.afterStack p with
  | ejecting e' => exact absurd h (e.afterStack_ne p e')
  | ready => simp [State.stackDownInto, phase, h]
  | fault c => simp [State.stackDownInto, phase, h]

theorem Lighter.endStackDown (s : State) (e : Ejection) (p : Pieces) : Lighter s (s.endStackDown e p) :=
  (Lighter.modJob ..).trans (.endEjection _ _ e (e.afterStack_ne p))

theorem Lighter.closeStack (s : State) (l : Lane) (n : Nat) : Lighter s (s.closeStack l n) := by
  simp only [State.closeStack]
  split
  · split
    · exact .dropJob s n
    · exact (Lighter.dropJob s n).trans (.same (t := (s.dropJob n).setOwner l .none))
  · exact .refl s

/-- A note of a stack-down enters the drum that it is bound for, which has room for it (R128). -/
theorem State.stackDetected_capacity {s : State} (law : s.CapacityLaw) {e : Ejection} {l : Lane} (p : Pieces)
    (ejecting : s.ejection .note = some e) (source : e.source = .escrow l) : (s.stackDetected e l p).CapacityLaw := by
  rw [State.stackDetected_eq]
  refine (Lighter.closeStack ..).capacityLaw ?_
  have ended := (Lighter.endStackDown s e p).capacityLaw law
  have units : (s.endStackDown e p).units = s.units := by simp [State.endStackDown]
  have units' : ((s.storeNote e l).endStackDown e p).units = (s.storeNote e l).units := by simp [State.endStackDown]
  have stored : (s.storeNote e l).laneJobs = s.laneJobs ∧ (s.storeNote e l).serviceJobs = s.serviceJobs := by
    simp only [State.storeNote]
    split <;> simp
  obtain ⟨laneJobs, serviceJobs⟩ := State.endStackDown_jobs stored.1 stored.2 e p
  rcases s.storeNote_units e l with same | ⟨d, dest, counted⟩
  · refine Lighter.capacityLaw (s := s.endStackDown e p) ?_ ended
    exact
      { units := fun v => by rw [units', same, units]; exact ⟨le_rfl, rfl, rfl⟩
        drums := fun v into => by simp [State.endStackDown_idle] at into
        jobs := by simp [State.UnitJobs, laneJobs, serviceJobs] }
  · refine ended.countIn (u := d.unit) (by rw [units', counted, units]) laneJobs serviceJobs (fun v into => ?_) ?_
    · simp [State.endStackDown_idle] at into
    · have into : s.stackDownInto d.unit = true := by
        simp [State.stackDownInto, State.ejecting_phase ejecting, source, dest]
      rw [units]
      exact (law.1 d.unit).2.2 into

end Sys2Proof.Machine
end

section
/-! SUPPORT. Every step keeps the law of the capacities (R4, R7, R89, R128). -/

namespace Sys2Proof.Machine

-- One proof after the other: many short proofs at once take more threads than the check's memory limit has room for.
set_option Elab.async false

/-! ### The changes that commands make -/

/-- A note report leaves the jobs of the lanes and of the service queue. -/
theorem State.takeNote_jobs (s : State) (l : Lane) (d : Slot) :
    (s.takeNote l d).laneJobs = s.laneJobs ∧ (s.takeNote l d).serviceJobs = s.serviceJobs := by
  simp only [State.takeNote, State.joinStackDown]
  (repeat' split) <;> simp

/-- A unit may take new settings or a new count when no stack-down is bound for it (R4, R7, R138, R142). -/
theorem State.CapacityLaw.modUnit {s t : State} (law : s.CapacityLaw) {u : UnitId} {f : UnitRec → UnitRec}
    (units : t.units = s.units.modify u f) (mechs : t.mechs = s.mechs) (laneJobs : t.laneJobs = s.laneJobs)
    (serviceJobs : t.serviceJobs = s.serviceJobs) (free : s.stackDownInto u = false)
    (within : (f (s.units.get u)).count ≤ (f (s.units.get u)).capacity)
    (mark : (f (s.units.get u)).highWater ≤ (f (s.units.get u)).capacity) : t.CapacityLaw := by
  refine ⟨fun v => ?_, by simpa [laneJobs, serviceJobs] using law.2⟩
  have into : t.stackDownInto v = s.stackDownInto v := State.stackDownInto_congr (by rw [mechs]) v
  rw [units, Twelve.get_modify, into]
  split
  next same =>
    subst same
    exact ⟨within, mark, by simp [free]⟩
  · exact law.1 v

theorem State.writeSettings_capacity {s : State} (law : s.CapacityLaw) {u : UnitId} {x : UnitSettings}
    (range : s.writeUnitInRange u x = true) (allowed : s.writeUnitAllowed u x.slot = true) :
    (s.writeSettings u x).CapacityLaw := by
  simp only [State.writeUnitInRange, UnitSettings.inRange, Bool.and_eq_true, decide_eq_true_eq] at range
  simp only [State.writeUnitAllowed, Bool.and_eq_true, Bool.not_eq_true'] at allowed
  obtain ⟨⟨⟨-, -, -, mark, -⟩, -⟩, within⟩ := range
  obtain ⟨⟨⟨-, free⟩, -⟩, -⟩ := allowed
  exact law.modUnit (u := u) (f := fun r =>
    { r with slot := x.slot, capacity := x.capacity, highWater := x.highWater, sweepTarget := x.sweepTarget,
             mask := x.mask, state := writtenState (s.units.get u).state x.slot })
    (by simp [State.writeSettings]) (by simp) (by simp) (by simp) free within mark

theorem State.audit_capacity {s : State} (law : s.CapacityLaw) {u : UnitId} {n : Nat}
    (range : n ≤ (s.units.get u).capacity) (allowed : s.auditAllowed u = true) : (s.audit u n).CapacityLaw := by
  simp only [State.auditAllowed, Bool.and_eq_true, Bool.not_eq_true'] at allowed
  obtain ⟨⟨-, free⟩, -⟩ := allowed
  exact law.modUnit (u := u) (f := fun r => { r with count := n, state := .locked }) (by simp [State.audit])
    (by simp) (by simp) (by simp) free range (law.1 u).2.1

theorem atTail_perm (q js : List Job) : (atTail q js).Perm (q ++ js) := .refl _

/-- PAY leaves the units and the queues of units as the placing of its shares makes them. -/
theorem State.payOut_placed (s : State) (l : Lane) (tag : Nat) (xs : List Share) (v : Nat) :
    (s.payOut l tag xs v).units = ((s.dropReservation l tag).placeShares l tag xs atTail).units ∧
      (s.payOut l tag xs v).laneJobs = ((s.dropReservation l tag).placeShares l tag xs atTail).laneJobs := by
  simp only [State.payOut]
  (repeat' split) <;> simp

theorem Lighter.payOut (s : State) (l : Lane) (tag : Nat) (xs : List Share) (v : Nat) :
    Lighter s (s.payOut l tag xs v) := by
  obtain ⟨units, laneJobs⟩ := s.payOut_placed l tag xs v
  have dropped : Lighter s (s.dropReservation l tag) := .same
  exact (dropped.trans (.placeShares _ l tag xs atTail_perm)).trans (.same units (by simp) laneJobs (by simp))

theorem Lighter.stopSale (s : State) (l : Lane) (x : Sale) : Lighter s (s.stopSale l x) :=
  (Lighter.stopJobs s l x.tag).trans (.same (t := s.stopSale l x) (by simp [State.stopSale, State.dropRequest]) (by simp) (by simp [State.stopSale, State.dropRequest]) (by simp))

theorem Lighter.dismissJobs (s : State) (u : UnitId) : Lighter s (s.dismissJobs u) :=
  ((Lighter.dropJobs s fun j => j.onUnit u).trans (.modUnit _ u fun r => { r with committed := 0 })).trans
    (.same (by simp [State.dismissJobs]) (by simp) (by simp [State.dismissJobs]) (by simp [State.dismissJobs]))

theorem Lighter.thirdMiss (s : State) (k : Kind) (e : Ejection) (j : Job) (u : UnitId) :
    Lighter s (s.thirdMiss k e j u) := by
  have ended : Lighter s (s.endEjection k e .ready) := .endEjection s k e fun _ => nofun
  have sampled (t : State) : Lighter t (t.sampleJam j u) := .same
  exact ended.trans <| Lighter.trans (.ite (.setUnitState ..) (.refl _)) ((Lighter.dismissJobs ..).trans (sampled _))

theorem Lighter.lastMiss (s : State) (k : Kind) (e : Ejection) (j : Job) (u : UnitId) : Lighter s (s.lastMiss k e j u) :=
  (Lighter.endEjection s k e e.after_ne).trans (.ite (.removeStopped ..) (.refl _))

/-- The shares that a completion turns into jobs: those that the lane's queue has room for (R66, R67, R90). -/
def State.completionShares (s : State) (r : PlanReq) : List Share :=
  (splitPlan r.lane (s.planOf (s.searchFor r.lane r.tag r.amount r.shielded)) s).1.take
    (Config.laneQueueRoom - (s.laneJobs.get r.lane).length)

/-- A completion leaves the units and the queues as the placing of its shares makes them. -/
theorem State.completeJobs_placed (s : State) (r : PlanReq) :
    (s.completeJobs r).units =
        (s.placeShares r.lane r.tag (s.completionShares r) (r.kind.place r.lane r.tag)).units ∧
      (s.completeJobs r).laneJobs =
        (s.placeShares r.lane r.tag (s.completionShares r) (r.kind.place r.lane r.tag)).laneJobs := by
  simp [State.completeJobs, State.completionShares]

theorem Lighter.completeJobs (s : State) (r : PlanReq) : Lighter s (s.completeJobs r) := by
  obtain ⟨units, laneJobs⟩ := s.completeJobs_placed r
  exact (Lighter.placeShares s r.lane r.tag _ (r.kind.place_perm r.lane r.tag)).trans
    (.same units (by simp) laneJobs (by simp))

theorem Lighter.writeSetting (s : State) (x : Setting) (v : Nat) : Lighter s (s.writeSetting x v) := by
  cases x with
  | cupLimit => exact .same (t := s.writeCupLimit v)
  | outletLimit => exact .same (t := s.writeOutletLimit v)
  | weight l => exact .same (t := s.modLane l fun r => { r with weight := v })
  | cashboxCapacity k => exact .same (t := s.modBox k fun b => { b with capacity := v })
  | _ => exact .same rfl rfl rfl rfl

/-- A controller that is tested is not EJECTING where it was not (R112). -/
theorem Mechanism.tested_ejecting {m : Mechanism} {e : Ejection} (h : m.tested.phase = .ejecting e) :
    m.phase = .ejecting e := by
  unfold Mechanism.tested at h
  cases phase : m.phase with
  | ready =>
    rw [phase] at h
    by_cases sense : m.sense = true <;> simp_all
  | ejecting e' => simpa [phase] using h
  | fault c => simp [phase] at h

theorem State.stackDownInto_iff (s : State) (u : UnitId) :
    s.stackDownInto u = true ↔
      ∃ e l d, (s.mechs.get .note).phase = .ejecting e ∧ e.source = .escrow l ∧ e.dest = .drum d ∧ d.unit = u := by
  unfold State.stackDownInto
  cases (s.mechs.get .note).phase with
  | ready => simp
  | fault => simp
  | ejecting e => cases source : e.source <;> cases dest : e.dest <;> simp [source, dest]

theorem Lighter.tested (s : State) : Lighter s { s with retest := false, mechs := s.mechs.map Mechanism.tested } where
  units _ := ⟨le_rfl, rfl, rfl⟩
  drums u into := by
    rw [State.stackDownInto_iff] at into ⊢
    obtain ⟨e, l, d, phase, ends⟩ := into
    exact ⟨e, l, d, Mechanism.tested_ejecting (by simpa using phase), ends⟩
  jobs := id

/-- After a reset no queue holds a job, and no ejection is in flight (R160). -/
theorem Lighter.reset (s : State) (cause : RestartCause) : Lighter s (s.resetStores.clearRun cause) where
  units u := by
    obtain ⟨settings, count, -⟩ := s.resetStores_unit u
    simp only [UnitRec.settings, UnitSettings.mk.injEq] at settings
    obtain ⟨-, capacity, mark, -⟩ := settings
    simpa using ⟨count.le, capacity, mark⟩
  drums u into := by
    rw [State.stackDownInto_iff] at into
    obtain ⟨e, -, -, phase, -⟩ := into
    simp [State.clearRun, Mechanism.restarted] at phase
  jobs _ := by
    refine ⟨fun l j hj => ?_, fun j hj => ?_⟩
    · cases l <;> exact absurd hj List.not_mem_nil
    · simp [State.clearRun] at hj

theorem Change.capacity {t m : State} {c : Closing} (h : Change t c m) (law : t.CapacityLaw) : m.CapacityLaw := by
  cases h with
  | quiet | settle | write => exact law
  | openSale | tender | quote | cancelWaiting | cancel | release | laneOpen | laneClose | floorHold | floorYield |
    setFloor | floatInBegin | floatInEnd | giveBack | keep | cashboxCleared | counterSet | returned |
    returnFails | cupCleared | outletCleared | expire | planDropped | completeQuote =>
    exact (Lighter.same (s := t)).capacityLaw law
  | @note l d =>
    obtain ⟨laneJobs, serviceJobs⟩ := t.takeNote_jobs l d
    exact (Lighter.same (s := t) (by simp) (by simp) laneJobs serviceJobs).capacityLaw law
  | pay =>
    have settled (s : State) (l : Lane) (tag : Nat) : Lighter s (s.settleTest l tag) := .same
    exact ((Lighter.payOut ..).trans (settled ..)).capacityLaw law
  | stop => exact (Lighter.stopSale ..).capacityLaw law
  | lockUnit | unlockUnit | clearJam => exact (Lighter.setUnitState ..).capacityLaw law
  | writeUnit range allowed => exact State.writeSettings_capacity law range allowed
  | setDenom => exact (Lighter.same (s := t)).capacityLaw law
  | setLimits => exact ((Lighter.writeSetting ..).trans (.markDirty ..)).capacityLaw law
  | auditUnit range allowed => exact State.audit_capacity law range allowed
  | emptyUnit => exact (Lighter.placeService ..).capacityLaw law
  | @clearFault k => exact (Lighter.setPhase t k .ready fun _ h => by simp at h).capacityLaw law
  | coin l d => exact State.takeCoin_capacity law l d
  | @strayEnd k e => exact (Lighter.endEjection t k e e.after_ne).capacityLaw law
  | exit => exact (Lighter.detect ..).capacityLaw law
  | entry pieces stored ejecting source => exact State.stackDetected_capacity law pieces ejecting source
  | @stackMiss k e l =>
    have cleared : Lighter t (t.clearTransit l) := .same
    exact (cleared.trans (.endEjection _ _ _ fun _ h => by simp at h)).capacityLaw law
  | @retry k e ejecting =>
    exact (Lighter.setPhase t k _ fun e' he => ⟨e, State.ejecting_phase ejecting, by cases he; exact ⟨rfl, rfl⟩⟩).capacityLaw law
  | lastMiss => exact (Lighter.lastMiss ..).capacityLaw law
  | thirdMiss => exact (Lighter.thirdMiss ..).capacityLaw law
  | @senseReady k => exact (Lighter.setPhase t k (.fault .faultSense) fun _ h => by simp at h).capacityLaw law
  | @senseEjecting k e ejecting =>
    exact (Lighter.setPhase t k _ fun e' he => ⟨e, State.ejecting_phase ejecting, by cases he; exact ⟨rfl, rfl⟩⟩).capacityLaw law
  | @completeJobs r rest =>
    exact (Lighter.trans (t := { t with planReqs := rest }) .same (.completeJobs ..)).capacityLaw law
  | tested => exact (Lighter.tested t).capacityLaw law
  | pfwActive => exact ((Lighter.stopEjection ..).trans (.stopEjection ..)).capacityLaw law
  | reset cause => exact (Lighter.reset t cause).capacityLaw law

end Sys2Proof.Machine
end

section
/-! SUPPORT. The ledger of the float: what jobs owe, what units hold committed, and the states of units (R7, R10, R91,
R114, R115, R121). -/

namespace Sys2Proof.Machine

-- One proof after the other: many short proofs at once take more threads than the check's memory limit has room for.
set_option Elab.async false

/-! ### What jobs owe -/

/-- The pieces that a job owes from a unit. -/
def Job.owes (j : Job) (u : UnitId) : Nat := if j.source = .unit u then j.undone else 0

theorem Job.owes_other {j : Job} {u : UnitId} (h : j.source ≠ .unit u) : j.owes u = 0 := if_neg h

theorem Job.owes_own {j : Job} {u : UnitId} (h : j.source = .unit u) : j.owes u = j.undone := if_pos h

theorem owedBy_eq (js : List Job) (u : UnitId) : owedBy js u = (js.map fun j => j.owes u).sum := by
  induction js with
  | nil => rfl
  | cons j js ih =>
    by_cases on : j.source = .unit u <;> simpa [owedBy, Job.owes, Job.onUnit, on] using ih

@[simp] theorem owedBy_nil (u : UnitId) : owedBy [] u = 0 := rfl

theorem owedBy_cons (j : Job) (js : List Job) (u : UnitId) : owedBy (j :: js) u = j.owes u + owedBy js u := by
  simp [owedBy_eq]

theorem owedBy_append (js ks : List Job) (u : UnitId) : owedBy (js ++ ks) u = owedBy js u + owedBy ks u := by
  simp [owedBy_eq]

theorem owedBy_perm {js ks : List Job} (h : js.Perm ks) (u : UnitId) : owedBy js u = owedBy ks u := by
  simpa [owedBy_eq] using (h.map fun j => j.owes u).sum_eq

theorem owedBy_filter (js : List Job) (p : Job → Bool) (u : UnitId) :
    owedBy (js.filter p) u + owedBy (js.filter fun j => !p j) u = owedBy js u := by
  rw [← owedBy_append]
  exact owedBy_perm (List.filter_append_perm p js) u

/-- A change of jobs that leaves what each owes. -/
theorem owedBy_map {js : List Job} {f : Job → Job} {u : UnitId} (h : ∀ j ∈ js, (f j).owes u = j.owes u) :
    owedBy (js.map f) u = owedBy js u := by
  simp only [owedBy_eq, List.map_map]
  exact congrArg List.sum (List.map_congr_left h)

/-- What is owed of a unit is owed by a job on it. -/
theorem owedBy_pos {js : List Job} {u : UnitId} (h : 0 < owedBy js u) : ∃ j ∈ js, j.source = .unit u := by
  by_contra none
  have zero : (js.any fun j => j.onUnit u) = false := by simpa [Job.onUnit] using none
  exact absurd (owedBy_eq_zero zero) h.ne'

theorem owes_le_owedBy {js : List Job} {j : Job} (h : j ∈ js) (u : UnitId) : j.owes u ≤ owedBy js u := by
  rw [owedBy_eq]
  exact List.le_sum_of_mem (List.mem_map_of_mem h)

theorem State.mem_allJobs (s : State) (j : Job) :
    j ∈ s.allJobs ↔ (∃ l, j ∈ s.laneJobs.get l) ∨ j ∈ s.serviceJobs ∨ j ∈ s.stackJobs := by
  constructor
  · simp only [State.allJobs, List.mem_append]
    rintro (((h | h) | h) | h)
    exacts [.inl ⟨.a, h⟩, .inl ⟨.b, h⟩, .inr (.inl h), .inr (.inr h)]
  · simp only [State.allJobs, List.mem_append]
    rintro (⟨l, h⟩ | h | h)
    · cases l
      exacts [.inl (.inl (.inl h)), .inl (.inl (.inr h))]
    exacts [.inl (.inr h), .inr h]

theorem State.allJobs_congr {s t : State} (lanes : t.laneJobs = s.laneJobs) (service : t.serviceJobs = s.serviceJobs)
    (stack : t.stackJobs = s.stackJobs) : t.allJobs = s.allJobs := by
  simp [State.allJobs, lanes, service, stack]

/-! ### The ledger -/

/-- Jobs and units agree, and units stand by their states. -/
abbrev State.Ledger (s : State) : Prop := s.JobLaw ∧ s.UnitStateLaw

/-- No job draws on the unit where nothing is owed of it. -/
theorem State.JobLaw.idle {s : State} (law : s.JobLaw) {u : UnitId} (zero : (s.units.get u).committed = 0) :
    ∀ j ∈ s.allJobs, j.source ≠ .unit u := by
  obtain ⟨committed, undone, -⟩ := law
  intro j hj on
  have less := undone j hj u on
  have owes := owes_le_owedBy hj u
  have owed : (s.units.get u).committed = owedBy s.allJobs u := committed u
  rw [Job.owes_own on, Job.undone] at owes
  omega

/-- Every job comes from one with its serial number and source at the same place; none is new. -/
structure Edited (s t : State) : Prop where
  lanes : ∀ l, ∀ j ∈ t.laneJobs.get l, ∃ i ∈ s.laneJobs.get l, i.serial = j.serial ∧ i.source = j.source
  service : ∀ j ∈ t.serviceJobs, ∃ i ∈ s.serviceJobs, i.serial = j.serial ∧ i.source = j.source
  stack : ∀ j ∈ t.stackJobs, ∃ i ∈ s.stackJobs, i.serial = j.serial ∧ i.source = j.source
  serials : (t.allJobs.map Job.serial).Sublist (s.allJobs.map Job.serial)
  next : t.nextJob = s.nextJob

theorem Edited.all {s t : State} (h : Edited s t) {j : Job} (hj : j ∈ t.allJobs) :
    ∃ i ∈ s.allJobs, i.serial = j.serial ∧ i.source = j.source := by
  simp only [State.mem_allJobs] at hj ⊢
  rcases hj with ⟨l, hj⟩ | hj | hj
  · obtain ⟨i, hi, same⟩ := h.lanes l j hj
    exact ⟨i, .inl ⟨l, hi⟩, same⟩
  · obtain ⟨i, hi, same⟩ := h.service j hj
    exact ⟨i, .inr (.inl hi), same⟩
  · obtain ⟨i, hi, same⟩ := h.stack j hj
    exact ⟨i, .inr (.inr hi), same⟩

theorem Edited.trans {s t u : State} (h : Edited s t) (k : Edited t u) : Edited s u where
  lanes l j hj := by
    obtain ⟨i, hi, serial, source⟩ := k.lanes l j hj
    obtain ⟨i', hi', serial', source'⟩ := h.lanes l i hi
    exact ⟨i', hi', serial'.trans serial, source'.trans source⟩
  service j hj := by
    obtain ⟨i, hi, serial, source⟩ := k.service j hj
    obtain ⟨i', hi', serial', source'⟩ := h.service i hi
    exact ⟨i', hi', serial'.trans serial, source'.trans source⟩
  stack j hj := by
    obtain ⟨i, hi, serial, source⟩ := k.stack j hj
    obtain ⟨i', hi', serial', source'⟩ := h.stack i hi
    exact ⟨i', hi', serial'.trans serial, source'.trans source⟩
  serials := k.serials.trans h.serials
  next := k.next.trans h.next

theorem Edited.same {s t : State} (laneJobs : t.laneJobs = s.laneJobs := by simp)
    (serviceJobs : t.serviceJobs = s.serviceJobs := by simp) (stackJobs : t.stackJobs = s.stackJobs := by simp)
    (next : t.nextJob = s.nextJob := by simp) : Edited s t where
  lanes l j hj := ⟨j, by simpa [laneJobs] using hj, rfl, rfl⟩
  service j hj := ⟨j, by simpa [serviceJobs] using hj, rfl, rfl⟩
  stack j hj := ⟨j, by simpa [stackJobs] using hj, rfl, rfl⟩
  serials := by rw [State.allJobs_congr laneJobs serviceJobs stackJobs]
  next := next

/-- Every ejection in flight was in flight for the same job from the same source. -/
def SameFlights (s t : State) : Prop :=
  ∀ k e, (t.mechs.get k).phase = .ejecting e →
    ∃ e', (s.mechs.get k).phase = .ejecting e' ∧ e'.job = e.job ∧ e'.source = e.source

theorem SameFlights.of_phase {s t : State} (h : ∀ k, (t.mechs.get k).phase = (s.mechs.get k).phase) : SameFlights s t :=
  fun k e phase => ⟨e, (h k).symm.trans phase, rfl, rfl⟩

/-- A unit's state after an operation, as the ledger reads it: a unit becomes JAMMED, ABSENT or LOCKED only where
nothing of it stays committed. -/
structure UnitMove (s t : State) (u : UnitId) : Prop where
  absent : (t.units.get u).state = .absent ↔ (t.units.get u).slot = none
  active : (t.units.get u).state = .active → t.slotFitsUnit u = true
  idle : (t.units.get u).state = .jammed ∨ (t.units.get u).state = .absent →
    (t.units.get u).committed = 0 ∨ (s.units.get u).state = .jammed ∨ (s.units.get u).state = .absent
  locked : (t.units.get u).state = .locked → (t.units.get u).committed = 0 ∨ (s.units.get u).state = .locked

theorem State.slotFitsUnit_congr {s t : State} {u : UnitId} (slot : (t.units.get u).slot = (s.units.get u).slot)
    (kinds : ∀ d, (s.units.get u).slot = some d → (t.denoms.get d).kind = (s.denoms.get d).kind) :
    t.slotFitsUnit u = s.slotFitsUnit u := by
  unfold State.slotFitsUnit
  rw [slot]
  cases h : (s.units.get u).slot with
  | none => rfl
  | some d => simp only [kinds d h]

/-- The slot stays, and so does the state, or the unit leaves ACTIVE for a state that its committed pieces allow. -/
theorem UnitMove.of_keeps {s t : State} (law : s.UnitStateLaw) {u : UnitId}
    (slot : (t.units.get u).slot = (s.units.get u).slot)
    (kinds : ∀ d, (s.units.get u).slot = some d → (t.denoms.get d).kind = (s.denoms.get d).kind)
    (state : (t.units.get u).state = (s.units.get u).state ∨
      (s.units.get u).state ≠ .absent ∧ (t.units.get u).state ≠ .absent ∧ (t.units.get u).state ≠ .active ∧
        ((t.units.get u).committed = 0 ∨ (t.units.get u).state ≠ .jammed ∧ (t.units.get u).state ≠ .locked)) :
    UnitMove s t u := by
  obtain ⟨absent, active, -, -⟩ := law u
  rcases state with same | ⟨before, after, left, idle⟩
  · exact
      { absent := by rw [same, slot, absent]
        active := fun h => by rw [State.slotFitsUnit_congr slot kinds]; exact active (same ▸ h)
        idle := fun h => .inr (same ▸ h)
        locked := fun h => .inr (same ▸ h) }
  · exact
      { absent := by
          rw [slot]
          exact ⟨fun h => absurd h after, fun h => absurd (absent.mpr h) before⟩
        active := fun h => absurd h left
        idle := by tauto
        locked := by tauto }

/-- The ledger after a change that adds no job. -/
theorem State.Ledger.edit {s t : State} (law : s.Ledger) (jobs : Edited s t)
    (undone : ∀ j ∈ t.allJobs, ∀ u, j.source = .unit u → j.done < j.ordered)
    (owed : ∀ u, (t.units.get u).committed = t.owed u) (flights : SameFlights s t) (units : ∀ u, UnitMove s t u) :
    t.Ledger := by
  obtain ⟨⟨-, -, serials, below, stack, flight⟩, states⟩ := law
  have jobLaw : t.JobLaw := by
    refine ⟨owed, undone, jobs.serials.nodup serials, fun j hj => ?_, fun j hj => ?_, fun k e phase => ?_⟩
    · obtain ⟨i, hi, serial, -⟩ := jobs.all hj
      rw [← serial, jobs.next]
      exact below i hi
    · obtain ⟨i, hi, -, source⟩ := jobs.stack j hj
      rw [← source]
      exact stack i hi
    · obtain ⟨e', phase', job, source⟩ := flights k e phase
      obtain ⟨low, same⟩ := flight k e' phase'
      refine ⟨by rw [← job, jobs.next]; exact low, fun j hj serial => ?_⟩
      obtain ⟨i, hi, serial', source'⟩ := jobs.all hj
      rw [← source', ← source]
      exact same i hi (by rw [serial', serial, job])
  refine ⟨jobLaw, fun u => ⟨(units u).absent, (units u).active, fun h j hj on => ?_, fun h l j hj on => ?_⟩⟩
  · rcases (units u).idle h with zero | before
    · exact jobLaw.idle zero j hj on
    · obtain ⟨i, hi, -, source⟩ := jobs.all hj
      exact (states u).2.2.1 before i hi (source.trans on)
  · rcases (units u).locked h with zero | before
    · exact jobLaw.idle zero j ((t.mem_allJobs j).mpr (.inl ⟨l, hj⟩)) on
    · obtain ⟨i, hi, -, source⟩ := jobs.lanes l j hj
      exact (states u).2.2.2 before l i hi (source.trans on)

/-- The ledger after a change of units, denominations and mechanisms that leaves the jobs and what is committed. -/
theorem State.Ledger.units {s t : State} (law : s.Ledger) (laneJobs : t.laneJobs = s.laneJobs)
    (serviceJobs : t.serviceJobs = s.serviceJobs) (stackJobs : t.stackJobs = s.stackJobs) (next : t.nextJob = s.nextJob)
    (committed : ∀ u, (t.units.get u).committed = (s.units.get u).committed) (flights : SameFlights s t)
    (units : ∀ u, UnitMove s t u) : t.Ledger := by
  have same := State.allJobs_congr laneJobs serviceJobs stackJobs
  refine law.edit (.same laneJobs serviceJobs stackJobs next) (by rw [same]; exact law.1.2.1) (fun u => ?_) flights units
  rw [committed, law.1.1 u]
  simp only [State.owed, same]

/-- An operation that leaves units, jobs and phases. -/
theorem State.Ledger.same {s t : State} (law : s.Ledger) (units : t.units = s.units := by simp)
    (denoms : t.denoms = s.denoms := by simp) (laneJobs : t.laneJobs = s.laneJobs := by simp)
    (serviceJobs : t.serviceJobs = s.serviceJobs := by simp) (stackJobs : t.stackJobs = s.stackJobs := by simp)
    (next : t.nextJob = s.nextJob := by simp)
    (phases : ∀ k, (t.mechs.get k).phase = (s.mechs.get k).phase := by simp) : t.Ledger :=
  law.units laneJobs serviceJobs stackJobs next (by simp [units]) (.of_phase phases) fun u =>
    .of_keeps law.2 (by simp [units]) (by simp [denoms]) (by simp [units])

theorem Quiet.ledger {s t : State} (h : Quiet s t) (law : s.Ledger) : t.Ledger :=
  law.same h.units h.denoms h.laneJobs h.serviceJobs h.stackJobs h.nextJob h.phases

/-- New jobs at the ends of their places, with their pieces committed of units that may take them. -/
structure Placed (s t : State) (new : List Job) : Prop where
  jobs : t.allJobs.Perm (s.allJobs ++ new)
  lanes : ∀ l, ∀ j ∈ t.laneJobs.get l, j ∈ s.laneJobs.get l ∨ j ∈ new ∧ ∀ u, j.source = .unit u → (s.units.get u).state ≠ .locked
  stack : ∀ j ∈ t.stackJobs, j ∈ s.stackJobs ∨ ∃ l, j.source = .escrow l
  serials : (new.map Job.serial).Nodup
  fresh : ∀ j ∈ new, s.nextJob ≤ j.serial ∧ j.serial < t.nextJob
  next : s.nextJob ≤ t.nextJob
  undone : ∀ j ∈ new, ∀ u, j.source = .unit u → j.done < j.ordered
  states : ∀ j ∈ new, ∀ u, j.source = .unit u → (s.units.get u).state ≠ .jammed ∧ (s.units.get u).state ≠ .absent
  units : ∀ u, (t.units.get u).slot = (s.units.get u).slot ∧ (t.units.get u).state = (s.units.get u).state ∧
    (t.units.get u).committed = (s.units.get u).committed + owedBy new u

/-- The ledger after jobs are placed. -/
theorem State.Ledger.place {s t : State} (law : s.Ledger) {new : List Job} (h : Placed s t new)
    (denoms : t.denoms = s.denoms := by simp)
    (phases : ∀ k, (t.mechs.get k).phase = (s.mechs.get k).phase := by simp) : t.Ledger := by
  obtain ⟨⟨committed, undone, serials, below, stack, flight⟩, states⟩ := law
  have mem (j : Job) : j ∈ t.allJobs ↔ j ∈ s.allJobs ∨ j ∈ new := by rw [h.jobs.mem_iff, List.mem_append]
  refine ⟨⟨fun u => ?_, fun j hj u on => ?_, ?_, fun j hj => ?_, fun j hj => ?_, fun k e phase => ?_⟩, fun u => ?_⟩
  · have owed : t.owed u = owedBy (s.allJobs ++ new) u := owedBy_perm h.jobs u
    rw [owed, owedBy_append, (h.units u).2.2, committed u]
    rfl
  · rcases (mem j).mp hj with old | new
    exacts [undone j old u on, h.undone j new u on]
  · rw [(h.jobs.map Job.serial).nodup_iff, List.map_append, List.nodup_append]
    refine ⟨serials, h.serials, ?_⟩
    simp only [List.mem_map]
    rintro _ ⟨i, hi, rfl⟩ _ ⟨j, hj, rfl⟩
    have := below i hi
    have := (h.fresh j hj).1
    omega
  · rcases (mem j).mp hj with old | new
    exacts [(below j old).trans_le h.next, (h.fresh j new).2]
  · rcases h.stack j hj with old | new
    exacts [stack j old, new]
  · obtain ⟨low, same⟩ := flight k e (phases k ▸ phase)
    refine ⟨low.trans_le h.next, fun j hj serial => ?_⟩
    rcases (mem j).mp hj with old | new
    · exact same j old serial
    · have := (h.fresh j new).1
      omega
  · obtain ⟨slot, state, -⟩ := h.units u
    obtain ⟨absent, active, idle, locked⟩ := states u
    rw [state, slot, State.slotFitsUnit_congr slot (by simp [denoms])]
    refine ⟨absent, active, fun gone j hj => ?_, fun lock l j hj => ?_⟩
    · rcases (mem j).mp hj with old | new
      · exact idle gone j old
      · intro on
        have := h.states j new u on
        tauto
    · rcases h.lanes l j hj with old | ⟨-, free⟩
      · exact locked lock l j old
      · exact fun on => free u on lock

end Sys2Proof.Machine
end

section
/-! SUPPORT. The operations on jobs and units keep the ledger. -/

namespace Sys2Proof.Machine

-- One proof after the other: many short proofs at once take more threads than the check's memory limit has room for.
set_option Elab.async false

/-! ### What operations do to the jobs -/

theorem State.dropJobs_allJobs (s : State) (p : Job → Bool) : (s.dropJobs p).allJobs = s.allJobs.filter fun j => !p j := by
  simp [State.dropJobs_eq, State.allJobs, PerLane.map]

theorem State.dropJob_allJobs (s : State) (n : Nat) :
    (s.dropJob n).allJobs = s.allJobs.filter fun j => decide (j.serial ≠ n) := by
  simp [State.dropJob, State.dropJobs_allJobs]

/-- A change of the job with a serial number that leaves its serial number and source. -/
theorem Edited.modJob (s : State) (n : Nat) {f : Job → Job} (serial : ∀ j, (f j).serial = j.serial := by intro _; rfl)
    (source : ∀ j, (f j).source = j.source := by intro _; rfl) : Edited s (s.modJob n f) := by
  have from_old : ∀ js : List Job, ∀ j ∈ js.map fun j => if j.serial = n then f j else j,
      ∃ i ∈ js, i.serial = j.serial ∧ i.source = j.source := by
    intro js j hj
    obtain ⟨i, hi, rfl⟩ := List.mem_map.mp hj
    exact ⟨i, hi, by split <;> simp [serial, source]⟩
  refine ⟨fun l j hj => ?_, from_old _, from_old _, ?_, by simp⟩
  · simp only [State.modJob_eq, PerLane.get_map] at hj
    exact from_old _ j hj
  · have same : (Job.serial ∘ fun j => if j.serial = n then f j else j) = Job.serial := by
      funext j
      simp only [Function.comp_apply]
      split <;> simp [serial]
    rw [State.modJob_allJobs, List.map_map, same]

theorem Edited.dropJobs (s : State) (p : Job → Bool) : Edited s (s.dropJobs p) := by
  refine ⟨fun l j hj => ?_, fun j hj => ⟨j, List.mem_of_mem_filter hj, rfl, rfl⟩,
    fun j hj => ⟨j, List.mem_of_mem_filter hj, rfl, rfl⟩, ?_, by simp⟩
  · simp only [State.dropJobs_eq, PerLane.get_map] at hj
    exact ⟨j, List.mem_of_mem_filter hj, rfl, rfl⟩
  · rw [State.dropJobs_allJobs]
    exact List.filter_sublist.map _

theorem Edited.dropJob (s : State) (n : Nat) : Edited s (s.dropJob n) := .dropJobs ..

theorem Edited.endEjection (s : State) (k : Kind) (e : Ejection) (x : Phase) : Edited s (s.endEjection k e x) :=
  (Edited.same (t := s.setPhase k x)).trans (.modJob _ e.job)

/-! ### One job and the rest -/

/-- The jobs are one job and the rest, which bear other serial numbers. -/
def State.Holds (s : State) (j : Job) (rest : List Job) : Prop :=
  s.allJobs.Perm (j :: rest) ∧ ∀ i ∈ rest, i.serial ≠ j.serial

theorem State.holds_of_mem {s : State} (distinct : (s.allJobs.map Job.serial).Nodup) {j : Job} (h : j ∈ s.allJobs) :
    ∃ rest, s.Holds j rest := by
  obtain ⟨front, back, split⟩ := List.append_of_mem h
  have perm : s.allJobs.Perm (j :: (front ++ back)) := by
    rw [split]
    exact List.perm_middle
  refine ⟨front ++ back, perm, fun i hi same => ?_⟩
  have nodup := (perm.map Job.serial).nodup_iff.mp distinct
  rw [List.map_cons, List.nodup_cons] at nodup
  exact nodup.1 (List.mem_map.mpr ⟨i, hi, same⟩)

theorem State.Holds.congr {s t : State} {j : Job} {rest : List Job} (h : s.Holds j rest)
    (laneJobs : t.laneJobs = s.laneJobs := by simp) (serviceJobs : t.serviceJobs = s.serviceJobs := by simp)
    (stackJobs : t.stackJobs = s.stackJobs := by simp) : t.Holds j rest := by
  unfold State.Holds
  rw [State.allJobs_congr laneJobs serviceJobs stackJobs]
  exact h

theorem State.Holds.modJob {s : State} {j : Job} {rest : List Job} (h : s.Holds j rest) {n : Nat} (hn : j.serial = n)
    {f : Job → Job} (serial : (f j).serial = j.serial := by rfl) : (s.modJob n f).Holds (f j) rest := by
  subst hn
  obtain ⟨perm, others⟩ := h
  refine ⟨?_, by rwa [serial]⟩
  have same : (rest.map fun i => if i.serial = j.serial then f i else i) = rest := by
    conv_rhs => rw [← List.map_id rest]
    exact List.map_congr_left fun i hi => by simp [others i hi]
  rw [State.modJob_allJobs]
  simpa [same] using perm.map fun i => if i.serial = j.serial then f i else i

theorem State.Holds.dropJob {s : State} {j : Job} {rest : List Job} (h : s.Holds j rest) {n : Nat} (hn : j.serial = n) :
    (s.dropJob n).allJobs.Perm rest := by
  subst hn
  obtain ⟨perm, others⟩ := h
  have same : (rest.filter fun i => decide (i.serial ≠ j.serial)) = rest :=
    List.filter_eq_self.mpr fun i hi => by simp [others i hi]
  have filtered := perm.filter fun i => decide (i.serial ≠ j.serial)
  rw [List.filter_cons_of_neg (by simp), same] at filtered
  rwa [State.dropJob_allJobs]

theorem State.Holds.owed {s : State} {j : Job} {rest : List Job} (h : s.Holds j rest) (u : UnitId) :
    s.owed u = j.owes u + owedBy rest u := by
  rw [← owedBy_cons]
  exact owedBy_perm h.1 u

/-- The ledger where one job on a unit changes or leaves, and its unit's committed number follows. -/
theorem State.Ledger.alter {s t : State} (law : s.Ledger) {j : Job} {rest : List Job} {u : UnitId}
    (held : s.Holds j rest) (source : j.source = .unit u) {kept : Option Job} (jobs : t.allJobs.Perm (kept.toList ++ rest))
    (stays : ∀ i ∈ kept, i.source = .unit u ∧ i.done < i.ordered) (edited : Edited s t) (flights : SameFlights s t)
    (others : ∀ v, v ≠ u → t.units.get v = s.units.get v)
    (committed : (t.units.get u).committed + j.undone = (s.units.get u).committed + (kept.map Job.undone).getD 0)
    (slot : (t.units.get u).slot = (s.units.get u).slot)
    (state : (t.units.get u).state = (s.units.get u).state ∨
      (s.units.get u).state = .lockPending ∧ (t.units.get u).state = .locked ∧ (t.units.get u).committed = 0)
    (denoms : t.denoms = s.denoms := by simp) : t.Ledger := by
  have owed (v : UnitId) : t.owed v = owedBy kept.toList v + owedBy rest v := by
    rw [← owedBy_append]
    exact owedBy_perm jobs v
  refine law.edit edited (fun i hi v on => ?_) (fun v => ?_) flights fun v => ?_
  · rcases List.mem_append.mp (jobs.mem_iff.mp hi) with mem | mem
    · exact (stays i (by simpa using mem)).2
    · exact law.1.2.1 i (held.1.mem_iff.mpr (.tail _ mem)) v on
  · have before : (s.units.get v).committed = s.owed v := law.1.1 v
    rw [held.owed] at before
    rw [owed]
    by_cases own : v = u
    · subst own
      rw [Job.owes_own source] at before
      cases kept with
      | none => simp at committed ⊢; omega
      | some i =>
        have on := (stays i rfl).1
        simp only [Option.map_some, Option.getD_some, Option.toList_some, owedBy_cons, owedBy_nil, Job.owes_own on]
          at committed ⊢
        omega
    · have off : j.owes v = 0 := Job.owes_other (by simpa [source] using Ne.symm own)
      have away : owedBy kept.toList v = 0 := by
        cases kept with
        | none => rfl
        | some i =>
          have on := (stays i rfl).1
          simp [owedBy_cons, Job.owes_other (j := i) (u := v) (by simpa [on] using Ne.symm own)]
      rw [others v own, before, off, away]
  · by_cases own : v = u
    · subst own
      refine .of_keeps law.2 slot (by simp [denoms]) ?_
      rcases state with same | ⟨before, after, zero⟩
      · exact .inl same
      · exact .inr ⟨by simp [before], by simp [after], by simp [after], .inl zero⟩
    · exact .of_keeps law.2 (by rw [others v own]) (by simp [denoms]) (.inl (by rw [others v own]))

/-! ### Ejections and the states of units -/

theorem SameFlights.setPhase (s : State) (k : Kind) (x : Phase)
    (h : ∀ e, x = .ejecting e → ∃ e', (s.mechs.get k).phase = .ejecting e' ∧ e'.job = e.job ∧ e'.source = e.source) :
    SameFlights s (s.setPhase k x) := by
  intro m e phase
  simp only [State.setPhase, State.modMech_mechs, PerKind.get_modify] at phase
  split at phase
  next same => exact same ▸ h e phase
  · exact ⟨e, phase, rfl, rfl⟩

/-- A phase that is no ejection, or one for the same job from the same source. -/
theorem State.Ledger.setPhase {s : State} (law : s.Ledger) (k : Kind) (x : Phase)
    (h : ∀ e, x = .ejecting e → ∃ e', (s.mechs.get k).phase = .ejecting e' ∧ e'.job = e.job ∧ e'.source = e.source) :
    (s.setPhase k x).Ledger :=
  law.units (by simp) (by simp) (by simp) (by simp) (by simp) (.setPhase s k x h) fun u =>
    .of_keeps law.2 (by simp) (by simp) (by simp)

/-- A change of the job with a serial number that leaves the pieces of a job on a unit. -/
theorem State.Ledger.modJob {s : State} (law : s.Ledger) (n : Nat) {f : Job → Job}
    (pieces : ∀ j ∈ s.allJobs, j.serial = n → ∀ u, j.source = .unit u → (f j).done = j.done ∧ (f j).ordered = j.ordered)
    (serial : ∀ j, (f j).serial = j.serial := by intro _; rfl)
    (source : ∀ j, (f j).source = j.source := by intro _; rfl) : (s.modJob n f).Ledger := by
  refine law.edit (.modJob s n serial source) (fun i hi u on => ?_) (fun u => ?_) (.of_phase (by simp)) fun u =>
    .of_keeps law.2 (by simp) (by simp) (by simp)
  · rw [State.modJob_allJobs] at hi
    obtain ⟨j, hj, rfl⟩ := List.mem_map.mp hi
    by_cases same : j.serial = n
    · rw [if_pos same] at on ⊢
      rw [source] at on
      obtain ⟨done, ordered⟩ := pieces j hj same u on
      rw [done, ordered]
      exact law.1.2.1 j hj u on
    · rw [if_neg same] at on ⊢
      exact law.1.2.1 j hj u on
  · have owed : (s.modJob n f).owed u = s.owed u := by
      simp only [State.owed]
      rw [State.modJob_allJobs]
      refine owedBy_map fun j hj => ?_
      split
      next same =>
        by_cases on : j.source = .unit u
        · obtain ⟨done, ordered⟩ := pieces j hj same u on
          rw [Job.owes_own on, Job.owes_own (by rw [source, on]), Job.undone, Job.undone, done, ordered]
        · rw [Job.owes_other on, Job.owes_other (by rwa [source])]
      · rfl
    rw [owed]
    simpa using law.1.1 u

theorem State.Ledger.endEjection {s : State} (law : s.Ledger) (k : Kind) (e : Ejection) {x : Phase}
    (h : ∀ e', x ≠ .ejecting e') : (s.endEjection k e x).Ledger :=
  (law.setPhase k x fun e' he => absurd he (h e')).modJob e.job fun _ _ _ _ _ => ⟨rfl, rfl⟩

/-- A unit leaves ACTIVE for a state that its committed pieces allow. -/
theorem State.Ledger.setUnitState {s : State} (law : s.Ledger) (u : UnitId) (st : UnitState)
    (before : (s.units.get u).state ≠ .absent) (after : st ≠ .absent) (left : st ≠ .active)
    (idle : (s.units.get u).committed = 0 ∨ st ≠ .jammed ∧ st ≠ .locked) : (s.setUnitState u st).Ledger := by
  have units : (s.setUnitState u st).units = s.units.modify u fun r => { r with state := st } := by
    simp [State.setUnitState]
  refine law.units (by simp) (by simp) (by simp) (by simp) (fun v => ?_) (.of_phase (by simp)) fun v => ?_
  · rw [units, Twelve.get_modify]
    split <;> simp_all
  · refine .of_keeps law.2 ?_ (by simp) ?_
    · rw [units, Twelve.get_modify]
      split <;> simp_all
    · rw [units, Twelve.get_modify]
      split
      next same =>
        subst same
        exact .inr ⟨before, after, left, idle⟩
      · exact .inl rfl

theorem State.Ledger.makeUncertain {s : State} (law : s.Ledger) (u : UnitId) : (s.makeUncertain u).Ledger := by
  simp only [State.makeUncertain]
  split
  · exact law
  next before => exact law.setUnitState u .uncertain before (by simp) (by simp) (.inr (by simp))

theorem State.Ledger.clearTransit {s : State} (law : s.Ledger) (l : Lane) : (s.clearTransit l).Ledger := law.same

theorem State.Ledger.stopEjection {s : State} (law : s.Ledger) (k : Kind) : (s.stopEjection k).Ledger := by
  simp only [State.stopEjection]
  split
  · exact law
  next e _ =>
    have ended : (s.endEjection k e .ready).Ledger := law.endEjection k e (by simp)
    split
    · exact ended.makeUncertain _
    · exact (ended.clearTransit _).makeUncertain _
    · exact ended.clearTransit _

end Sys2Proof.Machine
end

section
/-! SUPPORT. Jobs that leave and jobs that are placed keep the ledger (R91, R94, R107, R121). -/

namespace Sys2Proof.Machine

-- One proof after the other: many short proofs at once take more threads than the check's memory limit has room for.
set_option Elab.async false

/-! ### Jobs that leave -/

/-- The ledger where jobs leave and their pieces are released. -/
theorem State.Ledger.leave {s t : State} (law : s.Ledger) (edited : Edited s t) {gone : List Job}
    (undone : ∀ j ∈ t.allJobs, ∀ u, j.source = .unit u → j.done < j.ordered)
    (owed : ∀ u, t.owed u + owedBy gone u = s.owed u)
    (units : ∀ u, t.units.get u = (s.units.get u).released (owedBy gone u) (gone.any fun j => j.onUnit u))
    (denoms : t.denoms = s.denoms := by simp) (phases : ∀ k, (t.mechs.get k).phase = (s.mechs.get k).phase := by simp) :
    t.Ledger := by
  refine law.edit edited undone (fun u => ?_) (.of_phase phases) fun u => ?_
  · have before : (s.units.get u).committed = s.owed u := law.1.1 u
    have := owed u
    rw [units]
    simp only [UnitRec.released]
    omega
  · refine .of_keeps law.2 (by rw [units]; rfl) (by simp [denoms]) ?_
    rw [units]
    simp only [UnitRec.released]
    split
    next done => exact .inr ⟨by simp [done.1], by simp, by simp, .inl done.2.1⟩
    · exact .inl rfl

/-- A unit of which pieces are released keeps its slot, and its state but that LOCK_PENDING ends with the last piece. -/
theorem UnitRec.released_state (r : UnitRec) (n : Nat) (any : Bool) :
    (r.released n any).state = r.state ∨
      r.state = .lockPending ∧ (r.released n any).state = .locked ∧ (r.released n any).committed = 0 := by
  by_cases done : r.state = .lockPending ∧ r.committed - n = 0 ∧ any = true
  · exact .inr ⟨done.1, by simp [UnitRec.released, done], done.2.1⟩
  · exact .inl (by simp only [UnitRec.released, if_neg done])

theorem State.JobLaw.undone_le {s : State} (law : s.JobLaw) {j : Job} (hj : j ∈ s.allJobs) {u : UnitId}
    (source : j.source = .unit u) : 0 < j.undone ∧ j.undone ≤ (s.units.get u).committed := by
  have less := law.2.1 j hj u source
  have owes := owes_le_owedBy hj u
  have owed : (s.units.get u).committed = owedBy s.allJobs u := law.1 u
  rw [Job.owes_own source] at owes
  exact ⟨by simp only [Job.undone]; omega, by omega⟩

/-- One job leaves and its undone pieces are released (R108). -/
theorem State.Ledger.removeStopped {s : State} (law : s.Ledger) {j : Job} (hj : j ∈ s.allJobs) {u : UnitId}
    (source : j.source = .unit u) : (s.removeStopped j u).Ledger := by
  obtain ⟨rest, held⟩ := State.holds_of_mem law.1.2.2.1 hj
  have within := (law.1.undone_le hj source).2
  have units (v : UnitId) : (s.removeStopped j u).units.get v =
      if v = u then (s.units.get v).released j.undone true else s.units.get v := by
    simp [State.removeStopped, State.release_get]
  have jobs : (s.removeStopped j u).allJobs = (s.dropJob j.serial).allJobs :=
    State.allJobs_congr (by simp [State.removeStopped]) (by simp [State.removeStopped]) (by simp [State.removeStopped])
  have edited : Edited s (s.removeStopped j u) :=
    (Edited.dropJob s j.serial).trans (.same (by simp [State.removeStopped]) (by simp [State.removeStopped])
      (by simp [State.removeStopped]) (by simp [State.removeStopped]))
  refine law.alter held source (kept := none) (by rw [jobs]; exact held.dropJob rfl) (by simp) edited
    (.of_phase (by simp)) (fun v other => by rw [units, if_neg other]) ?_ ?_ ?_
  · rw [units, if_pos rfl]
    simp only [UnitRec.released, Option.map_none, Option.getD_none]
    omega
  · rw [units, if_pos rfl]
    rfl
  · rw [units, if_pos rfl]
    exact UnitRec.released_state ..

/-- The jobs that STOP leaves: the sale's waiting ones go, its one in flight is marked (R107). -/
def stopMarked (l : Lane) (tag : Nat) (q : List Job) : List Job :=
  (q.filter fun j => !(j.ofSale l tag && !j.inFlight)).map fun j => if j.ofSale l tag then { j with stopped := true } else j

theorem mem_stopMarked {l : Lane} {tag : Nat} {q : List Job} {j : Job} (h : j ∈ stopMarked l tag q) :
    ∃ i ∈ q, i.serial = j.serial ∧ i.source = j.source ∧ i.done = j.done ∧ i.ordered = j.ordered := by
  obtain ⟨i, hi, rfl⟩ := List.mem_map.mp h
  exact ⟨i, List.mem_of_mem_filter hi, by split <;> simp⟩

theorem stopMarked_serials (l : Lane) (tag : Nat) (q : List Job) :
    ((stopMarked l tag q).map Job.serial).Sublist (q.map Job.serial) := by
  have same : (Job.serial ∘ fun j : Job => if j.ofSale l tag then { j with stopped := true } else j) = Job.serial := by
    funext j
    simp only [Function.comp_apply]
    split <;> rfl
  rw [stopMarked, List.map_map, same]
  exact List.filter_sublist.map _

theorem stopMarked_owedBy (l : Lane) (tag : Nat) (q : List Job) (u : UnitId) :
    owedBy (stopMarked l tag q) u + owedBy (q.filter fun j => j.ofSale l tag && !j.inFlight) u = owedBy q u := by
  rw [stopMarked, owedBy_map, Nat.add_comm]
  · exact owedBy_filter q _ u
  · intro j _
    split <;> rfl

theorem State.Ledger.stopSale {s : State} (law : s.Ledger) (l : Lane) (x : Sale) : (s.stopSale l x).Ledger := by
  have laneJobs : (s.stopSale l x).laneJobs = s.laneJobs.modify l (stopMarked l x.tag) := s.stopSale_laneJobs l x
  have service : (s.stopSale l x).serviceJobs = s.serviceJobs := by simp
  have stack : (s.stopSale l x).stackJobs = s.stackJobs := by simp
  have from_old (i : Lane) (j : Job) (hj : j ∈ (s.stopSale l x).laneJobs.get i) :
      ∃ j' ∈ s.laneJobs.get i, j'.serial = j.serial ∧ j'.source = j.source ∧ j'.done = j.done ∧ j'.ordered = j.ordered := by
    rw [laneJobs, PerLane.get_modify] at hj
    split at hj
    next same => exact same ▸ mem_stopMarked hj
    · exact ⟨j, hj, rfl, rfl, rfl, rfl⟩
  refine law.leave (gone := s.waitingJobs l x.tag) ⟨fun i j hj => ?_, ?_, ?_, ?_, by simp⟩ (fun j hj u on => ?_)
    (fun u => ?_) (s.stopSale_units l x)
  · obtain ⟨j', hj', serial, source, -⟩ := from_old i j hj
    exact ⟨j', hj', serial, source⟩
  · exact fun j hj => ⟨j, service ▸ hj, rfl, rfl⟩
  · exact fun j hj => ⟨j, stack ▸ hj, rfl, rfl⟩
  · simp only [State.allJobs, laneJobs, service, stack, List.map_append]
    have marked := stopMarked_serials l x.tag (s.laneJobs.get l)
    cases l
    · exact ((marked.append (.refl _)).append (.refl _)).append (.refl _)
    · exact (((List.Sublist.refl _).append marked).append (.refl _)).append (.refl _)
  · rcases (State.mem_allJobs _ j).mp hj with ⟨i, hj⟩ | hj | hj
    · obtain ⟨j', hj', -, source, done, ordered⟩ := from_old i j hj
      have := law.1.2.1 j' ((s.mem_allJobs j').mpr (.inl ⟨i, hj'⟩)) u (source.trans on)
      omega
    · exact law.1.2.1 j ((s.mem_allJobs j).mpr (.inr (.inl (service ▸ hj)))) u on
    · exact law.1.2.1 j ((s.mem_allJobs j).mpr (.inr (.inr (stack ▸ hj)))) u on
  · have marked := stopMarked_owedBy l x.tag (s.laneJobs.get l) u
    have after : (s.stopSale l x).owed u = owedBy (s.stopSale l x).allJobs u := rfl
    have before : s.owed u = owedBy s.allJobs u := rfl
    rw [after, before]
    simp only [State.allJobs, laneJobs, service, stack, owedBy_append, State.waitingJobs]
    cases l <;> simp only [PerLane.get, PerLane.modify, PerLane.set] at marked ⊢ <;> omega

/-- Every job on a unit leaves, and nothing of it stays committed; the unit may be JAMMED (R121 to R123). -/
theorem State.Ledger.dismissJobs {s : State} (law : s.Ledger) (u : UnitId) {t : State}
    (units : ∀ v, t.units.get v = if v = u then { s.units.get u with committed := 0, state := (t.units.get u).state } else s.units.get v)
    (state : (t.units.get u).state = (s.units.get u).state ∨ (s.units.get u).state ≠ .absent ∧ (t.units.get u).state = .jammed)
    (jobs : Edited s t) (left : t.allJobs = s.allJobs.filter fun j => !j.onUnit u) (denoms : t.denoms = s.denoms)
    (phases : ∀ k, (t.mechs.get k).phase = (s.mechs.get k).phase) : t.Ledger := by
  refine law.edit jobs (fun j hj v on => ?_) (fun v => ?_) (.of_phase phases) fun v => ?_
  · rw [left] at hj
    exact law.1.2.1 j (List.mem_of_mem_filter hj) v on
  · have owed : t.owed v = owedBy (s.allJobs.filter fun j => !j.onUnit u) v := by rw [← left]; rfl
    rw [units, owed]
    split
    next same =>
      subst same
      refine (owedBy_eq_zero ?_).symm
      simp
    next other =>
      have gone : owedBy (s.allJobs.filter fun j => j.onUnit u) v = 0 := by
        refine owedBy_eq_zero (List.any_eq_false.mpr fun j hj => ?_)
        have on : j.source = .unit u := by simpa [Job.onUnit] using (List.mem_filter.mp hj).2
        simp [Job.onUnit, on, Ne.symm other]
      have before : (s.units.get v).committed = owedBy s.allJobs v := law.1.1 v
      have := owedBy_filter s.allJobs (fun j => j.onUnit u) v
      omega
  · by_cases same : v = u
    · subst same
      refine .of_keeps law.2 (by rw [units, if_pos rfl]) (by simp [denoms]) ?_
      rcases state with same | ⟨before, jammed⟩
      · exact .inl same
      · exact .inr ⟨before, by simp [jammed], by simp [jammed], .inl (by rw [units, if_pos rfl])⟩
    · exact .of_keeps law.2 (by rw [units, if_neg same]) (by simp [denoms]) (.inl (by rw [units, if_neg same]))

theorem State.dismissJobs_jobs (s : State) (u : UnitId) :
    (s.dismissJobs u).laneJobs = (s.dropJobs fun j => j.onUnit u).laneJobs ∧
      (s.dismissJobs u).serviceJobs = (s.dropJobs fun j => j.onUnit u).serviceJobs ∧
      (s.dismissJobs u).stackJobs = (s.dropJobs fun j => j.onUnit u).stackJobs ∧
      (s.dismissJobs u).units = s.units.modify u fun r => { r with committed := 0 } := by
  simp [State.dismissJobs]

theorem State.Ledger.thirdMiss {s : State} (law : s.Ledger) (k : Kind) (e : Ejection) (j : Job) (u : UnitId) :
    (s.thirdMiss k e j u).Ledger := by
  have ended : (s.endEjection k e .ready).Ledger := law.endEjection k e (by simp)
  simp only [State.thirdMiss]
  generalize s.endEjection k e .ready = t at ended ⊢
  refine State.Ledger.same (s := State.dismissJobs (if (t.units.get u).state.jams then t.setUnitState u .jammed else t) u) ?_
  generalize ht : (if (t.units.get u).state.jams then t.setUnitState u .jammed else t) = t'
  have laneJobs : t'.laneJobs = t.laneJobs := by subst ht; split <;> simp
  have service : t'.serviceJobs = t.serviceJobs := by subst ht; split <;> simp
  have stack : t'.stackJobs = t.stackJobs := by subst ht; split <;> simp
  have next : t'.nextJob = t.nextJob := by subst ht; split <;> simp
  have mechs : t'.mechs = t.mechs := by subst ht; split <;> simp
  have denoms : t'.denoms = t.denoms := by subst ht; split <;> simp
  have all : t'.allJobs = t.allJobs := State.allJobs_congr laneJobs service stack
  obtain ⟨laneJobs', service', stack', units'⟩ := t'.dismissJobs_jobs u
  have units (v : UnitId) : t'.units.get v =
      if v = u ∧ (t.units.get u).state.jams = true then { t.units.get u with state := .jammed } else t.units.get v := by
    subst ht
    by_cases jams : (t.units.get u).state.jams = true
    · by_cases same : v = u <;> simp [jams, same, State.setUnitState, Twelve.get_modify]
    · simp [jams]
  refine ended.dismissJobs u (fun v => ?_) ?_ ?_ ?_ (by simp [denoms]) (by simp [mechs])
  · rw [units', Twelve.get_modify, Twelve.get_modify_same]
    split
    · rw [units]
      split <;> rfl
    next other => rw [units, if_neg (by simp [other])]
  · rw [units', Twelve.get_modify_same, units]
    split
    next jams =>
      refine .inr ⟨fun absent => ?_, rfl⟩
      simp [absent, UnitState.jams] at jams
    · exact .inl rfl
  · exact (Edited.same laneJobs service stack next).trans
      ((Edited.dropJobs t' fun j => j.onUnit u).trans (.same laneJobs' service' stack' (by simp)))
  · rw [State.allJobs_congr laneJobs' service' stack', State.dropJobs_allJobs, all]

end Sys2Proof.Machine
end

section
/-! SUPPORT. A detected piece keeps the ledger (R115, R125 to R127). -/

namespace Sys2Proof.Machine

-- One proof after the other: many short proofs at once take more threads than the check's memory limit has room for.
set_option Elab.async false

/-! ### The pieces of a report -/

/-- A job with more of its pieces detected (R115). -/
def Job.counted (j : Job) (n : Nat) : Job := { j with done := j.done + n }

/-- A unit from which `n` pieces of a job and `x` extra pieces were detected (R115, R126). -/
def UnitRec.counted (r : UnitRec) (n x : Nat) : UnitRec :=
  { r with count := r.count - n - x, committed := r.committed - n }

theorem State.countPiece_units (s : State) (j : Job) (u : UnitId) :
    (s.countPiece j u).units = s.units.modify u fun r => r.counted 1 0 := by
  simp [State.countPiece, State.countOut, UnitRec.counted]

theorem State.countExtra_units (s : State) (j : Job) (u : UnitId) :
    (s.countExtra j u).units = s.units.modify u fun r => r.counted 0 1 := by
  simp [State.countExtra, UnitRec.counted]

theorem State.countPiece_jobs (s : State) (j : Job) (u : UnitId) :
    (s.countPiece j u).laneJobs = (s.modJob j.serial fun i => i.counted 1).laneJobs ∧
      (s.countPiece j u).serviceJobs = (s.modJob j.serial fun i => i.counted 1).serviceJobs ∧
      (s.countPiece j u).stackJobs = (s.modJob j.serial fun i => i.counted 1).stackJobs := by
  simp [State.countPiece, State.modJob_eq, Job.counted]

theorem Edited.countPiece (s : State) (j : Job) (u : UnitId) : Edited s (s.countPiece j u) := by
  obtain ⟨lanes, service, stack⟩ := s.countPiece_jobs j u
  exact (Edited.modJob s j.serial (f := fun i => i.counted 1)).trans (.same lanes service stack (by simp))

theorem State.Holds.countPiece {s : State} {i : Job} {rest : List Job} (h : s.Holds i rest) {j : Job}
    (serial : i.serial = j.serial) (u : UnitId) : (s.countPiece j u).Holds (i.counted 1) rest := by
  obtain ⟨lanes, service, stack⟩ := s.countPiece_jobs j u
  exact (h.modJob serial (f := fun i => i.counted 1)).congr lanes service stack

/-- What a report counts: the job's own pieces and the extra one. -/
theorem State.countPieces_spec {s : State} {j : Job} {rest : List Job} (held : s.Holds j rest) (u : UnitId) (p : Pieces) :
    Edited s (s.countPieces j u p) ∧ (s.countPieces j u p).Holds (j.counted (ownPieces j p)) rest ∧
      (s.countPieces j u p).units = s.units.modify u fun r => r.counted (ownPieces j p) (if extraPiece j p then 1 else 0) := by
  have own : Edited s (s.countPiece j u) ∧ (s.countPiece j u).Holds (j.counted 1) rest ∧
      (s.countPiece j u).units = s.units.modify u fun r => r.counted 1 0 :=
    ⟨.countPiece .., held.countPiece rfl u, s.countPiece_units j u⟩
  simp only [State.countPieces]
  by_cases two : ownPieces j p = 2
  · have undone : 2 ≤ j.undone := by
      by_contra less
      simp [ownPieces, less] at two
    have extra : extraPiece j p = false := by
      simp only [extraPiece, Bool.and_eq_false_iff, decide_eq_false_iff_not]
      omega
    have more := own.2.1.countPiece (j := j) rfl u
    simp only [two, extra, if_true, Bool.false_eq_true, if_false]
    refine ⟨own.1.trans (.countPiece ..), more, ?_⟩
    rw [State.countPiece_units, own.2.2, Twelve.modify_modify]
    rfl
  · have one : ownPieces j p = 1 := by
      unfold ownPieces at two ⊢
      split <;> simp_all
    simp only [one, if_neg (show ¬ (1 = 2) by omega)]
    split
    · refine ⟨own.1.trans (.same (by simp [State.countExtra]) (by simp [State.countExtra]) (by simp [State.countExtra])
        (by simp)), own.2.1.congr (by simp [State.countExtra]) (by simp [State.countExtra]) (by simp [State.countExtra]), ?_⟩
      rw [State.countExtra_units, own.2.2, Twelve.modify_modify]
      rfl
    · exact own

/-! ### The end of a detection -/

/-- The job leaves by the report: it completes, or it is a stopped one (R108, R115). -/
def Job.leaves (j : Job) : Bool := decide (j.ordered ≤ j.done) || j.stopped

/-- The pieces that a job releases as it leaves. -/
def Job.leftover (j : Job) : Nat := if j.leaves then j.undone else 0

theorem Job.leftover_complete {j : Job} (h : j.ordered ≤ j.done) : j.leftover = 0 := by
  have : j.undone = 0 := by simp only [Job.undone]; omega
  simp [Job.leftover, this]

/-- Closing a job and locking its unit: the job goes where it leaves, and what it left undone is released. -/
theorem State.closeJob_spec {s : State} {i j : Job} {rest : List Job} (held : s.Holds i rest) (serial : i.serial = j.serial)
    (u : UnitId) :
    let t := (s.closeJob j u).lockIfDone u
    Edited s t ∧ t.allJobs.Perm ((if j.leaves then none else some i : Option Job).toList ++ rest) ∧
      ∀ v, t.units.get v = if v = u then (s.units.get v).released j.leftover true else s.units.get v := by
  have locked (w : State) (v : UnitId) :
      (w.lockIfDone u).units.get v = if v = u then (w.units.get v).released 0 true else w.units.get v := by
    by_cases same : v = u
    · subst same
      by_cases done : (w.units.get v).state = .lockPending ∧ (w.units.get v).committed = 0 <;>
        simp [State.lockIfDone, State.setUnitState, UnitRec.released, done]
    · simp only [State.lockIfDone]
      split <;> simp [State.setUnitState, Twelve.get_modify, same]
  have lockedJobs (w : State) : Edited w (w.lockIfDone u) ∧ (w.lockIfDone u).allJobs = w.allJobs :=
    ⟨.same, State.allJobs_congr (by simp) (by simp) (by simp)⟩
  intro t
  by_cases complete : j.ordered ≤ j.done
  · have closed : s.closeJob j u = ((s.dropJob j.serial).sampleDepth j.origin).endTransferOf j u .complete := if_pos complete
    have after : Edited (s.dropJob j.serial) (s.closeJob j u) ∧ (s.closeJob j u).allJobs = (s.dropJob j.serial).allJobs ∧
        (s.closeJob j u).units = s.units := by
      rw [closed]
      exact ⟨.same, State.allJobs_congr (by simp) (by simp) (by simp), by simp⟩
    refine ⟨((Edited.dropJob ..).trans after.1).trans (lockedJobs _).1, ?_, fun v => ?_⟩
    · have leaves : j.leaves = true := by simp [Job.leaves, complete]
      simpa [t, leaves, (lockedJobs _).2, after.2.1] using held.dropJob serial
    · rw [locked, after.2.2, Job.leftover_complete complete]
  · by_cases stopped : j.stopped = true
    · have closed : s.closeJob j u = (s.dropJob j.serial).release u j.undone := by
        simp [State.closeJob, State.removeStopped, complete, stopped]
      have leaves : j.leaves = true := by simp [Job.leaves, stopped]
      have after : Edited (s.dropJob j.serial) (s.closeJob j u) ∧ (s.closeJob j u).allJobs = (s.dropJob j.serial).allJobs := by
        rw [closed]
        exact ⟨.same, State.allJobs_congr (by simp) (by simp) (by simp)⟩
      refine ⟨((Edited.dropJob ..).trans after.1).trans (lockedJobs _).1, ?_, fun v => ?_⟩
      · simpa [t, leaves, (lockedJobs _).2, after.2] using held.dropJob serial
      · rw [locked, closed, State.release_get]
        split
        · rw [UnitRec.released_released _ (by simp)]
          simp [Job.leftover, leaves]
        · simp
    · have closed : s.closeJob j u = s := by simp [State.closeJob, complete, stopped]
      have leaves : j.leaves = false := by simp [Job.leaves, complete, stopped]
      refine ⟨by simpa [t, closed] using (lockedJobs s).1, ?_, fun v => ?_⟩
      · simpa [t, leaves, closed, (lockedJobs _).2] using held.1
      · simp [t, locked, closed, Job.leftover, leaves]

/-- A detection, up to what an extra piece takes from other jobs. -/
def State.detectOwn (s : State) (k : Kind) (e : Ejection) (j : Job) (u : UnitId) (p : Pieces) : State :=
  (((s.countPieces j u p).endEjection k e e.after).closeJob (j.counted (ownPieces j p)) u).lockIfDone u

theorem State.detect_eq (s : State) (k : Kind) (e : Ejection) (j : Job) (u : UnitId) (p : Pieces) :
    s.detect k e j u p =
      (if extraPiece j p then (s.detectOwn k e j u p).shorten u else s.detectOwn k e j u p).settleJob j := rfl

theorem ownPieces_le {j : Job} (h : 0 < j.undone) (p : Pieces) : ownPieces j p ≤ j.undone := by
  unfold ownPieces
  split <;> omega

/-- A job whose ejection has ended (R115). -/
def Job.landed (j : Job) : Job := { j with inFlight := false }

theorem State.detectOwn_spec {s : State} {j : Job} {rest : List Job} (held : s.Holds j rest) (k : Kind) {e : Ejection}
    (job : j.serial = e.job) (u : UnitId) (p : Pieces) :
    Edited s (s.detectOwn k e j u p) ∧
      (s.detectOwn k e j u p).allJobs.Perm
        ((if (j.counted (ownPieces j p)).leaves then none else some (j.counted (ownPieces j p)).landed : Option Job).toList
          ++ rest) ∧
      ∀ v, (s.detectOwn k e j u p).units.get v =
        if v = u then
          ((s.units.get v).counted (ownPieces j p) (if extraPiece j p then 1 else 0)).released
            (j.counted (ownPieces j p)).leftover true
        else s.units.get v := by
  obtain ⟨edited, counted, units⟩ := s.countPieces_spec held u p
  rw [State.detectOwn]
  generalize s.countPieces j u p = t at edited counted units
  have landing : Edited t (t.endEjection k e e.after) := .endEjection ..
  have landed : (t.endEjection k e e.after).Holds (j.counted (ownPieces j p)).landed rest :=
    (counted.congr (t := t.setPhase k e.after)).modJob job (f := Job.landed)
  obtain ⟨closing, jobs, closed⟩ := State.closeJob_spec landed (j := j.counted (ownPieces j p)) rfl u
  refine ⟨(edited.trans landing).trans closing, jobs, fun v => ?_⟩
  rw [closed]
  simp only [State.endEjection_keeps, units, Twelve.get_modify]
  split
  next same => rw [same]
  · rfl

/-- The ledger after a detection, up to what an extra piece takes from other jobs. -/
theorem State.Ledger.detectOwn {s : State} (law : s.Ledger) {k : Kind} {e : Ejection} {j : Job} {u : UnitId}
    (found : s.findJob e.job = some j) (source : j.source = .unit u) (p : Pieces) :
    (s.detectOwn k e j u p).Ledger := by
  have mem : j ∈ s.allJobs := List.mem_of_find?_eq_some found
  have job : j.serial = e.job := by simpa using List.find?_some found
  obtain ⟨rest, held⟩ := State.holds_of_mem law.1.2.2.1 mem
  obtain ⟨edited, jobs, units⟩ := State.detectOwn_spec held k job u p
  obtain ⟨pos, within⟩ := law.1.undone_le mem source
  have own := ownPieces_le pos p
  have flights : SameFlights s (s.detectOwn k e j u p) := by
    have mechs : (s.detectOwn k e j u p).mechs = (s.setPhase k e.after).mechs := by
      simp [State.detectOwn, State.endEjection, State.setPhase]
    have ended := SameFlights.setPhase s k e.after fun e' h => absurd h (e.after_ne e')
    simpa only [SameFlights, mechs] using ended
  refine law.alter held source jobs (fun i hi => ?_) edited flights (fun v other => by rw [units, if_neg other]) ?_ ?_ ?_ ?_
  · split at hi
    · simp at hi
    next stays =>
      obtain rfl : (j.counted (ownPieces j p)).landed = i := by simpa using hi
      simp only [Job.leaves, Bool.or_eq_true, decide_eq_true_eq, not_or, not_le] at stays
      exact ⟨source, stays.1⟩
  · rw [units, if_pos rfl]
    have left : (j.counted (ownPieces j p)).undone = j.undone - ownPieces j p := by
      simp only [Job.counted, Job.undone]
      omega
    have landed : (j.counted (ownPieces j p)).landed.undone = (j.counted (ownPieces j p)).undone := rfl
    cases leaves : (j.counted (ownPieces j p)).leaves <;>
      simp [UnitRec.released, UnitRec.counted, Job.leftover, leaves, landed, left] <;> omega
  · rw [units, if_pos rfl]
    rfl
  · rw [units, if_pos rfl]
    exact UnitRec.released_state ..
  · simp [State.detectOwn]

/-! ### What an extra piece takes from other jobs (R127) -/

theorem insertBySerial_perm (j : Job) (js : List Job) : (insertBySerial j js).Perm (j :: js) := by
  induction js with
  | nil => exact .refl _
  | cons x xs ih =>
    simp only [insertBySerial]
    split
    · exact .refl _
    · exact (ih.cons x).trans (.swap ..)

theorem sortBySerial_perm (js : List Job) : (sortBySerial js).Perm js := by
  induction js with
  | nil => exact .refl _
  | cons j js ih => exact (insertBySerial_perm j _).trans (ih.cons j)

theorem State.lastJobOn_eq_some {s : State} {u : UnitId} {j : Job} (h : s.lastJobOn u = some j) :
    j ∈ s.allJobs ∧ j.source = .unit u := by
  have mem := (sortBySerial_perm _).mem_iff.mp (List.mem_of_getLast? h)
  obtain ⟨mem, on⟩ := List.mem_filter.mp mem
  exact ⟨mem, by simpa [Job.onUnit] using on⟩

theorem State.lastJobOn_isSome {s : State} {u : UnitId} {j : Job} (mem : j ∈ s.allJobs) (source : j.source = .unit u) :
    ∃ i, s.lastJobOn u = some i := by
  have sorted : j ∈ sortBySerial (s.allJobs.filter fun j => j.onUnit u) :=
    (sortBySerial_perm _).mem_iff.mpr (List.mem_filter.mpr ⟨mem, by simp [Job.onUnit, source]⟩)
  exact ⟨_, List.getLast?_eq_some_getLast (List.ne_nil_of_mem sorted)⟩

/-- A job that is to deliver one piece less (R127). -/
def Job.shortened (j : Job) : Job := { j with ordered := j.ordered - 1 }

/-- Shortening a job: one piece of its unit is released, and the job goes where nothing of it is left. -/
theorem State.shortenJob_spec {s : State} {j : Job} {rest : List Job} (held : s.Holds j rest) (u : UnitId) :
    Edited s (s.shortenJob j u) ∧
      (s.shortenJob j u).allJobs.Perm
        ((if j.ordered - 1 ≤ j.done then none else some j.shortened : Option Job).toList ++ rest) ∧
      ∀ v, (s.shortenJob j u).units.get v = if v = u then (s.units.get v).released 1 true else s.units.get v := by
  have shortened : ∃ t : State, Edited s t ∧ t.Holds j.shortened rest ∧
      (∀ v, t.units.get v = if v = u then (s.units.get v).released 1 true else s.units.get v) ∧
      s.shortenJob j u = if j.ordered - 1 ≤ j.done then (t.dropJob j.serial).endTransferOf j u .complete else t := by
    have edited := Edited.modJob s j.serial (f := fun i => { i with ordered := i.ordered - 1 })
    have one : (s.modJob j.serial fun i => { i with ordered := i.ordered - 1 }).Holds j.shortened rest := held.modJob rfl
    refine ⟨_, edited.trans ?_, one.congr ?_ ?_ ?_, fun v => ?_, rfl⟩
    · cases j.origin <;> exact .same
    · cases j.origin <;> simp
    · cases j.origin <;> simp
    · cases j.origin <;> simp
    · cases j.origin <;> simp [State.release_get]
  obtain ⟨t, edited, one, units, eq⟩ := shortened
  rw [eq]
  split
  · refine ⟨(edited.trans (.dropJob t j.serial)).trans .same, ?_, by simpa using units⟩
    rw [State.allJobs_congr (s := t.dropJob j.serial) (by simp) (by simp) (by simp)]
    exact one.dropJob rfl
  · exact ⟨edited, one.1, units⟩

theorem State.Ledger.shortenJob {s : State} (law : s.Ledger) {j : Job} (mem : j ∈ s.allJobs) {u : UnitId}
    (source : j.source = .unit u) : (s.shortenJob j u).Ledger := by
  obtain ⟨rest, held⟩ := State.holds_of_mem law.1.2.2.1 mem
  obtain ⟨edited, jobs, units⟩ := State.shortenJob_spec held u
  obtain ⟨pos, within⟩ := law.1.undone_le mem source
  refine law.alter held source jobs (fun i hi => ?_) edited (.of_phase (by simp)) (fun v other => by rw [units, if_neg other])
    ?_ ?_ ?_
  · split at hi
    · simp at hi
    next stays =>
      obtain rfl : j.shortened = i := by simpa using hi
      exact ⟨source, Nat.lt_of_not_le stays⟩
  · rw [units, if_pos rfl]
    simp only [Job.undone] at pos within ⊢
    split <;> simp [UnitRec.released, Job.shortened, Job.undone] <;> omega
  · rw [units, if_pos rfl]
    rfl
  · rw [units, if_pos rfl]
    exact UnitRec.released_state ..

theorem State.Ledger.shorten {s : State} (law : s.Ledger) (u : UnitId) : (s.shorten u).Ledger := by
  simp only [State.shorten]
  split
  · split
    next j last =>
      obtain ⟨mem, source⟩ := State.lastJobOn_eq_some last
      exact law.shortenJob mem source
    · exact law
  · exact law

theorem State.Ledger.detect {s : State} (law : s.Ledger) {k : Kind} {e : Ejection} {j : Job} {u : UnitId}
    (found : s.findJob e.job = some j) (source : j.source = .unit u) (p : Pieces) : (s.detect k e j u p).Ledger := by
  have own := law.detectOwn (k := k) found source p
  rw [State.detect_eq]
  split
  · exact (own.shorten u).same
  · exact own.same

/-! ### Committed within count -/

/-- Shortening gives a unit that an extra piece left short its committed number within its count (R7, R127). -/
theorem State.Ledger.shorten_within {s : State} (law : s.Ledger) {u : UnitId}
    (short : (s.units.get u).committed ≤ (s.units.get u).count + 1) (v : UnitId)
    (others : v ≠ u → (s.units.get v).committed ≤ (s.units.get v).count) :
    ((s.shorten u).units.get v).committed ≤ ((s.shorten u).units.get v).count := by
  simp only [State.shorten]
  split
  next less =>
    have owed : (s.units.get u).committed = owedBy s.allJobs u := law.1.1 u
    obtain ⟨j, mem, source⟩ := owedBy_pos (show 0 < owedBy s.allJobs u by omega)
    obtain ⟨i, last⟩ := State.lastJobOn_isSome mem source
    obtain ⟨mem, -⟩ := State.lastJobOn_eq_some last
    obtain ⟨rest, held⟩ := State.holds_of_mem law.1.2.2.1 mem
    obtain ⟨-, -, units⟩ := State.shortenJob_spec held u
    simp only [last, units]
    split
    next same =>
      subst same
      simp only [UnitRec.released]
      omega
    next other => exact others other
  next enough =>
    by_cases same : v = u
    · subst same
      omega
    · exact others same

theorem State.Ledger.detect_within {s : State} (law : s.Ledger) (unitLaw : ∀ v, (s.units.get v).committed ≤ (s.units.get v).count)
    {k : Kind} {e : Ejection} {j : Job} {u : UnitId} (found : s.findJob e.job = some j) (source : j.source = .unit u)
    (p : Pieces) (v : UnitId) :
    ((s.detect k e j u p).units.get v).committed ≤ ((s.detect k e j u p).units.get v).count := by
  have own := law.detectOwn (k := k) found source p
  have mem : j ∈ s.allJobs := List.mem_of_find?_eq_some found
  have job : j.serial = e.job := by simpa using List.find?_some found
  obtain ⟨rest, held⟩ := State.holds_of_mem law.1.2.2.1 mem
  obtain ⟨-, -, units⟩ := State.detectOwn_spec held k job u p
  have before := unitLaw u
  have settled (t : State) : (t.settleJob j).units = t.units := by simp
  rw [State.detect_eq, settled]
  split
  next extra =>
    refine own.shorten_within ?_ v fun other => by rw [units, if_neg other]; exact unitLaw v
    rw [units, if_pos rfl]
    simp only [UnitRec.released, UnitRec.counted, extra, if_true]
    omega
  next plain =>
    rw [units]
    split
    next same =>
      subst same
      simp only [UnitRec.released, UnitRec.counted]
      omega
    · exact unitLaw v

end Sys2Proof.Machine
end

section
/-! SUPPORT. Jobs that are placed, stack-downs and the changes of units keep the ledger (R41, R42, R94, R128, R138). -/

namespace Sys2Proof.Machine

-- One proof after the other: many short proofs at once take more threads than the check's memory limit has room for.
set_option Elab.async false

/-! ### Placing jobs on units -/

theorem State.allJobs_service {s t : State} {js : List Job} (laneJobs : t.laneJobs = s.laneJobs)
    (serviceJobs : t.serviceJobs = s.serviceJobs ++ js) (stackJobs : t.stackJobs = s.stackJobs) :
    t.allJobs.Perm (s.allJobs ++ js) := by
  simp only [State.allJobs, laneJobs, serviceJobs, stackJobs, List.append_assoc]
  exact (((List.perm_append_comm (l₁ := js)).append_left _).append_left _).append_left _

theorem State.Ledger.placeService {s : State} (law : s.Ledger) {u : UnitId} (k : TransferKind) {n : Nat} (pos : 0 < n)
    (free : (s.units.get u).state ≠ .jammed ∧ (s.units.get u).state ≠ .absent) : (s.placeService u k n).Ledger := by
  have units (v : UnitId) : (s.placeService u k n).units.get v =
      if v = u then { s.units.get v with committed := (s.units.get v).committed + n } else s.units.get v := by
    simp only [State.placeService, State.startTransfer, State.modTransfer_units, State.modUnit_units, Twelve.get_modify]
    split
    next same => rw [same]
    · rfl
  obtain ⟨j, placed, serial, source, ordered, done⟩ : ∃ j : Job, (s.placeService u k n).serviceJobs = s.serviceJobs ++ [j] ∧
      j.serial = s.nextJob ∧ j.source = .unit u ∧ j.ordered = n ∧ j.done = 0 := ⟨_, rfl, rfl, rfl, rfl, rfl⟩
  have next : (s.placeService u k n).nextJob = s.nextJob + 1 := rfl
  have owes (v : UnitId) : owedBy [j] v = if v = u then n else 0 := by
    by_cases same : v = u
    · simp [owedBy_cons, Job.owes, Job.undone, source, ordered, done, same]
    · simp [owedBy_cons, Job.owes, source, same, Ne.symm same]
  have on_u (v : UnitId) (on : j.source = .unit v) : v = u := by simpa [source, eq_comm] using on
  refine law.place (new := [j])
    { jobs := State.allJobs_service (by simp) placed (by simp)
      lanes := fun l i hi => .inl (by simpa using hi)
      stack := fun i hi => .inl (by simpa using hi)
      serials := by simp
      fresh := by simp [serial, next]
      next := by simp [next]
      undone := fun i hi v _ => by
        rw [List.mem_singleton.mp hi, ordered, done]
        exact pos
      states := fun i hi v on => by
        rw [List.mem_singleton] at hi
        rw [on_u v (hi ▸ on)]
        exact free
      units := fun v => by
        rw [units, owes]
        split <;> simp }

/-- The pieces that shares take from a unit. -/
def takenFrom (xs : List Share) (u : UnitId) : Nat := (xs.map fun x => if x.unit = u then x.pieces else 0).sum

theorem State.commitAll_get (s : State) (xs : List Share) (u : UnitId) :
    (s.commitAll xs).units.get u =
      { s.units.get u with committed := (s.units.get u).committed + takenFrom xs u } := by
  induction xs generalizing s with
  | nil => rfl
  | cons x xs ih =>
    rw [State.commitAll_cons, ih, State.commit_get]
    by_cases same : u = x.unit
    · simp [takenFrom, same, Nat.add_assoc]
    · simp [takenFrom, same, Ne.symm same]

theorem State.owedBy_jobsOf (s : State) (l : Lane) (tag n : Nat) (xs : List Share) (u : UnitId) :
    owedBy (s.jobsOf l tag n xs) u = takenFrom xs u := by
  induction xs generalizing n with
  | nil => rfl
  | cons x xs ih =>
    rw [State.jobsOf, owedBy_cons, ih]
    simp [takenFrom, Job.owes, Job.undone]

theorem State.jobsOf_serials (s : State) (l : Lane) (tag n : Nat) (xs : List Share) :
    (s.jobsOf l tag n xs).map Job.serial = List.range' n xs.length := by
  induction xs generalizing n with
  | nil => rfl
  | cons x xs ih => simp [State.jobsOf, ih, List.range'_succ]

theorem State.jobsOf_spec (s : State) (l : Lane) (tag n : Nat) (xs : List Share) :
    ∀ j ∈ s.jobsOf l tag n xs, ∃ x ∈ xs, j.source = .unit x.unit ∧ j.done = 0 ∧ j.ordered = x.pieces := by
  induction xs generalizing n with
  | nil => simp [State.jobsOf]
  | cons x xs ih =>
    refine List.forall_mem_cons.mpr ⟨⟨x, by simp, rfl, rfl, rfl⟩, fun j hj => ?_⟩
    obtain ⟨y, hy, spec⟩ := ih (n + 1) j hj
    exact ⟨y, .tail _ hy, spec⟩

/-- Shares of ACTIVE units become jobs (R94). -/
theorem State.Ledger.placeShares {s : State} (law : s.Ledger) (l : Lane) (tag : Nat) {xs : List Share}
    {place : List Job → List Job → List Job} (perm : ∀ q js, (place q js).Perm (q ++ js))
    (shares : ∀ x ∈ xs, 0 < x.pieces ∧ (s.units.get x.unit).state = .active) :
    (s.placeShares l tag xs place).Ledger := by
  have laneJobs : (s.placeShares l tag xs place).laneJobs =
      s.laneJobs.modify l fun q => place q (s.jobsOf l tag s.nextJob xs) := by
    simp [State.placeShares]
  have service : (s.placeShares l tag xs place).serviceJobs = s.serviceJobs := by simp [State.placeShares]
  have stack : (s.placeShares l tag xs place).stackJobs = s.stackJobs := by simp [State.placeShares]
  have next : (s.placeShares l tag xs place).nextJob = s.nextJob + xs.length := rfl
  have units (u : UnitId) : (s.placeShares l tag xs place).units.get u = (s.commitAll xs).units.get u := rfl
  have spec := s.jobsOf_spec l tag s.nextJob xs
  have serials := s.jobsOf_serials l tag s.nextJob xs
  have owed := s.owedBy_jobsOf l tag s.nextJob xs
  generalize s.jobsOf l tag s.nextJob xs = js at laneJobs spec serials owed
  have source (j : Job) (hj : j ∈ js) (u : UnitId) (on : j.source = .unit u) : (s.units.get u).state = .active := by
    obtain ⟨x, hx, source, -⟩ := spec j hj
    obtain rfl : x.unit = u := by simpa [source] using on
    exact (shares x hx).2
  refine law.place (new := js)
    { jobs := ?_
      lanes := fun i j hj => ?_
      stack := fun j hj => .inl (stack ▸ hj)
      serials := by rw [serials]; exact List.nodup_range'
      fresh := fun j hj => ?_
      next := by rw [next]; omega
      undone := fun j hj u _ => ?_
      states := fun j hj u on => by simp [source j hj u on]
      units := fun u => by simp [units, State.commitAll_get, owed] }
  · have placed := perm (s.laneJobs.get l) js
    simp only [State.allJobs, laneJobs, service, stack]
    cases l <;> simp only [PerLane.modify, PerLane.set, PerLane.get] at placed ⊢
    · calc (place s.laneJobs.a js ++ s.laneJobs.b ++ s.serviceJobs ++ s.stackJobs).Perm
            ((s.laneJobs.a ++ js) ++ s.laneJobs.b ++ s.serviceJobs ++ s.stackJobs) :=
            ((placed.append_right _).append_right _).append_right _
        List.Perm _ (s.laneJobs.a ++ s.laneJobs.b ++ s.serviceJobs ++ s.stackJobs ++ js) := by
            simp only [List.append_assoc]
            refine List.Perm.append_left _ ?_
            simpa using List.perm_append_comm (l₁ := js) (l₂ := s.laneJobs.b ++ (s.serviceJobs ++ s.stackJobs))
    · calc (s.laneJobs.a ++ place s.laneJobs.b js ++ s.serviceJobs ++ s.stackJobs).Perm
            (s.laneJobs.a ++ (s.laneJobs.b ++ js) ++ s.serviceJobs ++ s.stackJobs) :=
            ((placed.append_left _).append_right _).append_right _
        List.Perm _ (s.laneJobs.a ++ s.laneJobs.b ++ s.serviceJobs ++ s.stackJobs ++ js) := by
            simp only [List.append_assoc]
            refine List.Perm.append_left _ (List.Perm.append_left _ ?_)
            simpa using List.perm_append_comm (l₁ := js) (l₂ := s.serviceJobs ++ s.stackJobs)
  · rw [laneJobs, PerLane.get_modify] at hj
    split at hj
    next same =>
      rcases List.mem_append.mp ((perm _ _).mem_iff.mp hj) with old | new
      · exact .inl (same ▸ old)
      · exact .inr ⟨new, fun u on => by simp [source j new u on]⟩
    · exact .inl hj
  · have mem : j.serial ∈ js.map Job.serial := List.mem_map_of_mem hj
    rw [serials, List.mem_range'_1] at mem
    exact mem
  · obtain ⟨x, hx, -, done, ordered⟩ := spec j hj
    rw [done, ordered]
    exact (shares x hx).1

/-! ### Stack-downs -/

/-- What is not on a unit owes nothing of it. -/
theorem owedBy_escrow {js : List Job} (h : ∀ j ∈ js, ∃ l, j.source = .escrow l) (u : UnitId) : owedBy js u = 0 := by
  by_contra pos
  obtain ⟨j, hj, on⟩ := owedBy_pos (Nat.pos_of_ne_zero pos)
  obtain ⟨l, source⟩ := h j hj
  simp [source] at on

/-- A change of the class 0 jobs that leaves their serial numbers and sources. -/
theorem State.Ledger.restack {s t : State} (law : s.Ledger) (serials : (t.stackJobs.map Job.serial).Sublist (s.stackJobs.map Job.serial))
    (stack : ∀ j ∈ t.stackJobs, ∃ i ∈ s.stackJobs, i.serial = j.serial ∧ i.source = j.source)
    (units : t.units = s.units := by simp) (denoms : t.denoms = s.denoms := by simp)
    (laneJobs : t.laneJobs = s.laneJobs := by simp) (serviceJobs : t.serviceJobs = s.serviceJobs := by simp)
    (next : t.nextJob = s.nextJob := by simp)
    (phases : ∀ k, (t.mechs.get k).phase = (s.mechs.get k).phase := by simp) : t.Ledger := by
  have escrows : ∀ j ∈ t.stackJobs, ∃ l, j.source = .escrow l := by
    intro j hj
    obtain ⟨i, hi, -, source⟩ := stack j hj
    exact source ▸ law.1.2.2.2.2.1 i hi
  refine law.edit ⟨fun l j hj => ⟨j, laneJobs ▸ hj, rfl, rfl⟩, fun j hj => ⟨j, serviceJobs ▸ hj, rfl, rfl⟩, stack, ?_, next⟩
    (fun j hj u on => ?_) (fun u => ?_) (.of_phase phases) fun u =>
      .of_keeps law.2 (by rw [units]) (by simp [denoms]) (.inl (by rw [units]))
  · simp only [State.allJobs, laneJobs, serviceJobs, List.map_append]
    exact (List.Sublist.refl _).append serials
  · rcases (t.mem_allJobs j).mp hj with ⟨l, hj⟩ | hj | hj
    · exact law.1.2.1 j ((s.mem_allJobs j).mpr (.inl ⟨l, laneJobs ▸ hj⟩)) u on
    · exact law.1.2.1 j ((s.mem_allJobs j).mpr (.inr (.inl (serviceJobs ▸ hj)))) u on
    · obtain ⟨l, source⟩ := escrows j hj
      simp [source] at on
  · have before : (s.units.get u).committed = owedBy s.allJobs u := law.1.1 u
    have after : t.owed u = owedBy t.allJobs u := rfl
    rw [units, before, after]
    simp only [State.allJobs, laneJobs, serviceJobs, owedBy_append, owedBy_escrow escrows,
      owedBy_escrow law.1.2.2.2.2.1]

theorem State.Ledger.growStackDown {s : State} (law : s.Ledger) (l : Lane) : (s.growStackDown l).Ledger := by
  have stack : (s.growStackDown l).stackJobs =
      s.stackJobs.map fun j => if j.source = .escrow l then { j with ordered := j.ordered + 1 } else j := rfl
  have same : (Job.serial ∘ fun j : Job => if j.source = .escrow l then { j with ordered := j.ordered + 1 } else j) =
      Job.serial := by
    funext j
    simp only [Function.comp_apply]
    split <;> rfl
  refine law.restack (by rw [stack, List.map_map, same]) fun j hj => ?_
  rw [stack] at hj
  obtain ⟨i, hi, rfl⟩ := List.mem_map.mp hj
  exact ⟨i, hi, by split <;> simp⟩

theorem State.Ledger.placeStackDown {s : State} (law : s.Ledger) (l : Lane) : (s.placeStackDown l).Ledger := by
  obtain ⟨t, ht⟩ : ∃ t : State, t = { s with stackJobs := s.stackJobs.filter fun i => decide (i.source ≠ .escrow l) } :=
    ⟨_, rfl⟩
  have cleared : t.Ledger := by
    subst ht
    exact law.restack (List.filter_sublist.map _) (fun j hj => ⟨j, List.mem_of_mem_filter hj, rfl, rfl⟩)
      rfl rfl rfl rfl rfl fun _ => rfl
  obtain ⟨j, placed, serial, source⟩ : ∃ j : Job, (s.placeStackDown l).stackJobs = t.stackJobs ++ [j] ∧
      j.serial = t.nextJob ∧ j.source = .escrow l := by
    subst ht
    exact ⟨_, rfl, rfl, rfl⟩
  have units : (s.placeStackDown l).units = t.units := by simp [ht]
  have laneJobs : (s.placeStackDown l).laneJobs = t.laneJobs := by simp [ht]
  have service : (s.placeStackDown l).serviceJobs = t.serviceJobs := by simp [ht]
  have next : (s.placeStackDown l).nextJob = t.nextJob + 1 := by
    subst ht
    rfl
  have denoms : (s.placeStackDown l).denoms = t.denoms := by simp [ht]
  have mechs : (s.placeStackDown l).mechs = t.mechs := by simp [ht]
  have escrow : ∀ i ∈ [j], ∃ l, i.source = .escrow l := fun i hi => ⟨l, by rw [List.mem_singleton.mp hi, source]⟩
  have no_unit (i : Job) (hi : i ∈ [j]) (u : UnitId) : i.source ≠ .unit u := by
    obtain ⟨m, source⟩ := escrow i hi
    simp [source]
  refine cleared.place (new := [j])
    { jobs := by
        simp only [State.allJobs, placed, laneJobs, service, List.append_assoc]
        exact .refl _
      lanes := fun m i hi => .inl (laneJobs ▸ hi)
      stack := fun i hi => by
        rcases List.mem_append.mp (placed ▸ hi) with old | new
        exacts [.inl old, .inr (escrow i new)]
      serials := by simp
      fresh := by simp [serial, next]
      next := by rw [next]; omega
      undone := fun i hi u on => absurd on (no_unit i hi u)
      states := fun i hi u on => absurd on (no_unit i hi u)
      units := fun u => by rw [units, owedBy_escrow escrow]; simp } denoms fun k => by rw [mechs]

theorem State.Ledger.joinStackDown {s : State} (law : s.Ledger) (l : Lane) : (s.joinStackDown l).Ledger := by
  simp only [State.joinStackDown]
  split
  · exact law.growStackDown l
  · exact law.placeStackDown l

theorem State.Ledger.takeNote {s : State} (law : s.Ledger) (l : Lane) (d : Slot) : (s.takeNote l d).Ledger := by
  have pushed (c : Credit) : (s.pushNote l d c).Ledger := law.same
  simp only [State.takeNote]
  split
  · exact (pushed .sale).same
  · exact State.Ledger.joinStackDown (s := (s.pushNote l d .floatIn).tallyPiece l d) (pushed .floatIn).same l
  · split
    · exact (State.Ledger.placeStackDown (s := (s.pushNote l d .stray).setOwner l .stray) (pushed .stray).same l).same
    · exact ((pushed .stray).growStackDown l).same

theorem State.Ledger.keepEscrow {s : State} (law : s.Ledger) (l : Lane) : (s.keepEscrow l).Ledger := by
  have kept : (s.keepStack l).Ledger := by
    simp only [State.keepStack]
    split
    · exact law.same
    · exact State.Ledger.placeStackDown (s := (s.setOwner l .stacking).setEscrowStatus l .idle) law.same l
  simp only [State.keepEscrow]
  split
  · exact kept.same
  · exact kept

/-- Jobs that draw on no unit leave. -/
theorem State.Ledger.dropJob {s : State} (law : s.Ledger) {n : Nat}
    (escrow : ∀ j ∈ s.allJobs, j.serial = n → ∃ l, j.source = .escrow l) : (s.dropJob n).Ledger := by
  refine law.edit (.dropJob s n) (fun j hj u on => ?_) (fun u => ?_) (.of_phase (by simp)) fun u =>
    .of_keeps law.2 (by simp) (by simp) (by simp)
  · rw [State.dropJob_allJobs] at hj
    exact law.1.2.1 j (List.mem_of_mem_filter hj) u on
  · have before : (s.units.get u).committed = owedBy s.allJobs u := law.1.1 u
    have after : (s.dropJob n).owed u = owedBy (s.allJobs.filter fun j => decide (j.serial ≠ n)) u := by
      rw [← State.dropJob_allJobs]
      rfl
    have gone : owedBy (s.allJobs.filter fun j => !decide (j.serial ≠ n)) u = 0 :=
      owedBy_escrow (fun j hj => by
        obtain ⟨mem, same⟩ := List.mem_filter.mp hj
        exact escrow j mem (by simpa using same)) u
    have := owedBy_filter s.allJobs (fun j => decide (j.serial ≠ n)) u
    rw [after]
    simp only [State.dropJob_keeps]
    omega

/-- The ledger reads no counts: a change of units that leaves slot, committed number and state. -/
theorem State.Ledger.recount {s t : State} (law : s.Ledger)
    (units : ∀ u, (t.units.get u).slot = (s.units.get u).slot ∧ (t.units.get u).committed = (s.units.get u).committed ∧
      (t.units.get u).state = (s.units.get u).state)
    (denoms : t.denoms = s.denoms := by simp) (laneJobs : t.laneJobs = s.laneJobs := by simp)
    (serviceJobs : t.serviceJobs = s.serviceJobs := by simp) (stackJobs : t.stackJobs = s.stackJobs := by simp)
    (next : t.nextJob = s.nextJob := by simp)
    (phases : ∀ k, (t.mechs.get k).phase = (s.mechs.get k).phase := by simp) : t.Ledger :=
  law.units laneJobs serviceJobs stackJobs next (fun u => (units u).2.1) (.of_phase phases) fun u =>
    .of_keeps law.2 (units u).1 (by simp [denoms]) (.inl (units u).2.2)

/-- A piece that enters a unit leaves what the ledger reads. -/
theorem State.Ledger.countIn {s t : State} (law : s.Ledger)
    (units : t.units = s.units ∨ ∃ u, t.units = s.units.modify u fun r => { r with count := r.count + 1 })
    (denoms : t.denoms = s.denoms := by simp) (laneJobs : t.laneJobs = s.laneJobs := by simp)
    (serviceJobs : t.serviceJobs = s.serviceJobs := by simp) (stackJobs : t.stackJobs = s.stackJobs := by simp)
    (next : t.nextJob = s.nextJob := by simp)
    (phases : ∀ k, (t.mechs.get k).phase = (s.mechs.get k).phase := by simp) : t.Ledger := by
  refine law.recount (fun v => ?_) denoms laneJobs serviceJobs stackJobs next phases
  rcases units with same | ⟨u, counted⟩
  · simp [same]
  · rw [counted, Twelve.get_modify]
    split
    next same => rw [same]; exact ⟨rfl, rfl, rfl⟩
    · exact ⟨rfl, rfl, rfl⟩

theorem State.takeCoin_counts (s : State) (l : Lane) (d : Slot) :
    (s.takeCoin l d).units = s.units ∨ ∃ u, (s.takeCoin l d).units = s.units.modify u fun r => { r with count := r.count + 1 } := by
  obtain ⟨units, -, -, -⟩ := s.takeCoin_store l d
  cases store : s.coinStore l d with
  | cashbox => exact .inl (units.trans (State.storeCoin_cashbox store).1)
  | unit u => exact .inr ⟨u, units.trans (State.storeCoin_unit store).2⟩

theorem State.storeNote_keeps (s : State) (e : Ejection) (l : Lane) :
    (s.storeNote e l).denoms = s.denoms ∧ (s.storeNote e l).mechs = s.mechs ∧ SameJobs s (s.storeNote e l) := by
  simp only [State.storeNote]
  split <;> simp

theorem State.Ledger.stackDetected {s : State} (law : s.Ledger) {e : Ejection} {l : Lane} (p : Pieces)
    (ejecting : s.ejection .note = some e) (source : e.source = .escrow l) : (s.stackDetected e l p).Ledger := by
  obtain ⟨denoms, mechs, laneJobs, serviceJobs, stackJobs, next⟩ := s.storeNote_keeps e l
  have stored : (s.storeNote e l).Ledger := by
    refine law.countIn ?_ denoms laneJobs serviceJobs stackJobs next (by simp [mechs])
    rcases s.storeNote_units e l with same | ⟨d, -, counted⟩
    · exact .inl same
    · exact .inr ⟨d.unit, counted⟩
  rw [State.stackDetected_eq]
  generalize s.storeNote e l = t at *
  have escrow : ∀ j ∈ t.allJobs, j.serial = e.job → ∃ l, j.source = .escrow l := by
    intro j hj serial
    have phase : (t.mechs.get .note).phase = .ejecting e := by rw [mechs]; exact State.ejecting_phase ejecting
    exact ⟨l, ((stored.1.2.2.2.2.2 .note e phase).2 j hj serial).trans source⟩
  have counted : (t.modJob e.job fun j => { j with done := j.done + 1 }).Ledger :=
    stored.modJob e.job fun j hj serial u on => by
      obtain ⟨m, escrow⟩ := escrow j hj serial
      simp [escrow] at on
  have ended : (t.endStackDown e p).Ledger := counted.endEjection .note e (e.afterStack_ne p)
  have edited : Edited t (t.endStackDown e p) :=
    (Edited.modJob t e.job (f := fun j => { j with done := j.done + 1 })).trans (.endEjection ..)
  have dropped : ((t.endStackDown e p).dropJob e.job).Ledger := ended.dropJob fun j hj serial => by
    obtain ⟨i, hi, same, from_old⟩ := edited.all hj
    rw [← from_old]
    exact escrow i hi (same.trans serial)
  simp only [State.closeStack]
  split
  · split
    · exact dropped
    · exact dropped.same
  · exact ended

end Sys2Proof.Machine
end

section
/-! SUPPORT. Every change that a command makes keeps the ledger, and committed numbers within counts (R7, R91, R121). -/

namespace Sys2Proof.Machine

-- One proof after the other: many short proofs at once take more threads than the check's memory limit has room for.
set_option Elab.async false

/-! ### Changes of units -/

theorem State.Ledger.lockUnit {s : State} (law : s.Ledger) {u : UnitId} (active : (s.units.get u).state = .active) :
    (s.setUnitState u (if 0 < (s.units.get u).committed then UnitState.lockPending else UnitState.locked)).Ledger := by
  have before : (s.units.get u).state ≠ .absent := by simp [active]
  by_cases pending : 0 < (s.units.get u).committed
  · simp only [pending, if_true]
    exact law.setUnitState u .lockPending before (by simp) (by simp) (.inr (by simp))
  · simp only [pending, if_false]
    exact law.setUnitState u .locked before (by simp) (by simp) (.inl (by omega))

/-- The ledger after a change of one unit that leaves its committed number. -/
theorem State.Ledger.oneUnit {s t : State} (law : s.Ledger) {u : UnitId} {f : UnitRec → UnitRec}
    (units : t.units = s.units.modify u f) (committed : (f (s.units.get u)).committed = (s.units.get u).committed)
    (move : UnitMove s t u) (denoms : t.denoms = s.denoms := by simp) (laneJobs : t.laneJobs = s.laneJobs := by simp)
    (serviceJobs : t.serviceJobs = s.serviceJobs := by simp) (stackJobs : t.stackJobs = s.stackJobs := by simp)
    (next : t.nextJob = s.nextJob := by simp)
    (phases : ∀ k, (t.mechs.get k).phase = (s.mechs.get k).phase := by simp) : t.Ledger := by
  refine law.units laneJobs serviceJobs stackJobs next (fun v => ?_) (.of_phase phases) fun v => ?_
  · rw [units, Twelve.get_modify]
    split
    next same => rw [same, committed]
    · rfl
  · by_cases same : v = u
    · exact same ▸ move
    · have kept : t.units.get v = s.units.get v := by rw [units, Twelve.get_modify_other _ same]
      exact .of_keeps law.2 (by rw [kept]) (by simp [denoms]) (.inl (by rw [kept]))

theorem State.Ledger.unlockUnit {s : State} (law : s.Ledger) {u : UnitId} (locked : (s.units.get u).state = .locked)
    (fits : s.slotFitsUnit u = true) : (s.setUnitState u .active).Ledger := by
  have units : (s.setUnitState u .active).units = s.units.modify u fun r => { r with state := .active } := by
    simp [State.setUnitState]
  have slot : (s.units.get u).slot ≠ none := fun none => by simp [(law.2 u).1.mpr none] at locked
  have after : (s.setUnitState u .active).units.get u = { s.units.get u with state := .active } := by
    rw [units, Twelve.get_modify_same]
  refine law.oneUnit units rfl
    { absent := by simp [after, slot]
      active := fun _ => by rwa [State.slotFitsUnit_congr (s := s) (by rw [after]) (by simp)]
      idle := by simp [after]
      locked := by simp [after] }

/-- The state that WRITE_UNIT gives a unit which is LOCKED, ABSENT or UNCERTAIN (R138). -/
theorem writtenState_spec {before : UnitState} (slot : Option Slot)
    (h : (before = .locked ∨ before = .absent) ∨ before = .uncertain) :
    (writtenState before slot = .absent ↔ slot = none) ∧ writtenState before slot ≠ .active ∧
      writtenState before slot ≠ .jammed ∧ (writtenState before slot = .locked → before = .locked ∨ before = .absent) := by
  rcases h with (rfl | rfl) | rfl <;> cases slot <;> simp [writtenState]

theorem State.Ledger.writeSettings {s : State} (law : s.Ledger) {u : UnitId} {x : UnitSettings}
    (allowed : s.writeUnitAllowed u x.slot = true) : (s.writeSettings u x).Ledger := by
  simp only [State.writeUnitAllowed, State.maySwitchSlot, Bool.and_eq_true, Bool.or_eq_true, decide_eq_true_eq,
    Bool.not_eq_true'] at allowed
  obtain ⟨⟨⟨state, -⟩, slot⟩, -⟩ := allowed
  have units : (s.writeSettings u x).units = s.units.modify u fun r =>
      { r with slot := x.slot, capacity := x.capacity, highWater := x.highWater, sweepTarget := x.sweepTarget,
               mask := x.mask, state := writtenState (s.units.get u).state x.slot } := by
    simp [State.writeSettings]
  obtain ⟨slot', state', committed'⟩ : ((s.writeSettings u x).units.get u).slot = x.slot ∧
      ((s.writeSettings u x).units.get u).state = writtenState (s.units.get u).state x.slot ∧
      ((s.writeSettings u x).units.get u).committed = (s.units.get u).committed := by
    rw [units, Twelve.get_modify_same]
    exact ⟨rfl, rfl, rfl⟩
  have absent := (law.2 u).1
  have still : x.slot = none → (s.units.get u).committed = 0 ∨ (s.units.get u).state = .absent := fun none => by
    rcases slot with same | ⟨zero, -⟩
    · exact .inr (absent.mpr (same ▸ none))
    · exact .inl zero
  have fresh : (s.units.get u).state = .absent → (s.units.get u).committed = 0 := fun gone => by
    have owed : (s.units.get u).committed = owedBy s.allJobs u := law.1.1 u
    by_contra pos
    obtain ⟨j, hj, on⟩ := owedBy_pos (show 0 < owedBy s.allJobs u by omega)
    exact (law.2 u).2.2.1 (.inr gone) j hj on
  obtain ⟨written, notActive, notJammed, locked⟩ := writtenState_spec x.slot state
  refine law.oneUnit units rfl ⟨by rw [slot', state', written], fun h => absurd (state' ▸ h) notActive, ?_, fun h => ?_⟩
  · rw [state', committed', written]
    rintro (h | h)
    · exact absurd h notJammed
    · exact (still h).imp_right .inr
  · rw [committed']
    rcases locked (state' ▸ h) with same | gone
    exacts [.inr same, .inl (fresh gone)]

theorem State.Ledger.audit {s : State} (law : s.Ledger) {u : UnitId} (n : Nat) (allowed : s.auditAllowed u = true) :
    (s.audit u n).Ledger := by
  simp only [State.auditAllowed, Bool.and_eq_true, Bool.or_eq_true, decide_eq_true_eq] at allowed
  obtain ⟨⟨state, -⟩, zero⟩ := allowed
  have units : (s.audit u n).units = s.units.modify u fun r => { r with count := n, state := .locked } := by
    simp [State.audit]
  have after : (s.audit u n).units.get u = { s.units.get u with count := n, state := .locked } := by
    rw [units, Twelve.get_modify_same]
  have before : (s.units.get u).state ≠ .absent := by
    rcases state with (h | h) | h <;> simp [h]
  exact law.oneUnit units rfl
    (.of_keeps law.2 (by rw [after]) (by simp) (.inr ⟨before, by simp [after], by simp [after], .inl (by rw [after]; exact zero)⟩))

theorem State.Ledger.clearJam {s : State} (law : s.Ledger) {u : UnitId} (jammed : (s.units.get u).state = .jammed) :
    (s.setUnitState u .locked).Ledger := by
  refine law.setUnitState u .locked (by simp [jammed]) (by simp) (by simp) (.inl ?_)
  have owed : (s.units.get u).committed = owedBy s.allJobs u := law.1.1 u
  by_contra pos
  obtain ⟨j, hj, on⟩ := owedBy_pos (show 0 < owedBy s.allJobs u by omega)
  exact (law.2 u).2.2.1 (.inl jammed) j hj on

theorem State.Ledger.setDenom {s : State} (law : s.Ledger) {d : Slot} {x : Denom} (allowed : s.setDenomAllowed d x = true) :
    ({ s with denoms := s.denoms.set d x }.markDirty recDenoms).Ledger := by
  obtain ⟨-, -, kind⟩ := (s.setDenomAllowed_iff d x).mp allowed
  refine law.units (by simp) (by simp) (by simp) (by simp) (by simp) (.of_phase (by simp)) fun u =>
    .of_keeps law.2 (by simp) (fun e slot => ?_) (.inl (by simp))
  simp only [State.markDirty_keeps, Twelve.get_set]
  split
  next same =>
    subst same
    exact kind.resolve_right fun none => none u slot
  · rfl

/-! ### Restarts -/

/-- The ledger of a state without jobs and ejections, with nothing committed. -/
theorem State.ledger_of_idle {s : State} (lanes : ∀ l, s.laneJobs.get l = []) (service : s.serviceJobs = [])
    (stack : s.stackJobs = []) (idle : ∀ k e, (s.mechs.get k).phase ≠ .ejecting e)
    (units : ∀ u, (s.units.get u).committed = 0 ∧ ((s.units.get u).state = .absent ↔ (s.units.get u).slot = none) ∧
      ((s.units.get u).state = .active → s.slotFitsUnit u = true)) : s.Ledger := by
  have none : s.allJobs = [] := by simpa [State.allJobs, service, stack] using ⟨lanes .a, lanes .b⟩
  refine ⟨⟨fun u => ?_, by simp [none], by simp [none], by simp [none], by simp [stack], fun k e phase => absurd phase (idle k e)⟩,
    fun u => ⟨(units u).2.1, (units u).2.2, by simp [none], by simp [lanes]⟩⟩
  rw [(units u).1, State.owed, none]
  rfl

theorem State.Ledger.reset {s : State} (law : s.Ledger) (cause : RestartCause) : (s.resetStores.clearRun cause).Ledger := by
  have stopped : s.stopEjections.Ledger := (law.stopEjection .coin).stopEjection .note
  have units (u : UnitId) : (s.resetStores.clearRun cause).units.get u = (s.stopEjections.units.get u).reset := by
    rw [(State.clearRun_stores ..).1, State.resetStores_get]
  have denoms : (s.resetStores.clearRun cause).denoms = s.stopEjections.denoms := by
    simp [State.clearRun, State.stopEjections]
  refine State.ledger_of_idle (fun l => ?_) (by simp [State.clearRun]) (by simp [State.clearRun]) (fun k e => ?_) fun u => ?_
  · cases l <;> simp [State.clearRun, PerLane.get]
  · have phase : ((s.resetStores.clearRun cause).mechs.get k).phase = .ready := by
      simp [State.clearRun, Mechanism.restarted]
    simp [phase]
  · obtain ⟨absent, active, -⟩ := stopped.2 u
    have fits : (s.resetStores.clearRun cause).slotFitsUnit u = s.stopEjections.slotFitsUnit u :=
      State.slotFitsUnit_congr (by rw [units]; rfl) (by simp [denoms])
    have state : ((s.stopEjections.units.get u).reset).state =
        if (s.stopEjections.units.get u).state = .lockPending then .locked else (s.stopEjections.units.get u).state := rfl
    rw [fits, units, state]
    refine ⟨rfl, ?_, fun h => active ?_⟩
    · rw [← show (s.stopEjections.units.get u).reset.slot = (s.stopEjections.units.get u).slot from rfl] at absent
      rw [← absent]
      split <;> simp_all
    · split at h <;> simp_all

/-! ### Every change keeps the ledger -/

theorem State.Ledger.placeOut {s : State} (law : s.Ledger) (l : Lane) (tag : Nat) {xs : List Share} (v : Nat)
    (shares : ∀ x ∈ xs, 0 < x.pieces ∧ (s.units.get x.unit).state = .active) : (s.payOut l tag xs v).Ledger := by
  have dropped : (s.dropReservation l tag).Ledger := law.same
  have placed := dropped.placeShares l tag atTail_perm (by simpa using shares)
  simp only [State.payOut]
  generalize (s.dropReservation l tag).placeShares l tag xs atTail = t at placed
  have paying : (t.modSale l tag fun x => { x with state := .paying }).Ledger := placed.same
  generalize (t.modSale l tag fun x => { x with state := .paying }) = t at paying
  have asked : (if 0 < v then t.placeRequest l tag .replan v else t).Ledger := by
    split
    · exact paying.same
    · exact paying
  generalize (if 0 < v then t.placeRequest l tag .replan v else t) = t at asked
  split
  · exact (State.Ledger.placeStackDown (s := t.setOwner l .stacking) asked.same l).same
  · exact asked.same

theorem splitPlan_active {l : Lane} {plan : Plan} {s : State} :
    ∀ x ∈ (splitPlan l plan s).1, 0 < x.pieces ∧ (s.units.get x.unit).state = .active := by
  intro x hx
  obtain ⟨-, serves, pos⟩ := splitPlan_shares l plan s x hx
  simp only [State.serves, State.unitActive, Bool.and_eq_true, decide_eq_true_eq] at serves
  exact ⟨pos, serves.1.1⟩

theorem State.Ledger.completeJobs {s : State} (law : s.Ledger) (r : PlanReq) : (s.completeJobs r).Ledger := by
  obtain ⟨units, laneJobs⟩ := s.completeJobs_placed r
  have placed := law.placeShares r.lane r.tag (xs := s.completionShares r) (r.kind.place_perm r.lane r.tag)
    fun x hx => splitPlan_active x (List.mem_of_mem_take hx)
  have next : (s.completeJobs r).nextJob =
      (s.placeShares r.lane r.tag (s.completionShares r) (r.kind.place r.lane r.tag)).nextJob := by
    simp [State.completeJobs, State.completionShares]
  exact placed.same units (by simp) laneJobs (by simp) (by simp) next (by simp)

theorem State.Ledger.lastMiss {s : State} (law : s.Ledger) {k : Kind} {e : Ejection} {j : Job} {u : UnitId}
    (found : s.findJob e.job = some j) (source : j.source = .unit u) : (s.lastMiss k e j u).Ledger := by
  have ended := law.endEjection k e e.after_ne
  have mem : j ∈ s.allJobs := List.mem_of_find?_eq_some found
  have job : j.serial = e.job := by simpa using List.find?_some found
  obtain ⟨rest, held⟩ := State.holds_of_mem law.1.2.2.1 mem
  have landed : (s.endEjection k e e.after).Holds j.landed rest :=
    (held.congr (t := s.setPhase k e.after)).modJob job (f := Job.landed)
  simp only [State.lastMiss]
  split
  · exact ended.removeStopped (j := j.landed) (landed.1.mem_iff.mpr (.head _)) source
  · exact ended

theorem State.found_source {s : State} (law : s.JobLaw) {k : Kind} {e : Ejection} {j : Job} {u : UnitId}
    (ejecting : s.ejection k = some e) (source : e.source = .unit u) (found : s.findJob e.job = some j) :
    j.source = .unit u := by
  have mem : j ∈ s.allJobs := List.mem_of_find?_eq_some found
  have job : j.serial = e.job := by simpa using List.find?_some found
  exact ((law.2.2.2.2.2 k e (State.ejecting_phase ejecting)).2 j mem job).trans source

theorem SameFlights.tested (s : State) : SameFlights s { s with retest := false, mechs := s.mechs.map Mechanism.tested } :=
  fun k e phase => ⟨e, Mechanism.tested_ejecting (by simpa using phase), rfl, rfl⟩

theorem Change.ledger {t m : State} {c : Closing} (h : Change t c m) (law : t.Ledger) : m.Ledger := by
  cases h with
  | quiet | settle | write => exact law
  | openSale | tender | quote | cancelWaiting | cancel | release | laneOpen | laneClose | floorHold | floorYield |
    setFloor | floatInBegin | floatInEnd | giveBack | cashboxCleared | counterSet | returned |
    returnFails | cupCleared | outletCleared | expire | planDropped | completeQuote | setLimits =>
    exact law.same
  | keep => exact law.keepEscrow _
  | note => exact law.takeNote ..
  | @pay t₀ l tag x left before =>
    have shares : ∀ y ∈ (splitPlan l (x.plan.getD []) t₀).1, 0 < y.pieces ∧ (t.units.get y.unit).state = .active := by
      rw [before.units]
      exact splitPlan_active
    exact (law.placeOut l tag (splitPlan l (x.plan.getD []) t₀).2 shares).same
  | stop => exact law.stopSale ..
  | lockUnit active => exact law.lockUnit active
  | unlockUnit locked fits => exact law.unlockUnit locked fits
  | clearJam jammed => exact law.clearJam jammed
  | writeUnit range allowed => exact law.writeSettings allowed
  | setDenom range allowed => exact law.setDenom allowed
  | auditUnit range allowed => exact law.audit _ allowed
  | emptyUnit range locked => exact law.placeService _ (by omega) (by simp [locked])
  | @clearFault k => exact law.setPhase k .ready fun _ h => by simp at h
  | coin l d => exact law.countIn (t.takeCoin_counts l d)
  | @strayEnd k e => exact law.endEjection k e e.after_ne
  | exit pieces ejecting source found => exact law.detect found (State.found_source law.1 ejecting source found) pieces
  | entry pieces stored ejecting source => exact law.stackDetected pieces ejecting source
  | @stackMiss k e l => exact (law.clearTransit l).endEjection .note e (by simp)
  | @retry k e ejecting =>
    exact law.setPhase k _ fun e' he => ⟨e, State.ejecting_phase ejecting, by cases he; exact ⟨rfl, rfl⟩⟩
  | lastMiss ejecting source found => exact law.lastMiss found (State.found_source law.1 ejecting source found)
  | thirdMiss => exact law.thirdMiss ..
  | @senseReady k => exact law.setPhase k (.fault .faultSense) fun _ h => by simp at h
  | @senseEjecting k e ejecting =>
    exact law.setPhase k _ fun e' he => ⟨e, State.ejecting_phase ejecting, by cases he; exact ⟨rfl, rfl⟩⟩
  | @completeJobs r rest => exact State.Ledger.completeJobs (s := { t with planReqs := rest }) law.same r
  | tested =>
    exact law.units rfl rfl rfl rfl (fun _ => rfl) (.tested t) fun u => .of_keeps law.2 rfl (fun _ _ => rfl) (.inl rfl)
  | pfwActive => exact (law.stopEjection .coin).stopEjection .note
  | reset cause => exact law.reset cause

end Sys2Proof.Machine
end

section
/-! SUPPORT. Every change that a command makes keeps committed numbers within counts (R7). -/

namespace Sys2Proof.Machine

-- One proof after the other: many short proofs at once take more threads than the check's memory limit has room for.
set_option Elab.async false

/-! ### Committed within count (R7) -/

/-- Every unit's committed number is within its count. -/
abbrev State.Within (s : State) : Prop := ∀ u, (s.units.get u).committed ≤ (s.units.get u).count

/-- No unit's committed number rises, and no unit's count falls. -/
structure Looser (s t : State) : Prop where
  unit : ∀ u, (t.units.get u).committed ≤ (s.units.get u).committed ∧ (s.units.get u).count ≤ (t.units.get u).count

theorem Looser.within {s t : State} (h : Looser s t) (law : s.Within) : t.Within := fun u => by
  have := h.unit u
  have := law u
  omega

theorem Looser.same {s t : State} (units : t.units = s.units := by simp) : Looser s t := ⟨fun u => by simp [units]⟩

theorem Looser.modify {s t : State} (u : UnitId) {f : UnitRec → UnitRec} (units : t.units = s.units.modify u f)
    (h : ∀ r : UnitRec, (f r).committed ≤ r.committed ∧ r.count ≤ (f r).count) : Looser s t := by
  refine ⟨fun v => ?_⟩
  rw [units, Twelve.get_modify]
  split
  next same => exact same ▸ h _
  · exact ⟨le_rfl, le_rfl⟩

theorem Looser.trans {s t u : State} (h : Looser s t) (k : Looser t u) : Looser s u :=
  ⟨fun v => ⟨(k.unit v).1.trans (h.unit v).1, (h.unit v).2.trans (k.unit v).2⟩⟩

theorem Looser.setUnitState (s : State) (u : UnitId) (st : UnitState) : Looser s (s.setUnitState u st) :=
  .modify u (f := fun r => { r with state := st }) (by simp [State.setUnitState]) (by simp)

theorem Looser.released {s t : State} {n : UnitId → Nat} {any : UnitId → Bool}
    (h : ∀ u, t.units.get u = (s.units.get u).released (n u) (any u)) : Looser s t := by
  refine ⟨fun u => ?_⟩
  rw [h]
  exact ⟨Nat.sub_le .., le_rfl⟩

theorem Looser.removeStopped (s : State) (j : Job) (u : UnitId) : Looser s (s.removeStopped j u) := by
  refine ⟨fun v => ?_⟩
  have units : (s.removeStopped j u).units.get v =
      if v = u then (s.units.get v).released j.undone true else s.units.get v := by
    simp [State.removeStopped, State.release_get]
  rw [units]
  split
  · exact ⟨Nat.sub_le .., le_rfl⟩
  · exact ⟨le_rfl, le_rfl⟩

theorem Looser.lastMiss (s : State) (k : Kind) (e : Ejection) (j : Job) (u : UnitId) : Looser s (s.lastMiss k e j u) := by
  have ended : Looser s (s.endEjection k e e.after) := .same
  simp only [State.lastMiss]
  split
  · exact ended.trans (.removeStopped ..)
  · exact ended

theorem Looser.thirdMiss (s : State) (k : Kind) (e : Ejection) (j : Job) (u : UnitId) : Looser s (s.thirdMiss k e j u) := by
  have ended : Looser s (s.endEjection k e .ready) := .same
  simp only [State.thirdMiss]
  generalize s.endEjection k e .ready = t at ended
  have jammed : Looser s (if (t.units.get u).state.jams then t.setUnitState u .jammed else t) := by
    split
    · exact ended.trans (.setUnitState ..)
    · exact ended
  generalize (if (t.units.get u).state.jams then t.setUnitState u .jammed else t) = t' at jammed
  exact jammed.trans (.modify u (f := fun r => { r with committed := 0 }) (by simp [State.dismissJobs]) (by simp))

theorem Looser.makeUncertain (s : State) (u : UnitId) : Looser s (s.makeUncertain u) := by
  simp only [State.makeUncertain]
  split
  · exact .same rfl
  · exact .setUnitState ..

theorem Looser.stopEjection (s : State) (k : Kind) : Looser s (s.stopEjection k) := by
  simp only [State.stopEjection]
  split
  · exact .same rfl
  next e _ =>
    have ended : Looser s (s.endEjection k e .ready) := .same
    split
    · exact ended.trans (.makeUncertain ..)
    · exact (ended.trans (.same (t := State.clearTransit _ _))).trans (.makeUncertain ..)
    · exact ended.trans .same

theorem State.placeShares_get (s : State) (l : Lane) (tag : Nat) (xs : List Share) (place : List Job → List Job → List Job)
    (u : UnitId) : (s.placeShares l tag xs place).units.get u =
      { s.units.get u with committed := (s.units.get u).committed + takenFrom xs u } :=
  s.commitAll_get xs u

/-- Shares of a split, or the first of them, fit in the free counts of their units (R94). -/
theorem splitPlan_room {s : State} (law : s.Within) (l : Lane) (plan : Plan) (n : Nat) (u : UnitId) :
    (s.units.get u).committed + takenFrom ((splitPlan l plan s).1.take n) u ≤ (s.units.get u).count := by
  have all := splitPlan_state_committed l plan s law u
  have less : takenFrom ((splitPlan l plan s).1.take n) u ≤ takenFrom (splitPlan l plan s).1 u :=
    ((List.take_sublist ..).map _).sum_le_sum fun _ _ => Nat.zero_le _
  rw [State.commitAll_get] at all
  simp only at all
  omega

theorem State.Within.placeService {s : State} (law : s.Within) {u : UnitId} (k : TransferKind) {n : Nat}
    (room : (s.units.get u).committed + n ≤ (s.units.get u).count) : (s.placeService u k n).Within := fun v => by
  simp only [State.placeService, State.startTransfer, State.modTransfer_units, State.modUnit_units, Twelve.get_modify]
  split
  · exact room
  · exact law v

/-- A LOCKED unit without a service job has nothing committed (R10, R148). -/
theorem State.Ledger.locked_idle {s : State} (law : s.Ledger) {u : UnitId} (locked : (s.units.get u).state = .locked)
    (free : s.hasServiceJob u = false) : (s.units.get u).committed = 0 := by
  have owed : (s.units.get u).committed = owedBy s.allJobs u := law.1.1 u
  by_contra pos
  obtain ⟨j, hj, on⟩ := owedBy_pos (show 0 < owedBy s.allJobs u by omega)
  rcases (s.mem_allJobs j).mp hj with ⟨l, hj⟩ | hj | hj
  · exact (law.2 u).2.2.2 locked l j hj on
  · have none : ∀ j ∈ s.serviceJobs, j.source ≠ .unit u := by simpa [State.hasServiceJob, Job.onUnit] using free
    exact none j hj on
  · obtain ⟨l, source⟩ := law.1.2.2.2.2.1 j hj
    simp [source] at on

theorem Change.within {t m : State} {c : Closing} (h : Change t c m) (ledger : t.Ledger) (law : t.Within) : m.Within := by
  cases h with
  | quiet | settle | write => exact law
  | openSale | tender | quote | cancelWaiting | cancel | release | laneOpen | laneClose | floorHold | floorYield |
    setFloor | floatInBegin | floatInEnd | giveBack | cashboxCleared | counterSet | returned | strayEnd | stackMiss |
    returnFails | cupCleared | outletCleared | expire | planDropped | completeQuote | setLimits | keep | note |
    setDenom | retry | senseReady | senseEjecting | clearFault =>
    exact (Looser.same (s := t)).within law
  | @pay t₀ l tag x left before =>
    intro u
    have room := splitPlan_room (s := t₀) (by simpa [State.Within, before.units] using law) l (x.plan.getD [])
      (splitPlan l (x.plan.getD []) t₀).1.length u
    rw [List.take_length, ← before.units] at room
    have settled (s : State) : (s.settleTest l tag).units = s.units := by simp
    rw [settled, (t.payOut_placed ..).1, State.placeShares_get]
    simpa using room
  | stop => exact (Looser.released fun u => State.stopSale_units _ _ _ u).within law
  | lockUnit | unlockUnit | clearJam => exact (Looser.setUnitState ..).within law
  | @writeUnit u x =>
    exact (Looser.modify u (t := t.writeSettings u x) (f := fun r =>
      { r with slot := x.slot, capacity := x.capacity, highWater := x.highWater, sweepTarget := x.sweepTarget,
               mask := x.mask, state := writtenState (t.units.get u).state x.slot }) (by simp [State.writeSettings])
      (by simp)).within law
  | @auditUnit u n range allowed =>
    intro v
    have zero : (t.units.get u).committed = 0 := by
      simp only [State.auditAllowed, Bool.and_eq_true, decide_eq_true_eq] at allowed
      exact allowed.2
    simp only [State.audit, State.markDirty_keeps, State.modUnit_units, Twelve.get_modify]
    split
    · simp [zero]
    · exact law v
  | @emptyUnit u keep range locked free =>
    have zero := ledger.locked_idle locked free
    exact law.placeService .empty (by omega)
  | coin l d =>
    rcases t.takeCoin_counts l d with same | ⟨u, counted⟩
    · exact (Looser.same same).within law
    · exact (Looser.modify u counted (by simp)).within law
  | exit pieces ejecting source found =>
    exact ledger.detect_within law found (State.found_source ledger.1 ejecting source found) pieces
  | @entry e l pieces =>
    have units : (t.stackDetected e l pieces).units = (t.storeNote e l).units := by
      simp [State.stackDetected_eq, State.endStackDown]
    rcases t.storeNote_units e l with same | ⟨d, -, counted⟩
    · exact (Looser.same (units.trans same)).within law
    · exact (Looser.modify d.unit (units.trans counted) (by simp)).within law
  | lastMiss => exact (Looser.lastMiss ..).within law
  | thirdMiss => exact (Looser.thirdMiss ..).within law
  | @completeJobs r rest =>
    intro u
    have room := splitPlan_room (s := { t with planReqs := rest }) law r.lane
    rw [(State.completeJobs_placed ..).1, State.placeShares_get]
    exact room ..
  | tested => exact law
  | pfwActive => exact ((Looser.stopEjection ..).trans (.stopEjection ..)).within law
  | reset cause =>
    intro u
    obtain ⟨-, -, zero, -⟩ := t.resetStores_unit u
    show ((t.resetStores.clearRun cause).units.get u).committed ≤ _
    rw [(State.clearRun_stores ..).1, zero]
    exact Nat.zero_le _

end Sys2Proof.Machine
end

section
/-! SUPPORT. The law of plans: requests, reservations and sales agree (R36, R48, R70, R71). -/

namespace Sys2Proof.Machine

-- One proof after the other: many short proofs at once take more threads than the check's memory limit has room for.
set_option Elab.async false

/-! ### The request list (R48 to R51) -/

theorem insertReq_perm (r : PlanReq) (rs : List PlanReq) : (insertReq r rs).Perm (r :: rs) := by
  induction rs with
  | nil => exact .refl _
  | cons x xs ih =>
    simp only [insertReq]
    split
    · exact .refl _
    · exact (ih.cons x).trans (.swap ..)

theorem PlanReq.isOf_iff (r : PlanReq) (l : Lane) (tag : Nat) : r.isOf l tag = true ↔ r.lane = l ∧ r.tag = tag := by
  simp [PlanReq.isOf]

/-- The request list after a request is placed: a new entry where the sale has none, else its entry merged (R49, R51). -/
theorem State.placeRequest_cases (s : State) (l : Lane) (tag : Nat) (kind : RequestKind) (n : Nat) :
    (∃ r : PlanReq, r.lane = l ∧ r.tag = tag ∧ r.kind = kind ∧ (∀ q ∈ s.planReqs, q.isOf l tag = false) ∧
        (s.placeRequest l tag kind n).planReqs.Perm (r :: s.planReqs)) ∨
      (∃ r : PlanReq, r.lane = l ∧ r.tag = tag ∧ r.kind = .replan ∧
        (s.placeRequest l tag kind n).planReqs.Perm (r :: s.planReqs.filter fun q => !q.isOf l tag)) ∨
      ∃ e r : PlanReq, e ∈ s.planReqs ∧ e.isOf l tag = true ∧ r.lane = e.lane ∧ r.tag = e.tag ∧ r.kind = e.kind ∧
        (s.placeRequest l tag kind n).planReqs = s.planReqs.map fun q => if q.isOf l tag then r else q := by
  simp only [State.placeRequest]
  split
  next none =>
    exact .inl ⟨_, rfl, rfl, rfl, by simpa using none, insertReq_perm ..⟩
  next e found =>
    have own : e.isOf l tag = true := by simpa using List.find?_some found
    obtain ⟨lane, tag'⟩ := (e.isOf_iff l tag).mp own
    split
    · refine .inr (.inl ⟨{ e with amount := boundAmount (e.amount + n), kind := .replan }, lane, tag', rfl, ?_⟩)
      exact insertReq_perm ..
    · exact .inr (.inr ⟨e, { e with amount := boundAmount (e.amount + n) }, List.mem_of_find?_eq_some found, own, rfl, rfl,
        rfl, rfl⟩)

theorem State.placeRequest_requestLaw {s : State} (law : s.RequestLaw) (l : Lane) (tag : Nat) (kind : RequestKind)
    (n : Nat) : (s.placeRequest l tag kind n).RequestLaw := by
  unfold State.RequestLaw at law ⊢
  rcases s.placeRequest_cases l tag kind n with ⟨r, lane, tag', -, none, perm⟩ | ⟨r, lane, tag', -, perm⟩ |
    ⟨e, r, -, own, lane, tag', -, same⟩
  · rw [(perm.map _).nodup_iff, List.map_cons, List.nodup_cons]
    refine ⟨?_, law⟩
    simp only [List.mem_map, Prod.mk.injEq, lane, tag', not_exists, not_and]
    exact fun q hq lane' tag'' => by simpa [PlanReq.isOf, lane', tag''] using none q hq
  · rw [(perm.map _).nodup_iff, List.map_cons, List.nodup_cons]
    refine ⟨?_, (List.filter_sublist.map _).nodup law⟩
    simp only [List.mem_map, List.mem_filter, Prod.mk.injEq, lane, tag', not_exists, not_and, and_imp]
    exact fun q _ away lane' tag'' => by simp [PlanReq.isOf, lane', tag''] at away
  · have keys : (fun q : PlanReq => (q.lane, q.tag)) ∘ (fun q => if q.isOf l tag then r else q) = fun q => (q.lane, q.tag) := by
      funext q
      by_cases here : q.isOf l tag = true
      · have := (q.isOf_iff l tag).mp here
        have := (e.isOf_iff l tag).mp own
        simp_all
      · simp [here]
    rwa [same, List.map_map, keys]

theorem State.placeRequest_quotes (s : State) (l : Lane) (tag : Nat) (kind : RequestKind) (n : Nat) :
    ∀ q ∈ (s.placeRequest l tag kind n).planReqs, q.kind = .quote →
      (∃ q' ∈ s.planReqs, q'.kind = .quote ∧ q'.lane = q.lane ∧ q'.tag = q.tag) ∨
        kind = .quote ∧ q.lane = l ∧ q.tag = tag := by
  intro q hq quote
  rcases s.placeRequest_cases l tag kind n with ⟨r, lane, tag', kind', none, perm⟩ | ⟨r, lane, tag', kind', perm⟩ |
    ⟨e, r, mem, own, lane, tag', kind', same⟩
  · rcases List.mem_cons.mp (perm.mem_iff.mp hq) with rfl | old
    · exact .inr ⟨kind' ▸ quote, lane, tag'⟩
    · exact .inl ⟨q, old, quote, rfl, rfl⟩
  · rcases List.mem_cons.mp (perm.mem_iff.mp hq) with rfl | old
    · simp [kind'] at quote
    · exact .inl ⟨q, List.mem_of_mem_filter old, quote, rfl, rfl⟩
  · rw [same] at hq
    obtain ⟨q', hq', rfl⟩ := List.mem_map.mp hq
    split at quote
    next here => exact .inl ⟨e, mem, by rw [← kind', quote], by simp [here, lane], by simp [here, tag']⟩
    next away => exact .inl ⟨q', hq', quote, by simp [away], by simp [away]⟩

/-! ### Sales and reservations -/

theorem find?_map_tag {ys : List Sale} {tag tag' : Nat} {f : Sale → Sale} (keeps : ∀ y, (f y).tag = y.tag) :
    ((ys.map fun y => if y.tag = tag then f y else y).find? fun y => decide (y.tag = tag')) =
      (ys.find? fun y => decide (y.tag = tag')).map fun y => if tag' = tag then f y else y := by
  induction ys with
  | nil => rfl
  | cons y ys ih =>
    by_cases here : y.tag = tag'
    · by_cases same : y.tag = tag
      · simp [here, ← same, keeps]
      · simp [here, here ▸ same]
    · by_cases same : y.tag = tag
      · simpa [here, same, keeps, same ▸ here] using ih
      · simpa [here, same] using ih

theorem State.modSale_findSale (s : State) (l l' : Lane) (tag tag' : Nat) {f : Sale → Sale} (keeps : ∀ y, (f y).tag = y.tag) :
    (s.modSale l tag f).findSale l' tag' =
      (s.findSale l' tag').map fun y => if l' = l ∧ tag' = tag then f y else y := by
  simp only [State.findSale, State.modSale, State.modSales_sales, PerLane.get_modify]
  split
  next same =>
    subst same
    simp [find?_map_tag keeps]
  next other => simp [other]

theorem State.reservationOf_eq_none_iff (s : State) (l : Lane) (tag : Nat) :
    s.reservationOf l tag = none ↔ ∀ r ∈ s.reservations, ¬(r.lane = l ∧ r.tag = tag) := by
  simp [State.reservationOf]

/-- What keeps the law of plans: no request for a quote but of a sale that had one, no new reservation, and the sales of
the reservations that stay are PLANNED as before. -/
structure PlanStep (s t : State) : Prop where
  requests : s.RequestLaw → t.RequestLaw
  quotes : ∀ q ∈ t.planReqs, q.kind = .quote → ∃ q' ∈ s.planReqs, q'.kind = .quote ∧ q'.lane = q.lane ∧ q'.tag = q.tag
  reservations : t.reservations.Sublist s.reservations
  sales : ∀ r ∈ t.reservations, ∀ x, s.findSale r.lane r.tag = some x → x.state = .planned →
    ∃ y, t.findSale r.lane r.tag = some y ∧ y.state = .planned

theorem PlanStep.planLaw {s t : State} (h : PlanStep s t) (law : s.PlanLaw) : t.PlanLaw := by
  obtain ⟨requests, keys, planned, quotes⟩ := law
  refine ⟨h.requests requests, (h.reservations.map _).nodup keys, fun r hr => ?_, fun q hq quote => ?_⟩
  · obtain ⟨x, found, state⟩ := planned r (h.reservations.subset hr)
    exact h.sales r hr x found state
  · obtain ⟨q', hq', quote', lane, tag⟩ := h.quotes q hq quote
    have none := quotes q' hq' quote'
    rw [State.reservationOf_eq_none_iff] at none ⊢
    exact fun r hr => lane ▸ tag ▸ none r (h.reservations.subset hr)

theorem PlanStep.same {s t : State} (sales : t.sales = s.sales := by simp) (planReqs : t.planReqs = s.planReqs := by simp)
    (reservations : t.reservations = s.reservations := by simp) : PlanStep s t where
  requests := by simp [State.RequestLaw, planReqs]
  quotes q hq quote := ⟨q, planReqs ▸ hq, quote, rfl, rfl⟩
  reservations := by rw [reservations]
  sales _ _ x found state := ⟨x, by simpa [State.findSale, sales] using found, state⟩

theorem PlanStep.refl (s : State) : PlanStep s s := .same rfl rfl rfl

theorem PlanStep.trans {s t u : State} (h : PlanStep s t) (k : PlanStep t u) : PlanStep s u where
  requests := k.requests ∘ h.requests
  quotes q hq quote := by
    obtain ⟨q', hq', quote', lane, tag⟩ := k.quotes q hq quote
    obtain ⟨q'', hq'', quote'', lane', tag'⟩ := h.quotes q' hq' quote'
    exact ⟨q'', hq'', quote'', lane'.trans lane, tag'.trans tag⟩
  reservations := k.reservations.trans h.reservations
  sales r hr x found state := by
    obtain ⟨y, found', state'⟩ := h.sales r (k.reservations.subset hr) x found state
    exact k.sales r hr y found' state'

theorem PlanStep.ite {s t u : State} {p : Prop} [Decidable p] (ht : PlanStep s t) (hu : PlanStep s u) :
    PlanStep s (if p then t else u) := by
  split
  · exact ht
  · exact hu

theorem PlanStep.foldl {α : Type} {f : State → α → State} (h : ∀ s x, PlanStep s (f s x)) (xs : List α) (s : State) :
    PlanStep s (xs.foldl f s) := by
  induction xs generalizing s with
  | nil => exact .refl s
  | cons x xs ih => exact (h s x).trans (ih _)

theorem Quiet.planStep {s t : State} (h : Quiet s t) : PlanStep s t := .same h.sales h.planReqs h.reservations

/-- A change of a sale that leaves it PLANNED where it was, or of one without a reservation. -/
theorem PlanStep.modSale (s : State) (l : Lane) (tag : Nat) {f : Sale → Sale}
    (h : (∀ y, y.state = .planned → (f y).state = .planned) ∨ s.reservationOf l tag = none ∨
      ∃ x, s.findSale l tag = some x ∧ x.state ≠ .planned)
    (keeps : ∀ y, (f y).tag = y.tag := by intro _; rfl) : PlanStep s (s.modSale l tag f) where
  requests := by simp [State.RequestLaw]
  quotes q hq quote := ⟨q, by simpa using hq, quote, rfl, rfl⟩
  reservations := by simp
  sales r hr x found state := by
    refine ⟨if r.lane = l ∧ r.tag = tag then f x else x, by rw [s.modSale_findSale l _ tag _ keeps, found]; rfl, ?_⟩
    split
    next here =>
      rcases h with keep | none | ⟨y, found', other⟩
      · exact keep x state
      · exact absurd here ((s.reservationOf_eq_none_iff l tag).mp none r (by simpa using hr))
      · rw [← here.1, ← here.2, found] at found'
        obtain rfl := Option.some.inj found'
        exact absurd state other
    · exact state

theorem PlanStep.finishSale {s : State} {l : Lane} {tag : Nat} {x : Sale} (found : s.findSale l tag = some x)
    (state : x.state ≠ .planned) (st : SaleState) : PlanStep s (s.finishSale l tag st) :=
  (PlanStep.modSale s l tag (.inr (.inr ⟨x, found, state⟩))).trans (.same (t := s.finishSale l tag st) rfl rfl rfl)

theorem PlanStep.settleTest (s : State) (l : Lane) (tag : Nat) : PlanStep s (s.settleTest l tag) := by
  simp only [State.settleTest]
  split
  · exact .refl s
  next x found =>
    split
    · exact .refl s
    · split
      next state => exact .finishSale found (by simp [state]) _
      next state =>
        split
        · exact .refl s
        · exact .finishSale found (by simp [state]) _
      · exact .refl s

/-- A request of another kind than QUOTE. -/
theorem PlanStep.placeRequest (s : State) (l : Lane) (tag : Nat) {kind : RequestKind} (n : Nat) (h : kind ≠ .quote) :
    PlanStep s (s.placeRequest l tag kind n) where
  requests law := State.placeRequest_requestLaw law ..
  quotes q hq quote := (s.placeRequest_quotes l tag kind n q hq quote).resolve_right fun new => h new.1
  reservations := by simp
  sales _ _ x found state := ⟨x, by simpa [State.findSale] using found, state⟩

theorem PlanStep.dropRequests {s t : State} (planReqs : t.planReqs.Sublist s.planReqs) (sales : t.sales = s.sales := by simp)
    (reservations : t.reservations = s.reservations := by simp) : PlanStep s t where
  requests law := (planReqs.map _).nodup law
  quotes q hq quote := ⟨q, planReqs.subset hq, quote, rfl, rfl⟩
  reservations := by rw [reservations]
  sales _ _ x found state := ⟨x, by simpa [State.findSale, sales] using found, state⟩

theorem State.dropReservation_none (s : State) (l : Lane) (tag : Nat) : (s.dropReservation l tag).reservationOf l tag = none := by
  rw [State.reservationOf_eq_none_iff]
  intro r hr here
  simpa [here] using (List.mem_filter.mp hr).2

theorem PlanStep.dropReservation (s : State) (l : Lane) (tag : Nat) : PlanStep s (s.dropReservation l tag) where
  requests := id
  quotes q hq quote := ⟨q, hq, quote, rfl, rfl⟩
  reservations := List.filter_sublist
  sales _ _ x found state := ⟨x, found, state⟩

theorem PlanStep.lapse (s : State) (l : Lane) (tag : Nat) : PlanStep s (s.lapse l tag) :=
  (PlanStep.dropReservation s l tag).trans (.modSale _ l tag (.inr (.inl (s.dropReservation_none l tag))))

end Sys2Proof.Machine
end

section
/-! SUPPORT. Every change that a command makes keeps the law of plans. -/

namespace Sys2Proof.Machine

-- One proof after the other: many short proofs at once take more threads than the check's memory limit has room for.
set_option Elab.async false

/-! ### Operations on sales -/

theorem PlanStep.creditSale (s : State) (l : Lane) (tag : Nat) (k : Kind) (v : Nat) : PlanStep s (s.creditSale l tag k v) := by
  simp only [State.creditSale]
  split
  · exact .same
  · refine PlanStep.trans (t := s.modSale l tag _)
      (.modSale s l tag (.inl fun y h => ?_) fun y => ?_) (.ite .same (.refl _))
    · cases k <;> exact h
    · cases k <;> rfl

theorem PlanStep.takeCoin (s : State) (l : Lane) (d : Slot) : PlanStep s (s.takeCoin l d) := by
  have stored : PlanStep s (s.storeCoin l d) := .same (by simp) (by simp [State.storeCoin]) (by simp [State.storeCoin])
  rw [State.takeCoin_eq]
  refine .ite ?_ stored
  simp only [State.creditCoin]
  split
  · exact stored.trans (.creditSale ..)
  · exact stored.trans .same
  · exact stored.trans .same

theorem PlanStep.takeNote (s : State) (l : Lane) (d : Slot) : PlanStep s (s.takeNote l d) := by
  have pushed (c : Credit) : PlanStep s (s.pushNote l d c) := .same
  simp only [State.takeNote]
  split
  · exact (pushed .sale).trans (.creditSale ..)
  · exact (pushed .floatIn).trans .same
  · exact .ite ((pushed .stray).trans .same) ((pushed .stray).trans .same)

theorem PlanStep.payPiece (s : State) (l : Lane) (tag : Nat) (b : Bool) (v w : Nat) : PlanStep s (s.payPiece l tag b v w) := by
  refine .modSale s l tag (.inl fun y h => ?_) fun y => ?_
  · split <;> exact h
  · split <;> rfl

theorem PlanStep.deliver (s : State) (j : Job) (u : UnitId) (v : Nat) : PlanStep s (s.deliver j u v) := by
  cases origin : j.origin with
  | sale l tag =>
    simp only [State.deliver, origin]
    exact PlanStep.trans (.same (by simp) (by simp) (by simp)) (.payPiece ..)
  | stackDown | sweep | empty =>
    refine .same ?_ ?_ ?_ <;> simp [State.deliver, origin]

theorem PlanStep.countPiece (s : State) (j : Job) (u : UnitId) : PlanStep s (s.countPiece j u) :=
  PlanStep.trans (.same (by simp) (by simp) (by simp)) (.deliver ..)

theorem PlanStep.countExtra (s : State) (j : Job) (u : UnitId) : PlanStep s (s.countExtra j u) :=
  PlanStep.trans (.same (by simp) (by simp) (by simp)) (.deliver ..)

theorem PlanStep.shortenJob (s : State) (j : Job) (u : UnitId) : PlanStep s (s.shortenJob j u) := by
  have finish : ∀ t : State, PlanStep t (if j.ordered - 1 ≤ j.done then (t.dropJob j.serial).endTransferOf j u .complete else t) :=
    fun t => .ite .same (.refl t)
  cases origin : j.origin <;> simp only [State.shortenJob, origin]
  · exact ((PlanStep.same (by simp) (by simp) (by simp)).trans (.placeRequest _ _ _ _ (by simp))).trans (finish _)
  all_goals exact (PlanStep.same (by simp) (by simp) (by simp)).trans (finish _)

theorem PlanStep.shorten (s : State) (u : UnitId) : PlanStep s (s.shorten u) := by
  simp only [State.shorten]
  split
  · split
    · exact .shortenJob ..
    · exact .refl s
  · exact .refl s

theorem PlanStep.settleJob (s : State) (j : Job) : PlanStep s (s.settleJob j) := by
  simp only [State.settleJob]
  split
  · exact .ite (.refl s) (.settleTest ..)
  all_goals exact .refl s

theorem PlanStep.detect (s : State) (k : Kind) (e : Ejection) (j : Job) (u : UnitId) (p : Pieces) :
    PlanStep s (s.detect k e j u p) := by
  have counted : PlanStep s (s.countPieces j u p) :=
    (PlanStep.countPiece s j u).trans <| PlanStep.trans (.ite (.countPiece ..) (.refl _)) (.ite (.countExtra ..) (.refl _))
  have own : PlanStep s (s.detectOwn k e j u p) := counted.trans (.same (by simp [State.detectOwn]) (by simp [State.detectOwn])
    (by simp [State.detectOwn]))
  rw [State.detect_eq]
  exact own.trans (PlanStep.trans (.ite (.shorten ..) (.refl _)) (.settleJob ..))

theorem PlanStep.dismissJobs (s : State) (u : UnitId) : PlanStep s (s.dismissJobs u) := by
  have dropped : PlanStep s ((s.dropJobs fun j => j.onUnit u).modUnit u fun r => { r with committed := 0 }) :=
    .same rfl rfl rfl
  have replan (t : State) (gone : List Job) : PlanStep t (t.replanRemoved u gone) :=
    .foldl (f := fun s (x : Lane × Nat) => s.placeRequest x.1 x.2 .replan (undoneOf gone x.1 x.2 * s.unitValue u))
      (fun s x => .placeRequest s x.1 x.2 _ (by simp)) _ t
  have ended (t : State) (gone : List Job) : PlanStep t (t.endRemoved u gone) := .same
  exact (dropped.trans (replan ..)).trans (ended ..)

theorem PlanStep.thirdMiss (s : State) (k : Kind) (e : Ejection) (j : Job) (u : UnitId) : PlanStep s (s.thirdMiss k e j u) := by
  have ended : PlanStep s (s.endEjection k e .ready) := .same
  have jammed (t : State) : PlanStep t (if (t.units.get u).state.jams then t.setUnitState u .jammed else t) :=
    .ite .same (.refl t)
  have sampled (t : State) : PlanStep t (t.sampleJam j u) := .same
  exact ((ended.trans (jammed _)).trans (.dismissJobs ..)).trans (sampled _)

theorem PlanStep.returnSucceeds (s : State) (l : Lane) : PlanStep s (s.returnSucceeds l) := by
  simp only [State.returnSucceeds]
  split
  · exact PlanStep.trans (.same (by simp) (by simp) (by simp)) (.settleTest ..)
  · exact .same

theorem PlanStep.beginReturn (s : State) (l : Lane) : PlanStep s (s.beginReturn l) := by
  have began : PlanStep s (s.setEscrowStatus l (.returning (s.now + Config.returnTimeout))) := .same
  exact began.trans (.ite (.returnSucceeds ..) (.refl _))

theorem PlanStep.keepForSale (s : State) (l : Lane) (tag v : Nat) : PlanStep s (s.keepForSale l tag v) :=
  (PlanStep.modSale s l tag (f := fun x => { x with refund := x.refund.map fun r => boundAmount (r + v) })
    (.inl fun _ h => h)).trans (PlanStep.trans (.ite (.placeRequest _ _ _ _ (by simp)) (.refl _)) (.settleTest ..))

theorem PlanStep.keepEscrow (s : State) (l : Lane) : PlanStep s (s.keepEscrow l) := by
  have kept : PlanStep s (s.keepStack l) := .same
  simp only [State.keepEscrow]
  split
  · exact kept.trans (.keepForSale ..)
  · exact kept

/-! ### The sale commands -/

theorem PlanStep.openSale {s : State} {l : Lane} {tag : Nat} (due : Nat) :
    PlanStep s (s.modSales l (· ++ [Sale.opened tag due])) where
  requests := id
  quotes q hq quote := ⟨q, hq, quote, rfl, rfl⟩
  reservations := .refl _
  sales r _ x found state := by
    refine ⟨x, ?_, state⟩
    simp only [State.findSale, State.modSales_sales, PerLane.get_modify] at found ⊢
    split
    next same =>
      rw [List.find?_append, ← same, found]
      rfl
    · exact found

theorem PlanStep.openTender {s : State} {l : Lane} {tag : Nat} {x : Sale} (found : s.findSale l tag = some x)
    (waiting : x.state = .waiting) : PlanStep s (s.openTender l tag) := by
  have tendering := PlanStep.modSale s l tag
    (f := fun x => { x with state := .tendering, coinValue := x.coinValue + (s.lanes.get l).stray }.withChange)
    (.inr (.inr ⟨x, found, by simp [waiting]⟩))
  exact tendering.trans (.same (by simp [State.openTender]) (by simp [State.openTender]) (by simp [State.openTender]))

/-- A finished sale leaves the order list (R30). -/
theorem PlanStep.release {s : State} {l : Lane} {tag : Nat} {x : Sale} (found : s.findSale l tag = some x)
    (finished : x.state.finished = true) : PlanStep s (s.modSales l fun xs => xs.filter fun y => decide (y.tag ≠ tag)) where
  requests := id
  quotes q hq quote := ⟨q, hq, quote, rfl, rfl⟩
  reservations := .refl _
  sales r _ y found' state := by
    refine ⟨y, ?_, state⟩
    have other : ¬(r.lane = l ∧ r.tag = tag) := fun here => by
      rw [here.1, here.2, found] at found'
      obtain rfl := Option.some.inj found'
      simp [state, SaleState.finished] at finished
    simp only [State.findSale, State.modSales_sales, PerLane.get_modify] at found' ⊢
    split
    next same =>
      have tags : r.tag ≠ tag := fun h => other ⟨same, h⟩
      rw [List.find?_filter, ← same, ← found']
      congr 1
      funext z
      by_cases here : z.tag = r.tag <;> simp [here, tags]
    · exact found'

theorem State.findSale_open {s : State} {l : Lane} {tag : Nat} {x : Sale} (found : s.findSale l tag = some x)
    (planned : x.state = .planned) : ((s.sales.get l).any fun y => y.state.open) = true :=
  List.any_eq_true.mpr ⟨x, List.mem_of_find?_eq_some found, by simp [planned, SaleState.open]⟩

theorem State.cancelWaiting_sales (s : State) {l m : Lane} (h : m ≠ l) : (s.cancelWaiting l).sales.get m = s.sales.get m := by
  unfold State.cancelWaiting
  generalize s.waitingTags l = tags
  induction tags generalizing s with
  | nil => rfl
  | cons tag tags ih =>
    rw [List.foldl_cons, ih]
    simp [State.finishSale, State.raiseFinished, State.modSale, PerLane.get_modify_other _ h]

theorem PlanStep.closeLane {s : State} {l : Lane} (closed : ((s.sales.get l).any fun x => x.state.open) = false) :
    PlanStep s (s.closeLane l) where
  requests := by simp [State.RequestLaw]
  quotes q hq quote := ⟨q, by simpa using hq, quote, rfl, rfl⟩
  reservations := by simp
  sales r _ x found state := by
    have other : r.lane ≠ l := fun same => by
      rw [← same, State.findSale_open found state] at closed
      exact Bool.noConfusion closed
    have sales : (s.closeLane l).sales = (s.cancelWaiting l).sales := by simp [State.closeLane]
    exact ⟨x, by rw [State.findSale, sales, s.cancelWaiting_sales other]; exact found, state⟩

theorem State.lapse_none (s : State) (l : Lane) (tag : Nat) : (s.lapse l tag).reservationOf l tag = none := by
  have same : (s.lapse l tag).reservations = (s.dropReservation l tag).reservations := rfl
  rw [State.reservationOf, same]
  exact s.dropReservation_none l tag

/-- A sale that is not PLANNED holds no reservation (R71). -/
theorem State.PlanLaw.unplanned {s : State} (law : s.PlanLaw) {l : Lane} {tag : Nat} {x : Sale}
    (found : s.findSale l tag = some x) (state : x.state ≠ .planned) : s.reservationOf l tag = none := by
  rw [State.reservationOf_eq_none_iff]
  rintro r hr ⟨rfl, rfl⟩
  obtain ⟨y, found', planned⟩ := law.2.2.1 r hr
  rw [found] at found'
  obtain rfl := Option.some.inj found'
  exact state planned

theorem State.findSale_tag {s : State} {l : Lane} {tag : Nat} {x : Sale} (found : s.findSale l tag = some x) : x.tag = tag := by
  simpa using List.find?_some found

/-- What QUOTE and CANCEL do first takes the sale's reservation away, if it had one (R36, R46). -/
theorem PlanStep.beforeQuote {s : State} (law : s.PlanLaw) {l : Lane} {tag : Nat} {x : Sale}
    (found : s.findSale l tag = some x) :
    PlanStep s (s.beforeQuote l x) ∧ (s.beforeQuote l x).reservationOf l tag = none := by
  obtain rfl := State.findSale_tag found
  have closed (st : x.state = .tendering) : PlanStep s (s.closeTender l x.tag) := by
    have unbound : PlanStep s (if ((s.unbind l).escrows.get l).entries.isEmpty then (s.unbind l).setOwner l .none else s.unbind l) :=
      .ite .same .same
    refine unbound.trans (.modSale _ l x.tag (.inr (.inr ⟨x, ?_, by simp [st]⟩)))
    split <;> simpa [State.findSale] using found
  simp only [State.beforeQuote]
  split
  next st =>
    refine ⟨closed st, ?_⟩
    have same : (s.closeTender l x.tag).reservations = s.reservations := by simp
    rw [State.reservationOf, same]
    exact law.unplanned found (by simp [st])
  · exact ⟨.lapse .., s.lapse_none ..⟩
  next left right => exact ⟨.refl s, law.unplanned found right⟩

theorem PlanStep.beforeCancel {s : State} (law : s.PlanLaw) {l : Lane} {tag : Nat} {x : Sale}
    (found : s.findSale l tag = some x) :
    PlanStep s (s.beforeCancel l x) ∧ (s.beforeCancel l x).reservationOf l tag = none := by
  obtain rfl := State.findSale_tag found
  simp only [State.beforeCancel]
  split
  next st => exact ⟨.same, law.unplanned found (by simp [st])⟩
  · exact ⟨.lapse .., s.lapse_none ..⟩
  next left right => exact ⟨.refl s, law.unplanned found right⟩

theorem PlanStep.cancelTendered {s : State} (law : s.PlanLaw) {l : Lane} {tag : Nat} {x : Sale}
    (found : s.findSale l tag = some x) : PlanStep s (s.cancelTendered l x) := by
  obtain rfl := State.findSale_tag found
  obtain ⟨before, none⟩ := PlanStep.beforeCancel law found
  have refunding : PlanStep (s.beforeCancel l x) ((s.beforeCancel l x).modSale l x.tag fun y =>
      { y with state := .refunding, refund := some x.coinValue, refundShortfall := some 0 }) :=
    .modSale _ l x.tag (.inr (.inl none))
  have asked (t : State) : PlanStep t (if 0 < x.coinValue then t.placeRequest l x.tag .refund x.coinValue else t) :=
    .ite (.placeRequest _ _ _ _ (by simp)) (.refl t)
  have returned (t : State) : PlanStep t (t.returnStack l x.tag) := by
    simp only [State.returnStack]
    exact .ite (.ite .same (.beginReturn ..)) (.refl t)
  exact (((before.trans refunding).trans (asked _)).trans (returned _)).trans (.settleTest ..)

theorem PlanStep.payOut (s : State) (l : Lane) (tag : Nat) (xs : List Share) (v : Nat) : PlanStep s (s.payOut l tag xs v) := by
  have none : ((s.dropReservation l tag).placeShares l tag xs atTail).reservationOf l tag = none := by
    have same : ((s.dropReservation l tag).placeShares l tag xs atTail).reservations = (s.dropReservation l tag).reservations := by
      simp
    rw [State.reservationOf, same]
    exact s.dropReservation_none l tag
  have paying : PlanStep s (((s.dropReservation l tag).placeShares l tag xs atTail).modSale l tag fun x => { x with state := .paying }) :=
    ((PlanStep.dropReservation s l tag).trans .same).trans (.modSale _ l tag (.inr (.inl none)))
  have asked (t : State) : PlanStep t (if 0 < v then t.placeRequest l tag .replan v else t) :=
    .ite (.placeRequest _ _ _ _ (by simp)) (.refl t)
  have stacked (t : State) : PlanStep t
      (if (t.escrows.get l).owner = .sale tag then (t.setOwner l .stacking).placeStackDown l else t) :=
    .ite .same (.refl t)
  have cleared (t : State) : PlanStep t (t.clearNeedOf l tag) := .same
  exact ((paying.trans (asked _)).trans (stacked _)).trans (cleared _)

theorem PlanStep.stopSale {s : State} {l : Lane} {tag : Nat} {x : Sale} (found : s.findSale l tag = some x)
    (state : x.state ≠ .planned) : PlanStep s (s.stopSale l x) := by
  obtain rfl := State.findSale_tag found
  have stopped : PlanStep s ((s.stopJobs l x.tag).dropRequest l x.tag) :=
    (PlanStep.same (t := s.stopJobs l x.tag)).trans (.dropRequests List.filter_sublist rfl rfl)
  have orphaned : PlanStep ((s.stopJobs l x.tag).dropRequest l x.tag) (((s.stopJobs l x.tag).dropRequest l x.tag).orphanStack l x) := .same
  refine (stopped.trans orphaned).trans (.finishSale (x := x) ?_ state _)
  simpa [State.findSale, State.dropRequest] using found

theorem PlanStep.recordUnplanned (s : State) (l : Lane) (tag v : Nat) : PlanStep s (s.recordUnplanned l tag v) := by
  refine .modSale s l tag (.inl fun y h => ?_) fun y => ?_
  · split <;> exact h
  · split <;> rfl

theorem PlanStep.completeJobs (s : State) (r : PlanReq) : PlanStep s (s.completeJobs r) := by
  have placed (xs : List Share) : PlanStep s (s.placeShares r.lane r.tag xs (r.kind.place r.lane r.tag)) := .same
  have sampled (t : State) (o : PlanOutcome) (plan : Plan) (n : Nat) :
      PlanStep t ((t.sampleOutcome r.lane o plan).sampleSteps r.lane n) := .same
  exact (((placed _).trans (.recordUnplanned ..)).trans (sampled ..)).trans (.settleTest ..)

/-- A request for the QUOTE of a sale without a reservation (R49). -/
theorem State.PlanLaw.placeQuote {s : State} (law : s.PlanLaw) {l : Lane} {tag : Nat} (none : s.reservationOf l tag = none)
    (n : Nat) : (s.placeRequest l tag .quote n).PlanLaw := by
  obtain ⟨requests, keys, planned, quotes⟩ := law
  refine ⟨State.placeRequest_requestLaw requests .., by simpa using keys, fun r hr => ?_, fun q hq quote => ?_⟩
  · simpa [State.findSale] using planned r (by simpa using hr)
  · have same : (s.placeRequest l tag .quote n).reservations = s.reservations := by simp
    rw [State.reservationOf, same]
    rcases s.placeRequest_quotes l tag .quote n q hq quote with ⟨q', hq', quote', lane, tag'⟩ | ⟨-, lane, tag'⟩
    · exact lane ▸ tag' ▸ quotes q' hq' quote'
    · exact lane ▸ tag' ▸ none

/-- The sale, the requests and the reservations after the completion of a QUOTE (R64). -/
theorem State.completeQuote_parts (s : State) (r : PlanReq) (x : Sale) :
    (∃ f : Sale → Sale, (∀ y, (f y).tag = y.tag) ∧ (∀ y, (f y).state = .planned) ∧
        (s.completeQuote r x).sales = (s.modSale r.lane r.tag f).sales) ∧
      (s.completeQuote r x).planReqs = s.planReqs ∧
      (s.completeQuote r x).reservations = s.reservations ++
        [{ lane := r.lane, tag := r.tag, counts := s.planOf (s.searchFor r.lane r.tag r.amount r.shielded)
           ends := s.now + s.limits.hold * 1000 }] := by
  refine ⟨⟨fun y => y.quoted (s.plannedAmount r.amount) (s.planOf (s.searchFor r.lane r.tag r.amount r.shielded))
    (s.shortfallOf r.amount (s.searchFor r.lane r.tag r.amount r.shielded))
    (floorBlockedBy (s.liftedSearch r (s.searchFor r.lane r.tag r.amount r.shielded))), fun _ => rfl, fun _ => rfl, ?_⟩, ?_, ?_⟩
  all_goals
    simp only [State.completeQuote]
    split <;> split <;> simp [State.reserve]

/-- The completion of a QUOTE: the sale gets its reservation and is PLANNED (R64). -/
theorem State.PlanLaw.completeQuote {s : State} (law : s.PlanLaw) {r : PlanReq} {x : Sale}
    (found : s.findSale r.lane r.tag = some x) (none : s.reservationOf r.lane r.tag = none)
    (fresh : (r.lane, r.tag) ∉ s.planReqs.map fun q => (q.lane, q.tag)) : (s.completeQuote r x).PlanLaw := by
  obtain ⟨requests, keys, planned, quotes⟩ := law
  obtain ⟨⟨quoted, tag, state, sales⟩, planReqs, reservations⟩ := s.completeQuote_parts r x
  generalize s.completeQuote r x = t at sales planReqs reservations
  have findSale (l : Lane) (tag' : Nat) : t.findSale l tag' =
      (s.findSale l tag').map fun y => if l = r.lane ∧ tag' = r.tag then quoted y else y := by
    rw [← s.modSale_findSale _ _ _ _ tag, State.findSale, State.findSale, sales]
  rw [State.reservationOf_eq_none_iff] at none
  refine ⟨by simpa [State.RequestLaw, planReqs] using requests, ?_, fun r' hr' => ?_, fun q hq quote => ?_⟩
  · rw [reservations, List.map_append, List.nodup_append]
    refine ⟨keys, by simp, ?_⟩
    simp only [List.mem_map, List.map_cons, List.map_nil, List.mem_singleton]
    rintro _ ⟨r', hr', rfl⟩ _ rfl same
    simp only [Prod.mk.injEq] at same
    exact none r' hr' same
  · rw [reservations, List.mem_append, List.mem_singleton] at hr'
    rcases hr' with old | rfl
    · obtain ⟨y, found', planned'⟩ := planned r' old
      refine ⟨y, ?_, planned'⟩
      simp [findSale, found', none r' old]
    · exact ⟨quoted x, by simp [findSale, found], state x⟩
  · rw [planReqs] at hq
    rw [State.reservationOf_eq_none_iff, reservations]
    intro r' hr'
    rw [List.mem_append, List.mem_singleton] at hr'
    rcases hr' with old | rfl
    · exact (State.reservationOf_eq_none_iff ..).mp (quotes q hq quote) r' old
    · rintro ⟨lane, tag'⟩
      exact fresh (List.mem_map.mpr ⟨q, hq, by simp [← lane, ← tag']⟩)

theorem State.planLaw_of_none {s : State} (planReqs : s.planReqs = []) (reservations : s.reservations = []) : s.PlanLaw := by
  simp [State.PlanLaw, State.RequestLaw, planReqs, reservations]

theorem Change.planLaw {t m : State} {c : Closing} (h : Change t c m) (law : t.PlanLaw) : m.PlanLaw := by
  cases h with
  | quiet | settle | write => exact law
  | laneOpen | floorHold | floorYield | lockUnit | unlockUnit | writeUnit | setDenom | setFloor | setLimits | auditUnit |
    emptyUnit | floatInBegin | floatInEnd | clearJam | clearFault | cashboxCleared | counterSet | strayEnd | entry |
    stackMiss | retry | lastMiss | senseReady | senseEjecting | returnFails | cupCleared | outletCleared | tested |
    pfwActive =>
    exact (PlanStep.same (s := t)).planLaw law
  | openSale due => exact (PlanStep.openSale due).planLaw law
  | tender found waiting => exact (PlanStep.openTender found waiting).planLaw law
  | @quote l tag x amount left found =>
    obtain ⟨before, none⟩ := PlanStep.beforeQuote law found
    have cleared : PlanStep (t.beforeQuote l x) ((t.beforeQuote l x).clearNeedOf l tag) := .same
    refine ((before.trans cleared).planLaw law).placeQuote ?_ amount
    have same : ((t.beforeQuote l x).clearNeedOf l tag).reservations = (t.beforeQuote l x).reservations := by simp
    rw [State.reservationOf, same]
    exact none
  | pay => exact ((PlanStep.payOut ..).trans (.settleTest ..)).planLaw law
  | cancelWaiting found waiting => exact (PlanStep.finishSale found (by simp [waiting]) _).planLaw law
  | cancel left found => exact (PlanStep.cancelTendered law found).planLaw law
  | release found finished => exact ((PlanStep.release found finished).trans .same).planLaw law
  | stop found state =>
    exact (PlanStep.stopSale found (by rcases state with h | h <;> simp [h])).planLaw law
  | laneClose closed => exact (PlanStep.closeLane closed).planLaw law
  | giveBack l => exact (PlanStep.beginReturn t l).planLaw law
  | returned l => exact (PlanStep.returnSucceeds t l).planLaw law
  | keep l => exact (PlanStep.keepEscrow t l).planLaw law
  | coin l d => exact (PlanStep.takeCoin t l d).planLaw law
  | @note l d => exact (PlanStep.takeNote t l d).planLaw law
  | exit => exact (PlanStep.detect ..).planLaw law
  | thirdMiss => exact (PlanStep.thirdMiss ..).planLaw law
  | @expire l tag r =>
    have told : PlanStep (t.lapse r.lane r.tag) (t.expire r) :=
      .same (by simp [State.expire]) (by simp [State.expire]) (by simp [State.expire])
    exact ((PlanStep.lapse t r.lane r.tag).trans told).planLaw law
  | @planDropped r rest head =>
    exact (PlanStep.dropRequests (s := t) (t := { t with planReqs := rest }) (by simp [head]) rfl rfl).planLaw law
  | @completeQuote r rest x head found kind =>
    have left : State.PlanLaw { t with planReqs := rest } :=
      (PlanStep.dropRequests (s := t) (t := { t with planReqs := rest }) (by simp [head]) rfl rfl).planLaw law
    obtain ⟨requests, -, -, quotes⟩ := law
    simp only [State.RequestLaw, head, List.map_cons, List.nodup_cons] at requests
    exact left.completeQuote found (quotes r (by simp [head]) kind) requests.1
  | @completeJobs r rest x head =>
    exact ((PlanStep.dropRequests (s := t) (t := { t with planReqs := rest }) (by simp [head]) rfl rfl).trans (.completeJobs ..)).planLaw law
  | reset cause => exact State.planLaw_of_none rfl rfl

end Sys2Proof.Machine
end

section
/-! SUPPORT. The law of reservations: what keeps the backing of every slot at or above its reserved total (R57, R76). -/

namespace Sys2Proof.Machine

-- One proof after the other: many short proofs at once take more threads than the check's memory limit has room for.
set_option Elab.async false

/-! ### Sums over units -/

theorem State.sumUnits_eq (s : State) (p : UnitId → Bool) (q : UnitRec → Nat) :
    s.sumUnits p q = (allUnits.map fun u => if p u then q (s.units.get u) else 0).sum := by
  unfold State.sumUnits
  induction allUnits with
  | nil => rfl
  | cons u us ih => cases h : p u <;> simp [h, ih]

/-- A sum over units grows with its terms. -/
theorem sum_units_le {f g : UnitId → Nat} (h : ∀ u, f u ≤ g u) : (allUnits.map f).sum ≤ (allUnits.map g).sum :=
  List.sum_le_sum fun u _ => h u

/-- The unit backs the slot: it is of the slot, ACTIVE, and its mechanism not in FAULT (R6). -/
def State.backs (s : State) (d : Slot) (u : UnitId) : Bool :=
  s.unitOfSlot d u && s.unitActive u && !s.mechFault (unitKind u)

theorem State.backing_eq (s : State) (d : Slot) :
    s.backing d = (allUnits.map fun u => if s.backs d u then (s.units.get u).free else 0).sum :=
  s.sumUnits_eq ..

theorem State.backs_iff (s : State) (d : Slot) (u : UnitId) :
    s.backs d u = true ↔ (s.units.get u).slot = some d ∧ (s.units.get u).state = .active ∧ s.mechFault (unitKind u) = false := by
  simp [State.backs, State.unitOfSlot, State.unitActive, and_assoc]

theorem reservedIn_sublist {rs rs' : List Reservation} (h : rs.Sublist rs') (d : Slot) : reservedIn rs d ≤ reservedIn rs' d :=
  (h.map _).sum_le_sum fun _ _ => Nat.zero_le _

/-! ### No fall of backing -/

/-- No unit that backs a slot loses free pieces, its slot, its state or its mechanism, and no reservation is new. -/
structure Firmer (s t : State) : Prop where
  units : ∀ u, (s.units.get u).state = .active → (t.units.get u).state = .active ∧
    (t.units.get u).slot = (s.units.get u).slot ∧ (s.units.get u).free ≤ (t.units.get u).free
  faults : ∀ k, t.mechFault k = true → s.mechFault k = true
  reservations : t.reservations.Sublist s.reservations

theorem Firmer.backing {s t : State} (h : Firmer s t) (d : Slot) : s.backing d ≤ t.backing d := by
  rw [State.backing_eq, State.backing_eq]
  refine sum_units_le fun u => ?_
  by_cases before : s.backs d u = true
  · obtain ⟨slot, active, sound⟩ := (s.backs_iff d u).mp before
    obtain ⟨active', slot', free⟩ := h.units u active
    have sound' : t.mechFault (unitKind u) = false :=
      Bool.eq_false_iff.mpr fun fault => Bool.eq_false_iff.mp sound (h.faults _ fault)
    have after : t.backs d u = true := (t.backs_iff d u).mpr ⟨slot'.trans slot, active', sound'⟩
    simpa [before, after] using free
  · simp [before]

theorem Firmer.reservationLaw {s t : State} (h : Firmer s t) (law : s.ReservationLaw) : t.ReservationLaw := fun d =>
  calc t.reservedTotal d ≤ s.reservedTotal d := reservedIn_sublist h.reservations d
    _ ≤ s.backing d := law d
    _ ≤ t.backing d := h.backing d

theorem Firmer.trans {s t u : State} (h : Firmer s t) (k : Firmer t u) : Firmer s u where
  units v active := by
    obtain ⟨active', slot, free⟩ := h.units v active
    obtain ⟨active'', slot', free'⟩ := k.units v active'
    exact ⟨active'', slot'.trans slot, free.trans free'⟩
  faults m := h.faults m ∘ k.faults m
  reservations := k.reservations.trans h.reservations

/-- An operation that leaves units and phases, and adds no reservation. -/
theorem Firmer.same {s t : State} (units : t.units = s.units := by simp)
    (phases : ∀ k, (t.mechs.get k).phase = (s.mechs.get k).phase := by simp)
    (reservations : t.reservations.Sublist s.reservations := by simp) : Firmer s t where
  units u active := by rw [units]; exact ⟨active, rfl, le_rfl⟩
  faults k := by simp [State.mechFault, phases]
  reservations := reservations

theorem Quiet.firmer {s t : State} (h : Quiet s t) : Firmer s t := .same h.units h.phases (by rw [h.reservations])

theorem PlanStep.firmer {s t : State} (h : PlanStep s t) (units : t.units = s.units := by simp)
    (phases : ∀ k, (t.mechs.get k).phase = (s.mechs.get k).phase := by simp) : Firmer s t :=
  .same units phases h.reservations

/-- A change of one unit that was not ACTIVE, or that stays so with as many free pieces. -/
theorem Firmer.modify {s t : State} (u : UnitId) {f : UnitRec → UnitRec} (units : t.units = s.units.modify u f)
    (h : (s.units.get u).state = .active → (f (s.units.get u)).state = .active ∧
      (f (s.units.get u)).slot = (s.units.get u).slot ∧ (s.units.get u).free ≤ (f (s.units.get u)).free)
    (phases : ∀ k, (t.mechs.get k).phase = (s.mechs.get k).phase := by simp)
    (reservations : t.reservations.Sublist s.reservations := by simp) : Firmer s t where
  units v active := by
    rw [units, Twelve.get_modify]
    split
    next same =>
      subst same
      exact h active
    · exact ⟨active, rfl, le_rfl⟩
  faults k := by simp [State.mechFault, phases]
  reservations := reservations

/-- Releasing pieces frees them. -/
theorem UnitRec.released_firmer (r : UnitRec) (n : Nat) (any : Bool) (active : r.state = .active) :
    (r.released n any).state = .active ∧ (r.released n any).slot = r.slot ∧ r.free ≤ (r.released n any).free := by
  refine ⟨?_, rfl, ?_⟩
  · rcases r.released_state n any with same | ⟨pending, -⟩
    · rw [same, active]
    · simp [active] at pending
  · simp only [UnitRec.free, UnitRec.released]
    omega

theorem Firmer.released {s t : State} {n : UnitId → Nat} {any : UnitId → Bool}
    (units : ∀ u, t.units.get u = (s.units.get u).released (n u) (any u))
    (phases : ∀ k, (t.mechs.get k).phase = (s.mechs.get k).phase := by simp)
    (reservations : t.reservations.Sublist s.reservations := by simp) : Firmer s t where
  units u active := by rw [units]; exact UnitRec.released_firmer _ _ _ active
  faults k := by simp [State.mechFault, phases]
  reservations := reservations

theorem Firmer.setPhase (s : State) (k : Kind) (x : Phase) (h : x.isFault = true → s.mechFault k = true) :
    Firmer s (s.setPhase k x) where
  units u active := by simpa using active
  faults m := by
    simp only [State.mechFault, State.setPhase, State.modMech_mechs, PerKind.get_modify]
    split
    next same =>
      subst same
      exact h
    · exact id
  reservations := by simp

theorem Firmer.endEjection (s : State) (k : Kind) (e : Ejection) {x : Phase} (h : x.isFault = false) :
    Firmer s (s.endEjection k e x) := by
  have landed : Firmer (s.setPhase k x) (s.endEjection k e x) :=
    .same (by simp) (by simp [State.endEjection]) (by simp)
  exact (Firmer.setPhase s k x fun fault => absurd fault (by simp [h])).trans landed

theorem Ejection.after_sound {e : Ejection} (h : e.faultPending = false) : e.after.isFault = false := by
  simp [Ejection.after, h, Phase.isFault]

theorem Firmer.removeStopped (s : State) (j : Job) (u : UnitId) : Firmer s (s.removeStopped j u) where
  units v active := by
    have units : (s.removeStopped j u).units.get v =
        if v = u then (s.units.get v).released j.undone true else s.units.get v := by
      simp [State.removeStopped, State.release_get]
    rw [units]
    split
    · exact UnitRec.released_firmer _ _ _ active
    · exact ⟨active, rfl, le_rfl⟩
  faults k := by simp [State.mechFault]
  reservations := by simp

theorem Firmer.lastMiss (s : State) (k : Kind) {e : Ejection} (j : Job) (u : UnitId) (h : e.faultPending = false) :
    Firmer s (s.lastMiss k e j u) := by
  have ended : Firmer s (s.endEjection k e e.after) := .endEjection s k e (Ejection.after_sound h)
  simp only [State.lastMiss]
  split
  · exact ended.trans (.removeStopped ..)
  · exact ended

/-- The third miss of a unit that does not jam by it (R123). -/
theorem Firmer.thirdMiss {s : State} (k : Kind) (e : Ejection) (j : Job) {u : UnitId}
    (stays : (s.units.get u).state.jams = false) : Firmer s (s.thirdMiss k e j u) := by
  have ended : Firmer s (s.endEjection k e .ready) := .endEjection s k e rfl
  have still : ((s.endEjection k e .ready).units.get u).state.jams = false := by simpa using stays
  simp only [State.thirdMiss, still, Bool.false_eq_true, if_false]
  generalize s.endEjection k e .ready = t at ended still
  have idle : (t.units.get u).state ≠ .active := fun active => by simp [active, UnitState.jams] at still
  exact ended.trans (.modify u (f := fun r => { r with committed := 0 }) (by simp [State.dismissJobs])
    fun active => absurd active idle)

/-- A piece that enters a unit. -/
theorem Firmer.countIn {s t : State}
    (units : t.units = s.units ∨ ∃ u, t.units = s.units.modify u fun r => { r with count := r.count + 1 })
    (faults : ∀ k, t.mechFault k = true → s.mechFault k = true) (reservations : t.reservations.Sublist s.reservations) :
    Firmer s t where
  units v active := by
    rcases units with same | ⟨u, counted⟩
    · rw [same]
      exact ⟨active, rfl, le_rfl⟩
    · rw [counted, Twelve.get_modify]
      split
      next same =>
        subst same
        exact ⟨active, rfl, by simp only [UnitRec.free]; omega⟩
      · exact ⟨active, rfl, le_rfl⟩
  faults := faults
  reservations := reservations

/-- A detection without an extra piece leaves a unit its free pieces (R115, R125). -/
theorem State.Ledger.detect_firmer {s : State} (law : s.Ledger) {k : Kind} {e : Ejection} {j : Job} {u : UnitId}
    (found : s.findJob e.job = some j) (source : j.source = .unit u) {p : Pieces} (plain : extraPiece j p = false) (sound : e.faultPending = false) :
    Firmer s (s.detect k e j u p) := by
  have mem : j ∈ s.allJobs := List.mem_of_find?_eq_some found
  have job : j.serial = e.job := by simpa using List.find?_some found
  obtain ⟨rest, held⟩ := State.holds_of_mem law.1.2.2.1 mem
  obtain ⟨-, -, units⟩ := State.detectOwn_spec held k job u p
  obtain ⟨pos, committed⟩ := law.1.undone_le mem source
  have own := ownPieces_le pos p
  have eq : s.detect k e j u p = (s.detectOwn k e j u p).settleJob j := by simp [State.detect_eq, plain]
  have mechs : (s.detect k e j u p).mechs = (s.setPhase k e.after).mechs := by
    simp [eq, State.detectOwn, State.endEjection, State.setPhase]
  refine ⟨fun v active => ?_, fun m => ?_, by simp⟩
  · have same : (s.detect k e j u p).units = (s.detectOwn k e j u p).units := by rw [eq]; simp
    rw [same, units]
    split
    next same =>
      subst same
      simp only [plain, Bool.false_eq_true, if_false]
      obtain ⟨active', slot, free⟩ :=
        UnitRec.released_firmer ((s.units.get v).counted (ownPieces j p) 0) (j.counted (ownPieces j p)).leftover true active
      refine ⟨active', slot, le_trans ?_ free⟩
      simp only [UnitRec.free, UnitRec.counted]
      omega
    · exact ⟨active, rfl, le_rfl⟩
  · have ended := (Firmer.setPhase s k e.after fun fault => absurd fault (by simp [Ejection.after_sound sound])).faults m
    simpa only [State.mechFault, mechs] using ended

end Sys2Proof.Machine
end

section
/-! SUPPORT. A search stays within the usable counts, so a new reservation stays within the backing (R55, R57, R58). -/

namespace Sys2Proof.Machine

-- One proof after the other: many short proofs at once take more threads than the check's memory limit has room for.
set_option Elab.async false

/-! ### Counts within the usable counts (R55, R58) -/

/-- The best leaf so far is within its levels. -/
structure Walk.Bounded (levels : List (Nat × Nat)) (w : Walk) : Prop where
  best : ∀ b, w.best = some b → List.Forall₂ (fun k level => k ≤ level.2) b.1 levels

theorem Walk.Bounded.leaf {levels : List (Nat × Nat)} {w : Walk} (h : w.Bounded levels) {counts : List Nat}
    (within : List.Forall₂ (fun k level => k ≤ level.2) counts.reverse levels) (limit pieces remainder : Nat) :
    (w.leaf limit counts pieces remainder).Bounded levels := by
  have taken (r : Nat) (e : Bool) : Walk.Bounded levels { w with best := some (counts.reverse, r), ended := e } := by
    refine ⟨?_⟩
    rintro _ ⟨⟩
    exact within
  simp only [Walk.leaf]
  split
  · exact h
  · split
    · exact taken ..
    · split
      · exact taken ..
      · split
        · exact taken ..
        · exact h

theorem Walk.Bounded.tryCount {levels : List (Nat × Nat)} {w : Walk} (h : w.Bounded levels) {below : Nat → Walk → Walk}
    {k : Nat} (deeper : ∀ w : Walk, w.Bounded levels → (below k w).Bounded levels) (limit : Nat) :
    (w.tryCount below limit k).Bounded levels := by
  simp only [Walk.tryCount]
  split
  · exact h
  · split
    · exact ⟨h.best⟩
    · exact deeper _ ⟨h.best⟩

theorem Walk.Bounded.tryDown {levels : List (Nat × Nat)} {below : Nat → Walk → Walk} (limit : Nat) {n : Nat}
    (deeper : ∀ k ≤ n, ∀ w : Walk, w.Bounded levels → (below k w).Bounded levels) {w : Walk} (h : w.Bounded levels) :
    (w.tryDown below limit n).Bounded levels := by
  induction n generalizing w with
  | zero => exact h.tryCount (deeper 0 le_rfl) limit
  | succ n ih => exact ih (fun k hk => deeper k (by omega)) (h.tryCount (deeper (n + 1) le_rfl) limit)

theorem Walk.Bounded.walkLevels {done : List (Nat × Nat)} (limit effort : Nat) (rest : List (Nat × Nat)) (remaining pieces : Nat)
    {counts : List Nat} (within : List.Forall₂ (fun k level => k ≤ level.2) counts.reverse done) {w : Walk}
    (h : w.Bounded (done ++ rest)) : (walkLevels limit effort rest remaining pieces counts w).Bounded (done ++ rest) := by
  induction rest generalizing done remaining pieces counts w with
  | nil => exact h.leaf (by simpa using within) ..
  | cons level rest ih =>
    obtain ⟨v, u⟩ := level
    refine Walk.Bounded.tryDown effort (fun k hk w hw => ?_) h
    have next : List.Forall₂ (fun k level => k ≤ level.2) (k :: counts).reverse (done ++ [(v, u)]) := by
      rw [List.reverse_cons]
      exact List.rel_append within (.cons (by simp only; omega) .nil)
    simpa using ih (remaining - k * v) (pieces + k) next (w := w) (by simpa using hw)

/-- A search takes no more of a level than its usable count (R58). -/
theorem search_within (levels : List (Nat × Nat)) (c limit effort : Nat) :
    (search levels c limit effort).counts = [] ∨
      List.Forall₂ (fun k level => k ≤ level.2) (search levels c limit effort).counts levels := by
  have bounded := Walk.Bounded.walkLevels (done := []) limit effort levels c 0 (counts := []) .nil
    (w := { steps := 0, best := none, ended := false }) ⟨by simp⟩
  simp only [search]
  split
  next b best => exact .inr (bounded.best b best)
  · exact .inl rfl

theorem zip_within {ds : List Slot} {value usable : Slot → Nat} {counts : List Nat}
    (h : List.Forall₂ (fun k (level : Nat × Nat) => k ≤ level.2) counts (ds.map fun d => (value d, usable d))) :
    ∀ e ∈ ds.zip counts, e.2 ≤ usable e.1 := by
  induction ds generalizing counts with
  | nil => simp
  | cons d ds ih =>
    rw [List.map_cons] at h
    cases h with
    | cons within rest =>
      rw [List.zip_cons_cons, List.forall_mem_cons]
      exact ⟨within, ih rest⟩

/-- A plan takes no more of a slot than its usable count (R55, R60). -/
theorem State.planCount_le_usable (s : State) (l : Lane) (tag amount : Nat) (shielded : Bool) (d : Slot) :
    planCount (s.planOf (s.searchFor l tag amount shielded)) d ≤ s.usable l tag shielded d := by
  have within : ∀ e ∈ s.planOf (s.searchFor l tag amount shielded), e.2 ≤ s.usable l tag shielded e.1 := by
    intro e he
    have mem := List.mem_of_mem_filter he
    rcases search_within (s.walkedSlots.map fun d => (s.slotValue d, s.usable l tag shielded d)) (s.plannedAmount amount)
      s.limits.piece s.limits.effort with none | bounded
    · rw [State.searchFor, none] at mem
      simp at mem
    · exact zip_within bounded e mem
  generalize s.planOf (s.searchFor l tag amount shielded) = plan at within
  simp only [planCount]
  split
  next e found =>
    have slot : e.1 = d := by simpa using List.find?_some found
    exact slot ▸ within e (List.mem_of_find?_eq_some found)
  · exact Nat.zero_le _

/-! ### A new reservation (R55, R57) -/

theorem State.served_le_backing (s : State) (d : Slot) (l : Lane) : s.served d l ≤ s.backing d := by
  rw [State.served, State.backing, State.sumUnits_eq, State.sumUnits_eq]
  refine sum_units_le fun u => ?_
  split
  next serves =>
    simp only [State.serves, Bool.and_eq_true] at serves
    obtain ⟨slot, ⟨active, -⟩, sound⟩ := serves
    rw [if_pos (by rw [slot, active, sound]; rfl)]
  · exact Nat.zero_le _

theorem State.reservedByOthers_all {s : State} {l : Lane} {tag : Nat} (none : s.reservationOf l tag = none) (d : Slot) :
    s.reservedByOthers l tag d = s.reservedTotal d := by
  rw [State.reservationOf_eq_none_iff] at none
  have all : (s.reservations.filter fun r => !(decide (r.lane = l) && decide (r.tag = tag))) = s.reservations :=
    List.filter_eq_self.mpr fun r hr => by simpa [imp_iff_not_or] using none r hr
  simp only [State.reservedByOthers, all, State.reservedTotal]

/-- The completion of a QUOTE reserves no more than the backing leaves (R55, R57). -/
theorem State.ReservationLaw.completeQuote {s : State} (law : s.ReservationLaw) {r : PlanReq} (x : Sale)
    (none : s.reservationOf r.lane r.tag = none) : (s.completeQuote r x).ReservationLaw := fun d => by
  obtain ⟨-, -, reservations⟩ := s.completeQuote_parts r x
  have backing : (s.completeQuote r x).backing d = s.backing d := by
    simp [State.backing, State.sumUnits, State.unitOfSlot, State.unitActive, State.mechFault]
  have total : (s.completeQuote r x).reservedTotal d =
      s.reservedTotal d + planCount (s.planOf (s.searchFor r.lane r.tag r.amount r.shielded)) d := by
    simp [State.reservedTotal, reservedIn, reservations]
  have within := s.planCount_le_usable r.lane r.tag r.amount r.shielded d
  have served := s.served_le_backing d r.lane
  have before := law d
  rw [State.usable, State.reservedByOthers_all none] at within
  rw [backing, total]
  omega

end Sys2Proof.Machine
end

section
/-! SUPPORT. Every change that reports no fall of backing keeps the law of reservations (R11, R57). -/

namespace Sys2Proof.Machine

-- One proof after the other: many short proofs at once take more threads than the check's memory limit has room for.
set_option Elab.async false

/-- The closing takes the change for a fall of backing (R11). -/
def Closing.falls : Closing → Bool
  | .conclude fall _ _ => fall
  | .none | .flush | .settle | .write => false

theorem State.reservationLaw_of_none {s : State} (h : s.reservations = []) : s.ReservationLaw := fun d => by
  simp [State.reservedTotal, reservedIn, h]

/-- A stack-down that ends without a fault (R128). -/
theorem Firmer.stackDetected (s : State) (e : Ejection) (l : Lane) {p : Pieces} (sound : (e.afterStack p).isFault = false) :
    Firmer s (s.stackDetected e l p) := by
  obtain ⟨-, mechs, -⟩ := s.storeNote_keeps e l
  have stored : Firmer s (s.storeNote e l) := by
    refine .countIn ?_ (by simp [State.mechFault, mechs]) ?_
    · rcases s.storeNote_units e l with same | ⟨d, -, counted⟩
      exacts [.inl same, .inr ⟨d.unit, counted⟩]
    · simp only [State.storeNote]
      split <;> simp
  rw [State.stackDetected_eq]
  generalize s.storeNote e l = t at stored
  have counted : Firmer t (t.modJob e.job fun j => { j with done := j.done + 1 }) := .same
  have ended : Firmer t (t.endStackDown e p) := counted.trans (.endEjection _ .note e sound)
  exact (stored.trans ended).trans .same

theorem Change.reservationLaw {t m : State} {c : Closing} (h : Change t c m) (ledger : t.Ledger) (plan : t.PlanLaw)
    (law : t.ReservationLaw) (noFall : c.falls = false) : m.ReservationLaw := by
  cases h with
  | quiet | settle | write => exact law
  | pay | lockUnit | stackMiss | senseReady | completeJobs | tested | pfwActive => simp [Closing.falls] at noFall
  | openSale | tender | cancelWaiting | release | laneOpen | laneClose | floorHold | floorYield |
    setFloor | floatInBegin | floatInEnd | giveBack | cashboxCleared | counterSet | returned |
    returnFails | cupCleared | outletCleared | planDropped | setLimits | keep | note | setDenom =>
    exact (Firmer.same (s := t)).reservationLaw law
  | @quote l tag x amount left found =>
    obtain ⟨before, -⟩ := PlanStep.beforeQuote plan found
    have placed : Firmer (t.beforeQuote l x) (((t.beforeQuote l x).clearNeedOf l tag).placeRequest l tag .quote amount) := .same
    exact (before.firmer.trans placed).reservationLaw law
  | cancel left found => exact (PlanStep.cancelTendered plan found).firmer.reservationLaw law
  | @expire l tag r =>
    have told : Firmer (t.lapse r.lane r.tag) (t.expire r) :=
      .same (by simp [State.expire]) (by simp [State.expire]) (by simp [State.expire])
    exact ((PlanStep.lapse t r.lane r.tag).firmer.trans told).reservationLaw law
  | stop => exact (Firmer.released fun u => State.stopSale_units _ _ _ u).reservationLaw law
  | @unlockUnit u locked =>
    exact (Firmer.modify u (t := t.setUnitState u .active) (f := fun r => { r with state := .active }) (by simp [State.setUnitState])
      (by simp [locked])).reservationLaw law
  | @clearJam u jammed =>
    exact (Firmer.modify u (t := t.setUnitState u .locked) (f := fun r => { r with state := .locked }) (by simp [State.setUnitState])
      (by simp [jammed])).reservationLaw law
  | @writeUnit u x range allowed =>
    simp only [State.writeUnitAllowed, Bool.and_eq_true, Bool.or_eq_true, decide_eq_true_eq] at allowed
    obtain ⟨⟨⟨state, -⟩, -⟩, -⟩ := allowed
    have idle : (t.units.get u).state ≠ .active := by rcases state with (h | h) | h <;> simp [h]
    exact (Firmer.modify u (t := t.writeSettings u x) (f := fun r =>
      { r with slot := x.slot, capacity := x.capacity, highWater := x.highWater, sweepTarget := x.sweepTarget,
               mask := x.mask, state := writtenState (t.units.get u).state x.slot }) (by simp [State.writeSettings])
      (fun active => absurd active idle) (by simp [State.writeSettings]) (by simp [State.writeSettings])).reservationLaw law
  | @auditUnit u n range allowed =>
    simp only [State.auditAllowed, Bool.and_eq_true, Bool.or_eq_true, decide_eq_true_eq] at allowed
    obtain ⟨⟨state, -⟩, -⟩ := allowed
    have idle : (t.units.get u).state ≠ .active := by rcases state with (h | h) | h <;> simp [h]
    exact (Firmer.modify u (t := t.audit u n) (f := fun r => { r with count := n, state := .locked }) (by simp [State.audit])
      (fun active => absurd active idle) (by simp [State.audit]) (by simp [State.audit])).reservationLaw law
  | @emptyUnit u keep range locked free =>
    exact (Firmer.modify u (t := t.placeService u .empty ((t.units.get u).count - keep))
      (f := fun r => { r with committed := r.committed + ((t.units.get u).count - keep) })
      (by simp [State.placeService, State.startTransfer]) (by simp [locked])).reservationLaw law
  | coin l d =>
    exact (Firmer.countIn (t.takeCoin_counts l d) (by simp [State.mechFault]) (by simp)).reservationLaw law
  | @exit k e j u pieces ejecting source found =>
    simp only [Closing.falls, Bool.or_eq_false_iff] at noFall
    exact (ledger.detect_firmer found (State.found_source ledger.1 ejecting source found) noFall.1 noFall.2).reservationLaw law
  | @entry e l pieces => exact (Firmer.stackDetected t e l noFall).reservationLaw law
  | strayEnd => exact (Firmer.endEjection _ _ _ (Ejection.after_sound noFall)).reservationLaw law
  | lastMiss => exact (Firmer.lastMiss _ _ _ _ noFall).reservationLaw law
  | thirdMiss => exact (Firmer.thirdMiss _ _ _ noFall).reservationLaw law
  | @clearFault k => exact (Firmer.setPhase t k .ready (by simp [Phase.isFault])).reservationLaw law
  | @retry k e => exact (Firmer.setPhase t k _ (by simp [Phase.isFault])).reservationLaw law
  | senseEjecting => exact (Firmer.setPhase _ _ _ (by simp [Phase.isFault])).reservationLaw law
  | @completeQuote r rest x head found kind =>
    have left : State.ReservationLaw { t with planReqs := rest } := law
    exact left.completeQuote x (plan.2.2.2 r (by simp [head]) kind)
  | reset cause => exact State.reservationLaw_of_none rfl

end Sys2Proof.Machine
end

section
/-! SUPPORT. The withdrawal makes the law of reservations after a fall of backing, and sweep checks keep the books
(R76, R146, R147). -/

namespace Sys2Proof.Machine

-- One proof after the other: many short proofs at once take more threads than the check's memory limit has room for.
set_option Elab.async false

/-! ### Withdrawal (R76, R77) -/

theorem State.reservationLaw_iff (s : State) : s.ReservationLaw ↔ s.anyOverReserved = false := by
  simp [State.ReservationLaw, State.anyOverReserved, State.overReserved]

theorem planCount_pos {p : Plan} {d : Slot} (h : 0 < planCount p d) : ∃ e ∈ p, e.1 = d ∧ 0 < e.2 := by
  simp only [planCount] at h
  split at h
  next e found => exact ⟨e, List.mem_of_find?_eq_some found, by simpa using List.find?_some found, h⟩
  · simp at h

/-- Where no reservation must go, no slot is over-reserved (R76). -/
theorem State.reservationLaw_of_stays {s : State} (h : ∀ r ∈ s.reservations, s.mustGo r = false) : s.ReservationLaw := by
  intro d
  by_contra exceeds
  have pos : 0 < (s.reservations.map fun r => planCount r.counts d).sum := by
    have total : s.reservedTotal d = (s.reservations.map fun r => planCount r.counts d).sum := rfl
    omega
  obtain ⟨r, hr, count⟩ : ∃ r ∈ s.reservations, 0 < planCount r.counts d := by
    by_contra none
    have zero : (s.reservations.map fun r => planCount r.counts d).sum = 0 := by
      rw [List.sum_eq_zero_iff]
      simpa using none
    omega
  obtain ⟨e, he, slot, counted⟩ := planCount_pos count
  have stays := h r hr
  rw [State.mustGo, List.any_eq_false] at stays
  exact stays e he (by simp [counted, slot, State.overReserved]; omega)

theorem PlanStep.withdrawOne (s : State) (r : Reservation) : PlanStep s (s.withdrawOne r) :=
  (PlanStep.lapse s r.lane r.tag).trans
    (.same (by simp [State.withdrawOne]) (by simp [State.withdrawOne]) (by simp [State.withdrawOne]))

theorem PlanStep.withdrawWalk (rs : List Reservation) (s : State) : PlanStep s (withdrawWalk rs s).1 := by
  induction rs generalizing s with
  | nil => exact .refl s
  | cons r rs ih =>
    simp only [Machine.withdrawWalk]
    split
    · split
      · exact (PlanStep.withdrawOne s r).trans (ih _)
      · exact ih s
    · exact .refl s

theorem Firmer.withdrawOne (s : State) (r : Reservation) : Firmer s (s.withdrawOne r) :=
  (PlanStep.withdrawOne s r).firmer

theorem State.withdrawOne_backing (s : State) (r : Reservation) (d : Slot) : (s.withdrawOne r).backing d = s.backing d := by
  simp [State.backing, State.sumUnits, State.unitOfSlot, State.unitActive, State.mechFault]

theorem State.withdrawOne_none (s : State) (r : Reservation) : (s.withdrawOne r).reservationOf r.lane r.tag = none := by
  have same : (s.withdrawOne r).reservations = (s.lapse r.lane r.tag).reservations := by simp [State.withdrawOne]
  rw [State.reservationOf, same]
  exact s.lapse_none ..

/-- A reservation that may stay may stay after a withdrawal as well. -/
theorem State.withdrawOne_stays {s : State} (r : Reservation) {r' : Reservation} (h : s.mustGo r' = false) :
    (s.withdrawOne r).mustGo r' = false := by
  rw [State.mustGo, List.any_eq_false] at h ⊢
  intro e he
  have less := reservedIn_sublist (Firmer.withdrawOne s r).reservations e.1
  have before := h e he
  simp only [State.overReserved, State.withdrawOne_backing, Bool.and_eq_true, decide_eq_true_eq, not_and, not_lt] at before ⊢
  exact fun pos => less.trans (before pos)

/-- The walk ends where no slot is over-reserved, when every reservation that must go is still to come (R76). -/
theorem withdrawWalk_law (rs : List Reservation) {s : State} (h : ∀ r ∈ s.reservations, r ∈ rs ∨ s.mustGo r = false) :
    (withdrawWalk rs s).1.ReservationLaw := by
  induction rs generalizing s with
  | nil => exact State.reservationLaw_of_stays fun r hr => (h r hr).resolve_left (by simp)
  | cons r rs ih =>
    simp only [Machine.withdrawWalk]
    split
    · split
      · refine ih fun r' hr' => ?_
        have old := (Firmer.withdrawOne s r).reservations.subset hr'
        rcases h r' old with mem | stays
        · rcases List.mem_cons.mp mem with rfl | later
          · exact absurd ⟨rfl, rfl⟩ ((State.reservationOf_eq_none_iff ..).mp (s.withdrawOne_none r') r' hr')
          · exact .inl later
        · exact .inr (State.withdrawOne_stays r stays)
      next stays =>
        refine ih fun r' hr' => ?_
        rcases h r' hr' with mem | stays'
        · rcases List.mem_cons.mp mem with rfl | later
          · exact .inr (by simpa using stays)
          · exact .inl later
        · exact .inr stays'
    next none => exact s.reservationLaw_iff.mpr (by simpa using none)

theorem State.withdraw_law (s : State) : s.withdraw.1.ReservationLaw :=
  withdrawWalk_law _ fun r hr => .inl (by simpa using hr)

/-! ### The books (R7, R57) -/

/-- The laws of the books, with the law of unit numbers cut down to what the law of capacity leaves of it. -/
structure State.Books (s : State) : Prop where
  capacity : s.CapacityLaw
  ledger : s.Ledger
  within : s.Within
  plan : s.PlanLaw
  reservation : s.ReservationLaw

theorem State.booksLaw_iff (s : State) : s.BooksLaw ↔ s.Books := by
  constructor
  · rintro ⟨capacity, units, jobs, states, plan, reservation⟩
    exact ⟨capacity, ⟨jobs, states⟩, fun u => (units u).1, plan, reservation⟩
  · rintro ⟨capacity, ⟨jobs, states⟩, within, plan, reservation⟩
    exact ⟨capacity, fun u => ⟨within u, (capacity.1 u).1⟩, jobs, states, plan, reservation⟩

/-! ### Sweep checks (R146, R147) -/

/-- A sweep check does nothing, or it places a job for an ACTIVE unit, within its free count and what its slot's
reservations leave free. -/
theorem State.sweepCheck_cases (s : State) (u : UnitId) :
    s.sweepCheck u = s ∨ ∃ d n, (s.units.get u).slot = some d ∧ (s.units.get u).state = .active ∧ 0 < n ∧
      n ≤ (s.units.get u).free ∧ n + s.reservedTotal d ≤ s.freeActive d ∧ s.sweepCheck u = s.placeService u .sweep n := by
  simp only [State.sweepCheck]
  split
  next due =>
    simp only [Bool.and_eq_true, State.unitActive, decide_eq_true_eq] at due
    obtain ⟨⟨active, -⟩, -⟩ := due
    split
    · exact .inl rfl
    next d slot =>
      split
      next room =>
        obtain ⟨pos, -⟩ := room
        have within : s.sweepAmount u d ≤ (s.units.get u).free ∧ s.sweepAmount u d ≤ s.freeActive d - s.reservedTotal d := by
          simp only [State.sweepAmount]
          omega
        exact .inr ⟨d, _, slot, active, pos, within.1, by omega, rfl⟩
      · exact .inl rfl
  · exact .inl rfl

theorem Lighter.sweepCheck (s : State) (u : UnitId) : Lighter s (s.sweepCheck u) := by
  rcases s.sweepCheck_cases u with same | ⟨d, n, -, -, -, -, -, placed⟩
  · rw [same]
    exact .refl s
  · rw [placed]
    exact .placeService ..

/-- All ACTIVE units of a slot are driven by one mechanism (R137), so its backing is nothing or all that is free. -/
theorem State.Ledger.backing_sound {s : State} (law : s.Ledger) {u : UnitId} {d : Slot} (slot : (s.units.get u).slot = some d)
    (active : (s.units.get u).state = .active) :
    s.backing d = 0 ∨ s.backing d = s.freeActive d := by
  have kind {v : UnitId} {e : Slot} (slot : (s.units.get v).slot = some e) (active : (s.units.get v).state = .active) :
      (s.denoms.get e).kind = unitKind v := by
    have fits := (law.2 v).2.1 active
    simpa [State.slotFitsUnit, slot] using fits
  rw [State.backing_eq, State.freeActive, State.sumUnits_eq]
  by_cases fault : s.mechFault (unitKind u) = true
  · refine .inl (List.sum_eq_zero fun x hx => ?_)
    obtain ⟨v, -, rfl⟩ := List.mem_map.mp hx
    refine if_neg fun backs => ?_
    obtain ⟨slot', active', sound⟩ := (s.backs_iff d v).mp backs
    rw [← kind slot' active', kind slot active, fault] at sound
    exact Bool.noConfusion sound
  · refine .inr (congrArg List.sum (List.map_congr_left fun v _ => ?_))
    have same : s.backs d v = (s.unitOfSlot d v && s.unitActive v) := by
      rw [Bool.eq_iff_iff, State.backs_iff]
      simp only [State.unitOfSlot, State.unitActive, Bool.and_eq_true, decide_eq_true_eq]
      refine ⟨fun h => ⟨h.1, h.2.1⟩, fun h => ⟨h.1, h.2, ?_⟩⟩
      rw [← kind h.1 h.2, kind slot active]
      simpa using fault
    rw [same]

/-- What a service job takes from the backing of a slot. -/
theorem State.placeService_backing (s : State) (u : UnitId) (k : TransferKind) (n : Nat) (d : Slot) :
    s.backing d ≤ (s.placeService u k n).backing d + if (s.units.get u).slot = some d then n else 0 := by
  have units (v : UnitId) : (s.placeService u k n).units.get v =
      { s.units.get v with committed := (s.units.get v).committed + if v = u then n else 0 } := by
    simp only [State.placeService, State.startTransfer, State.modTransfer_units, State.modUnit_units, Twelve.get_modify]
    split
    next same => simp [same]
    · simp
  have backs (v : UnitId) : (s.placeService u k n).backs d v = s.backs d v := by
    simp [State.backs, State.unitOfSlot, State.unitActive, State.mechFault, units]
  have one : (allUnits.map fun v => if v = u then (if (s.units.get u).slot = some d then n else 0) else 0).sum =
      if (s.units.get u).slot = some d then n else 0 := by
    fin_cases u <;> simp [allUnits]
  rw [State.backing_eq, State.backing_eq]
  calc _ ≤ (allUnits.map fun v => (if s.backs d v then ((s.placeService u k n).units.get v).free else 0) +
          if v = u then (if (s.units.get u).slot = some d then n else 0) else 0).sum := sum_units_le fun v => ?_
    _ = _ := by simp only [List.sum_map_add, one, backs]
  by_cases here : s.backs d v = true
  · have slot := ((s.backs_iff d v).mp here).1
    by_cases same : v = u
    · subst same
      simp [here, slot, units, UnitRec.free]
      omega
    · simp [here, same, units, UnitRec.free]
  · simp [here]

theorem State.Books.sweepCheck {s : State} (law : s.Books) (u : UnitId) : (s.sweepCheck u).Books := by
  obtain ⟨capacity, ledger, within, plan, reservation⟩ := law
  rcases s.sweepCheck_cases u with same | ⟨d, n, slot, active, pos, free, room, placed⟩
  · rw [same]
    exact ⟨capacity, ledger, within, plan, reservation⟩
  rw [placed]
  refine ⟨(Lighter.placeService ..).capacityLaw capacity, ledger.placeService _ pos (by simp [active]),
    within.placeService _ ?_, (PlanStep.same).planLaw plan, fun e => ?_⟩
  · have := within u
    simp only [UnitRec.free] at free
    omega
  · have total : (s.placeService u .sweep n).reservedTotal e = s.reservedTotal e := by simp [State.reservedTotal]
    have backing := s.placeService_backing u .sweep n e
    have before := reservation e
    rw [total]
    split at backing
    next same =>
      obtain rfl := Option.some.inj (slot.symm.trans same)
      rcases ledger.backing_sound slot active with none | all <;> omega
    · omega

theorem Lighter.sweepChecks (s : State) (left : List Reservation) (stored : List UnitId) : Lighter s (s.sweepChecks left stored) :=
  .foldl (f := fun s u => if s.sweepDue left stored u then s.sweepCheck u else s)
    (fun s u => .ite (.sweepCheck s u) (.refl s)) allUnits s

theorem State.Books.sweepChecks {s : State} (law : s.Books) (left : List Reservation) (stored : List UnitId) :
    (s.sweepChecks left stored).Books := by
  unfold State.sweepChecks
  induction allUnits generalizing s with
  | nil => exact law
  | cons u us ih =>
    rw [List.foldl_cons]
    refine ih ?_
    split
    · exact law.sweepCheck u
    · exact law

end Sys2Proof.Machine
end

section
/-! SUPPORT. The decisions of the arbiters keep the capacities and the books (R97, R114). -/

namespace Sys2Proof.Machine

-- One proof after the other: many short proofs at once take more threads than the check's memory limit has room for.
set_option Elab.async false

/-! ### What an arbiter starts (R97) -/

/-- What an arbiter grants: a job of a queue, or one of the stack-down positions with a destination that has room
for the note (R98). -/
def State.Grants (s : State) (j : Job) (dest : Dest) : Prop :=
  (∃ l, j ∈ s.laneJobs.get l) ∨ j ∈ s.serviceJobs ∨ j ∈ s.stackJobs ∧
    ∀ d, dest = .drum d → (s.units.get d.unit).count < (s.units.get d.unit).highWater ∨
      (s.units.get d.unit).count < (s.units.get d.unit).capacity

theorem State.Grants.mem {s : State} {j : Job} {dest : Dest} (h : s.Grants j dest) : j ∈ s.allJobs := by
  rw [State.mem_allJobs]
  rcases h with lane | service | ⟨stack, -⟩
  exacts [.inl lane, .inr (.inl service), .inr (.inr stack)]

/-- The second state has the queues and the mechanisms of an ejection that the first one starts. -/
structure Starts (k : Kind) (s t : State) (j : Job) (dest : Dest) : Prop where
  ready : (s.mechs.get k).phase = .ready
  grants : s.Grants j dest
  laneJobs : t.laneJobs = (s.startEjection k j dest).laneJobs
  serviceJobs : t.serviceJobs = (s.startEjection k j dest).serviceJobs
  stackJobs : t.stackJobs = (s.startEjection k j dest).stackJobs
  mechs : t.mechs = (s.startEjection k j dest).mechs

theorem State.firstEligible_mem {s : State} {k : Kind} {q : List Job} {j : Job} (h : s.firstEligible k q = some j) : j ∈ q :=
  List.mem_of_find?_eq_some h

theorem State.pickLane_mem {s : State} {k : Kind} {l : Lane} {j : Job} (h : s.pickLane k = some (l, j)) :
    ∃ l, j ∈ s.laneJobs.get l := by
  have pick {l : Lane} {i : Job} (found : s.firstEligible k (s.laneJobs.get l) = some i) (same : i = j) :
      ∃ l, j ∈ s.laneJobs.get l := ⟨l, same ▸ State.firstEligible_mem found⟩
  simp only [State.pickLane] at h
  split at h
  next i found _ => exact pick found (by simpa using congrArg (Option.map Prod.snd) h)
  next i _ found => exact pick found (by simpa using congrArg (Option.map Prod.snd) h)
  next i i' found found' =>
    split at h
    · exact pick found (by simpa using congrArg (Option.map Prod.snd) h)
    · exact pick found' (by simpa using congrArg (Option.map Prod.snd) h)
  · simp at h

/-- A stack-down goes where its note has room (R16, R18). -/
theorem State.topRoute_room {s : State} {l : Lane} {r : Store} (h : s.topRoute l = some r) {d : Drum} (dest : r.noteDest = .drum d) :
    (s.units.get d.unit).count < (s.units.get d.unit).highWater ∨
      (s.units.get d.unit).count < (s.units.get d.unit).capacity := by
  cases r with
  | cashbox => simp [Store.noteDest] at dest
  | unit u =>
    have routed : ∃ slot floatIn, s.route .note slot floatIn = some (.unit u) := by
      simp only [State.topRoute] at h
      split at h
      · simp at h
      · split at h
        · simp at h
        · exact ⟨_, _, h⟩
    obtain ⟨slot, floatIn, routed⟩ := routed
    have fits := State.route_fits routed
    have kind : unitKind u = .note := by rcases fits with h | h <;> exact h.1
    have same : d.unit = u := by
      obtain rfl : drumOf u = d := by simpa [Store.noteDest] using dest
      have drum : 8 ≤ u.val := by
        by_contra low
        simp [unitKind, show u.val < 8 by omega] at kind
      simp [drumOf, drum, Drum.unit]
    rw [same]
    rcases fits with ⟨-, -, -, below⟩ | ⟨-, -, -, below⟩
    exacts [.inl below, .inr below]

theorem State.grantStackDown_cases {s : State} {k : Kind} {j : Job} (ready : (s.mechs.get k).phase = .ready)
    (found : s.firstEligible k s.stackJobs = some j) :
    s.grantStackDown j = s ∨ ∃ dest, Starts k s (s.grantStackDown j) j dest := by
  obtain ⟨-, -, -, -, kind, -⟩ := State.firstEligible_split found
  simp only [State.grantStackDown]
  split
  · exact .inl rfl
  next l source =>
    split
    · exact .inl rfl
    next r top =>
      obtain rfl : Kind.note = k := by simpa [source, Source.kind] using kind
      exact .inr ⟨r.noteDest, ready, .inr (.inr ⟨State.firstEligible_mem found, fun d dest => State.topRoute_room top dest⟩),
        by simp, by simp, by simp, by simp⟩

/-- An arbiter does nothing, or it starts an ejection (R97). -/
theorem State.arbitrate_cases (s : State) (k : Kind) :
    s.arbitrate k = s ∨ ∃ j dest, Starts k s (s.arbitrate k) j dest := by
  by_cases idle : s.pfw = true ∨ (s.mechs.get k).phase ≠ .ready
  · exact .inl (State.arbitrate_idle idle)
  simp only [not_or, Bool.not_eq_true, ne_eq, not_not] at idle
  obtain ⟨pfw, ready⟩ := idle
  rw [State.arbitrate_ready pfw ready]
  cases stack : s.firstEligible k s.stackJobs with
  | some j =>
    rw [State.grantFirst_stack stack]
    exact (State.grantStackDown_cases ready stack).imp_right fun ⟨dest, starts⟩ => ⟨j, dest, starts⟩
  | none =>
    cases picked : s.pickLane k with
    | some choice =>
      obtain ⟨l, j⟩ := choice
      rw [State.grantFirst_lane stack picked]
      refine .inr ⟨j, j.dest, ready, .inl (State.pickLane_mem picked), ?_, ?_, ?_, ?_⟩
      all_goals
        simp only [State.grantLane]
        split <;> simp
    | none =>
      cases found : s.firstEligible k s.serviceJobs with
      | some j =>
        rw [State.grantFirst_service stack picked found]
        exact .inr ⟨j, j.dest, ready, .inr (.inl (State.firstEligible_mem found)), rfl, rfl, rfl, rfl⟩
      | none => exact .inl (State.grantFirst_none stack picked found)

/-! ### The laws after a decision -/

/-- The flight that an arbiter starts. -/
def State.flight (s : State) (k : Kind) (j : Job) (dest : Dest) : Ejection :=
  { job := j.serial, source := j.source, dest := dest, attempt := 1, faultPending := false, ends := s.now + Config.ejectTimeout k }

theorem Starts.phase {s t : State} {k : Kind} {j : Job} {dest : Dest} (h : Starts k s t j dest) (m : Kind) :
    (t.mechs.get m).phase = if m = k then .ejecting (s.flight k j dest) else (s.mechs.get m).phase := by
  rw [h.mechs]
  simp only [State.startEjection, State.modMech_mechs, PerKind.get_modify]
  split <;> simp [State.flight]

theorem State.CapacityLaw.starts {s t : State} {k : Kind} {j : Job} {dest : Dest} (law : s.CapacityLaw)
    (h : Starts k s t j dest) (units : t.units = s.units) : t.CapacityLaw := by
  rw [State.capacityLaw_iff] at law ⊢
  refine ⟨fun u => ?_, ?_⟩
  · obtain ⟨within, mark, room⟩ := law.1 u
    rw [units]
    refine ⟨within, mark, fun into => ?_⟩
    obtain ⟨e, l, d, phase, source, drum, unit⟩ := (t.stackDownInto_iff u).mp into
    rw [h.phase] at phase
    split at phase
    · obtain rfl := Phase.ejecting.inj phase
      have escrow : j.source = .escrow l := source
      rcases h.grants with ⟨l', lane⟩ | service | ⟨-, fits⟩
      · obtain ⟨v, on⟩ := law.2.1 l' j lane
        simp [escrow] at on
      · obtain ⟨v, on⟩ := law.2.2 j service
        simp [escrow] at on
      · have below := fits d drum
        rw [unit] at below
        omega
    · exact room ((s.stackDownInto_iff u).mpr ⟨e, l, d, phase, source, drum, unit⟩)
  · have kept := (Lighter.modJob s j.serial fun j => { j with inFlight := true }).jobs law.2
    simpa [State.UnitJobs, h.laneJobs, h.serviceJobs, State.startEjection] using kept

/-- A new flight, of a job with its source. -/
theorem State.Ledger.fly {s : State} (law : s.Ledger) (k : Kind) {e : Ejection} (fresh : e.job < s.nextJob)
    (source : ∀ j ∈ s.allJobs, j.serial = e.job → j.source = e.source) : (s.setPhase k (.ejecting e)).Ledger := by
  obtain ⟨⟨committed, undone, serials, below, stack, flight⟩, states⟩ := law
  refine ⟨⟨committed, undone, serials, below, stack, fun m e' phase => ?_⟩, states⟩
  simp only [State.setPhase, State.modMech_mechs, PerKind.get_modify] at phase
  split at phase
  · obtain rfl := Phase.ejecting.inj phase
    exact ⟨fresh, source⟩
  · exact flight m e' phase

theorem State.Ledger.starts {s t : State} {k : Kind} {j : Job} {dest : Dest} (law : s.Ledger) (h : Starts k s t j dest)
    (units : t.units = s.units) (denoms : t.denoms = s.denoms) (next : t.nextJob = s.nextJob) : t.Ledger := by
  have marked : (s.modJob j.serial fun j => { j with inFlight := true }).Ledger := law.modJob j.serial fun _ _ _ _ _ => ⟨rfl, rfl⟩
  have source : ∀ i ∈ s.allJobs, i.serial = j.serial → i.source = j.source := fun i hi serial => by
    rw [List.inj_on_of_nodup_map law.1.2.2.1 hi h.grants.mem serial]
  have started : ((s.modJob j.serial fun j => { j with inFlight := true }).setPhase k (.ejecting (s.flight k j dest))).Ledger := by
    refine marked.fly k (law.1.2.2.2.1 j h.grants.mem) fun i hi serial => ?_
    rw [State.modJob_allJobs] at hi
    obtain ⟨i', hi', rfl⟩ := List.mem_map.mp hi
    have own := source i' hi' (by split at serial <;> exact serial)
    split <;> exact own
  exact started.same (by simp [units]) (by simp [denoms]) (by simp [h.laneJobs, State.startEjection])
    (by simp [h.serviceJobs, State.startEjection]) (by simp [h.stackJobs, State.startEjection]) (by simp [next])
    fun m => by
      rw [h.phase]
      simp only [State.setPhase, State.modMech_mechs, PerKind.get_modify, State.modJob_keeps]
      split <;> rfl

theorem Firmer.starts {s t : State} {k : Kind} {j : Job} {dest : Dest} (h : Starts k s t j dest)
    (units : t.units = s.units) (reservations : t.reservations = s.reservations) : Firmer s t where
  units u active := by
    rw [units]
    exact ⟨active, rfl, le_rfl⟩
  faults m := by
    rw [State.mechFault, h.phase]
    split
    · simp [Phase.isFault]
    · exact id
  reservations := by rw [reservations]

theorem State.CapacityLaw.arbitrate {s : State} (law : s.CapacityLaw) (k : Kind) : (s.arbitrate k).CapacityLaw := by
  rcases s.arbitrate_cases k with same | ⟨j, dest, starts⟩
  · rwa [same]
  · exact law.starts starts (by simp)

theorem State.Books.arbitrate {s : State} (law : s.Books) (k : Kind) : (s.arbitrate k).Books := by
  rcases s.arbitrate_cases k with same | ⟨j, dest, starts⟩
  · rwa [same]
  · exact ⟨law.capacity.starts starts (by simp), law.ledger.starts starts (by simp) (by simp) (by simp),
      (Looser.same (by simp)).within law.within, (PlanStep.same (by simp) (by simp) (by simp)).planLaw law.plan,
      (Firmer.starts starts (by simp) (by simp)).reservationLaw law.reservation⟩

end Sys2Proof.Machine
end

section
/-! SUPPORT. The close of an event and the restore keep the capacities and the books. -/

namespace Sys2Proof.Machine

-- One proof after the other: many short proofs at once take more threads than the check's memory limit has room for.
set_option Elab.async false

/-! ### The close of an event (R11, R97, R157) -/

theorem State.Books.quiet {s t : State} (law : s.Books) (h : Quiet s t) : t.Books :=
  ⟨h.lighter.capacityLaw law.capacity, h.ledger law.ledger, (Looser.same h.units).within law.within,
    h.planStep.planLaw law.plan, h.firmer.reservationLaw law.reservation⟩

/-- What begins a write leaves all that the books read. -/
theorem State.Books.startWrite {s : State} (law : s.Books) : s.startWrite.Books :=
  ⟨(Lighter.same).capacityLaw law.capacity, law.ledger.same, (Looser.same).within law.within,
    (PlanStep.same).planLaw law.plan, (Firmer.same).reservationLaw law.reservation⟩

theorem State.Books.flush {s : State} (law : s.Books) : s.flush.Books := by
  simp only [State.flush]
  split
  · exact law.startWrite
  · exact law

theorem State.Books.settleEvent {s : State} (law : s.Books) : s.settleEvent.Books :=
  ((law.arbitrate .coin).arbitrate .note).flush

theorem Lighter.withdraw (s : State) : Lighter s s.withdraw.1 := .same

theorem State.CapacityLaw.close {s : State} (law : s.CapacityLaw) (c : Closing) : (c.run s).CapacityLaw := by
  have flushed {t : State} (law : t.CapacityLaw) : t.flush.CapacityLaw := (Lighter.same).capacityLaw law
  have settled {t : State} (law : t.CapacityLaw) : t.settleEvent.CapacityLaw := flushed ((law.arbitrate .coin).arbitrate .note)
  cases c with
  | none => exact law
  | flush => exact flushed law
  | settle => exact settled law
  | write =>
    have written : Lighter s s.startWrite := .same
    exact written.capacityLaw law
  | conclude fall left stored =>
    refine settled ((Lighter.sweepChecks ..).capacityLaw ?_)
    split
    · exact (Lighter.withdraw s).capacityLaw law
    · exact law

/-- What a change leaves of the books for its closing: the law of reservations only where backing did not fall (R11). -/
structure State.Midway (c : Closing) (s : State) : Prop where
  capacity : s.CapacityLaw
  ledger : s.Ledger
  within : s.Within
  plan : s.PlanLaw
  reservation : c.falls = false → s.ReservationLaw

theorem State.Midway.withdraw {s : State} {c : Closing} (law : s.Midway c) : s.withdraw.1.Books :=
  ⟨(Lighter.withdraw s).capacityLaw law.capacity, law.ledger.same, (Looser.same).within law.within,
    (PlanStep.withdrawWalk ..).planLaw law.plan, s.withdraw_law⟩

theorem State.Midway.close {s : State} {c : Closing} (law : s.Midway c) : (c.run s).Books := by
  have books (h : c.falls = false) : s.Books := ⟨law.capacity, law.ledger, law.within, law.plan, law.reservation h⟩
  cases c with
  | none => exact books rfl
  | flush => exact (books rfl).flush
  | settle => exact (books rfl).settleEvent
  | write => exact (books rfl).startWrite
  | conclude fall left stored =>
    refine State.Books.settleEvent (State.Books.sweepChecks ?_ ..)
    cases fall with
    | true => exact law.withdraw
    | false => exact books rfl

/-! ### The restore (R12, R162) -/

/-- A restored unit: nothing committed, within its capacity, ABSENT exactly without a slot, ACTIVE only on a slot of its
kind (R12). -/
theorem CountStore.restoredUnit_spec (c : CountStore) (u : UnitId) :
    (c.restoredUnit u).committed = 0 ∧ (c.restoredUnit u).count ≤ (c.restoredUnit u).capacity ∧
      (c.restoredUnit u).highWater = (c.restoredSettings.get u).highWater ∧
      (c.restoredUnit u).capacity = (c.restoredSettings.get u).capacity ∧
      ((c.restoredUnit u).state = .absent ↔ (c.restoredUnit u).slot = none) ∧
      ((c.restoredUnit u).state = .active →
        ∃ d, (c.restoredUnit u).slot = some d ∧ (c.restoredDenoms.get d).kind = unitKind u) := by
  cases slot : (c.restoredSettings.get u).slot with
  | none => simp [CountStore.restoredUnit_none slot, UnitSettings.toUnit, slot]
  | some d =>
    by_cases good : ∃ i, c.units.get u = .whole i ∧ i.count ≤ (c.restoredSettings.get u).capacity
    · obtain ⟨i, whole, fits⟩ := good
      rw [CountStore.restoredUnit_good slot whole fits]
      refine ⟨rfl, ?_, rfl, rfl, ?_, ?_⟩
      · simp only [UnitSettings.toUnit]
        split <;> omega
      · simp only [UnitSettings.toUnit, slot, reduceCtorEq, iff_false]
        split
        · simp
        · split <;> simp_all
      · intro active
        refine ⟨d, slot, ?_⟩
        by_contra other
        simp [UnitSettings.toUnit, other] at active
    · have failed : ∀ i, c.units.get u = .whole i → (c.restoredSettings.get u).capacity < i.count := fun i whole => by
        by_contra fits
        exact good ⟨i, whole, by omega⟩
      simp [CountStore.restoredUnit_failed slot failed, UnitSettings.toUnit, slot]

theorem Cell.good_range {α : Type} {ok : α → Bool} {c : Cell α} {x : α} (h : c.good ok = some x) : ok x = true := by
  cases c with
  | whole y =>
    simp only [Cell.good] at h
    split at h
    next range => exact Option.some.inj h ▸ range
    · simp at h
  | torn => simp [Cell.good] at h
  | blank => simp [Cell.good] at h

theorem CountStore.restoredSettings_mark (c : CountStore) (u : UnitId) :
    (c.restoredSettings.get u).highWater ≤ (c.restoredSettings.get u).capacity := by
  have ok : ∀ x : Twelve UnitSettings, settingsInRange x = true → (x.get u).highWater ≤ (x.get u).capacity := fun x range =>
    ((settingsInRange_iff x).mp range u).2.2.2.1
  simp only [CountStore.restoredSettings]
  cases good : c.goodSettings with
  | some x => exact ok x (Cell.good_range good)
  | none =>
    simp only [Option.getD_none, Twelve.get_tabulate, UnitSettings.default]
    split <;> decide

theorem State.load_books (s : State) : s.load.Books := by
  have units (u : UnitId) : s.load.units.get u = s.store.restoredUnit u := by simp [State.load]
  have phase (k : Kind) : (s.load.mechs.get k).phase = .ready := by simp [State.load, Mechanism.restarted]
  have lanes (l : Lane) : s.load.laneJobs.get l = [] := by cases l <;> rfl
  have capacity : s.load.CapacityLaw := by
    refine ⟨fun u => ?_, by simp [lanes], by simp [show s.load.serviceJobs = [] from rfl]⟩
    obtain ⟨-, count, mark, capacity, -, -⟩ := s.store.restoredUnit_spec u
    rw [units]
    refine ⟨count, by rw [mark, capacity]; exact s.store.restoredSettings_mark u, fun into => ?_⟩
    obtain ⟨e, -, -, flying, -⟩ := (s.load.stackDownInto_iff u).mp into
    simp [phase] at flying
  have ledger : s.load.Ledger := by
    refine State.ledger_of_idle lanes rfl rfl (by simp [phase]) fun u => ?_
    obtain ⟨zero, -, -, -, absent, active⟩ := s.store.restoredUnit_spec u
    rw [units]
    refine ⟨zero, absent, fun on => ?_⟩
    obtain ⟨d, slot, kind⟩ := active on
    have denoms : s.load.denoms = s.store.restoredDenoms := rfl
    simp [State.slotFitsUnit, units, slot, denoms, kind]
  refine ⟨capacity, ledger, fun u => ?_, State.planLaw_of_none rfl rfl, State.reservationLaw_of_none rfl⟩
  rw [units, (s.store.restoredUnit_spec u).1]
  exact Nat.zero_le _

theorem State.restore_books (s : State) : s.restore.Books := by
  have loaded : s.loaded.Books := by
    obtain ⟨capacity, ledger, within, plan, reservation⟩ := s.load_books
    exact ⟨capacity, ledger, within, plan, reservation⟩
  rw [State.restore_eq]
  exact loaded.flush

/-! ### The obligation -/

theorem kept_capacity : Kept State.CapacityLaw fun _ m => m.CapacityLaw where
  quiet _ _ h law := h.lighter.capacityLaw law
  change _ _ _ law h := h.capacity law
  after _ _ _ h law := h.lighter.capacityLaw law
  close c _ law := law.close c
  restore s _ := s.restore_books.capacity

theorem kept_books : Kept State.Books State.Midway where
  quiet _ _ h law := law.quiet h
  change _ _ _ law h :=
    ⟨h.capacity law.capacity, h.ledger law.ledger, h.within law.ledger law.within, h.planLaw law.plan,
      h.reservationLaw law.ledger law.plan law.reservation⟩
  after _ _ _ h law :=
    ⟨h.lighter.capacityLaw law.capacity, h.ledger law.ledger, (Looser.same h.units).within law.within,
      h.planStep.planLaw law.plan, fun noFall => h.firmer.reservationLaw (law.reservation noFall)⟩
  close _ _ law := law.close
  restore s _ := s.restore_books

/-- Settles O59: every change keeps each law of the books, but for the reservations where backing falls, which the
withdrawal mends; sweep checks and the arbiters keep all of them. -/
theorem stepKeepsCapacity : Obligations.StepKeepsCapacity := by
  unfold Obligations.StepKeepsCapacity
  simp only [State.booksLaw_iff]
  exact ⟨fun _ _ => kept_capacity.step, fun _ _ => kept_books.step⟩

end Sys2Proof.Machine
end

section
/-! SUPPORT. The order lists (R25, R26, R27): what commands leave of the tags in them. -/

namespace Sys2Proof.Machine

-- One proof after the other: many short proofs at once take more threads than the check's memory limit has room for.
set_option Elab.async false

/-! ### The tags of the order lists -/

/-- The order lists hold the same tags in the same order. -/
@[simp] abbrev SameTags (s t : State) : Prop := ∀ m : Lane, (t.sales.get m).map Sale.tag = (s.sales.get m).map Sale.tag

/-- A change of the sales of one tag that keeps the tag (R26). -/
@[simp] theorem State.modSale_tags (s : State) (l : Lane) (tag : Nat) {f : Sale → Sale} (keeps : ∀ y, (f y).tag = y.tag) :
    SameTags s (s.modSale l tag f) := by
  intro m
  simp only [State.modSale, State.modSales_sales, PerLane.get_modify]
  split
  next same =>
    subst same
    rw [List.map_map]
    exact List.map_congr_left fun y _ => by simp only [Function.comp_apply]; split <;> simp [keeps]
  · rfl

@[simp] theorem State.finishSale_tags (s : State) (l : Lane) (tag : Nat) (st : SaleState) :
    SameTags s (s.finishSale l tag st) := by
  simp [State.finishSale]

@[simp] theorem State.settleTest_tags (s : State) (l : Lane) (tag : Nat) : SameTags s (s.settleTest l tag) := by
  simp only [State.settleTest]
  (repeat' split) <;> simp

@[simp] theorem State.lapse_tags (s : State) (l : Lane) (tag : Nat) : SameTags s (s.lapse l tag) := by
  simp [State.lapse]

@[simp] theorem Sale.withChange_tag (x : Sale) : x.withChange.tag = x.tag := by cases x; rfl

/-! ### Operations that leave the tags -/

@[simp] theorem State.openTender_tags (s : State) (l : Lane) (tag : Nat) : SameTags s (s.openTender l tag) := by
  simp [State.openTender]

@[simp] theorem State.beforeQuote_tags (s : State) (l : Lane) (x : Sale) : SameTags s (s.beforeQuote l x) := by
  simp only [State.beforeQuote, State.closeTender]
  (repeat' split) <;> simp

@[simp] theorem State.payOut_tags (s : State) (l : Lane) (tag : Nat) (xs : List Share) (v : Nat) :
    SameTags s (s.payOut l tag xs v) := by
  simp only [State.payOut]
  (repeat' split) <;> simp

@[simp] theorem State.returnSucceeds_tags (s : State) (l : Lane) : SameTags s (s.returnSucceeds l) := by
  simp only [State.returnSucceeds]
  split <;> simp

@[simp] theorem State.beginReturn_tags (s : State) (l : Lane) : SameTags s (s.beginReturn l) := by
  simp only [State.beginReturn]
  split <;> simp

@[simp] theorem State.beforeCancel_tags (s : State) (l : Lane) (x : Sale) : SameTags s (s.beforeCancel l x) := by
  simp only [State.beforeCancel]
  split <;> simp

@[simp] theorem State.returnStack_tags (s : State) (l : Lane) (tag : Nat) : SameTags s (s.returnStack l tag) := by
  simp only [State.returnStack]
  (repeat' split) <;> simp

@[simp] theorem State.cancelTendered_tags (s : State) (l : Lane) (x : Sale) : SameTags s (s.cancelTendered l x) := by
  simp only [State.cancelTendered]
  split <;> simp

@[simp] theorem State.stopSale_tags (s : State) (l : Lane) (x : Sale) : SameTags s (s.stopSale l x) := by
  simp [State.stopSale]

@[simp] theorem State.cancelWaiting_tags (s : State) (l : Lane) : SameTags s (s.cancelWaiting l) := by
  unfold State.cancelWaiting
  generalize s.waitingTags l = tags
  induction tags generalizing s with
  | nil => simp
  | cons tag tags ih => simp [ih]

@[simp] theorem State.closeLane_tags (s : State) (l : Lane) : SameTags s (s.closeLane l) := by
  simp [State.closeLane]

@[simp] theorem State.keepEscrow_tags (s : State) (l : Lane) : SameTags s (s.keepEscrow l) := by
  simp only [State.keepEscrow, State.keepForSale]
  (repeat' split) <;> simp

@[simp] theorem State.creditSale_tags (s : State) (l : Lane) (tag : Nat) (k : Kind) (v : Nat) :
    SameTags s (s.creditSale l tag k v) := by
  cases h : s.findSale l tag with
  | none => simp [State.creditSale, h]
  | some x =>
    rw [State.creditSale_eq h]
    split <;> simp

@[simp] theorem State.takeCoin_tags (s : State) (l : Lane) (d : Slot) : SameTags s (s.takeCoin l d) := by
  rw [State.takeCoin_eq]
  simp only [State.creditCoin]
  (repeat' split) <;> simp

@[simp] theorem State.takeNote_tags (s : State) (l : Lane) (d : Slot) : SameTags s (s.takeNote l d) := by
  simp only [State.takeNote]
  (repeat' split) <;> simp

@[simp] theorem State.payPiece_tags (s : State) (l : Lane) (tag : Nat) (b : Bool) (v w : Nat) :
    SameTags s (s.payPiece l tag b v w) :=
  s.modSale_tags l tag fun y => by split <;> rfl

@[simp] theorem State.deliver_tags (s : State) (j : Job) (u : UnitId) (v : Nat) : SameTags s (s.deliver j u v) := by
  simp only [State.deliver]
  split <;> simp

@[simp] theorem State.countPieces_tags (s : State) (j : Job) (u : UnitId) (x : Pieces) : SameTags s (s.countPieces j u x) := by
  simp only [State.countPieces, State.countPiece, State.countExtra]
  (repeat' split) <;> simp

@[simp] theorem State.settleJob_tags (s : State) (j : Job) : SameTags s (s.settleJob j) := by
  simp only [State.settleJob]
  (repeat' split) <;> simp

@[simp] theorem State.detect_tags (s : State) (k : Kind) (e : Ejection) (j : Job) (u : UnitId) (x : Pieces) :
    SameTags s (s.detect k e j u x) := by
  simp only [State.detect]
  split <;> simp

@[simp] theorem State.completeQuote_tags (s : State) (r : PlanReq) (x : Sale) : SameTags s (s.completeQuote r x) := by
  obtain ⟨⟨f, tag, -, sales⟩, -, -⟩ := s.completeQuote_parts r x
  simp [sales, tag]

@[simp] theorem State.recordUnplanned_tags (s : State) (l : Lane) (tag v : Nat) : SameTags s (s.recordUnplanned l tag v) :=
  s.modSale_tags l tag fun y => by split <;> rfl

@[simp] theorem State.completeJobs_tags (s : State) (r : PlanReq) : SameTags s (s.completeJobs r) := by
  simp [State.completeJobs]

@[simp] theorem State.expire_tags (s : State) (r : Reservation) : SameTags s (s.expire r) := by
  simp [State.expire]

@[simp] theorem withdrawWalk_tags (rs : List Reservation) (s : State) : SameTags s (withdrawWalk rs s).1 := by
  induction rs generalizing s with
  | nil => simp [withdrawWalk]
  | cons r rs ih =>
    simp only [withdrawWalk]
    (repeat' split) <;> simp [ih, State.withdrawOne]

@[simp] theorem Closing.run_tags (c : Closing) (s : State) : SameTags s (c.run s) := by
  cases c with
  | conclude fall => cases fall <;> simp [Closing.run, State.conclude, State.withdraw]
  | _ => simp [Closing.run]

/-! ### The law -/

/-- What R25 and R26 ask of the tags of an order list. -/
def tagsLaw (tags : List Nat) : Prop :=
  tags.length ≤ Config.orderListRoom ∧ tags.Nodup ∧ ∀ tag ∈ tags, 1 ≤ tag ∧ tag ≤ 65535

theorem orderListLaw_iff (xs : List Sale) : orderListLaw xs ↔ tagsLaw (xs.map Sale.tag) := by
  simp [orderListLaw, tagsLaw]

theorem tagsLaw.sublist {tags tags' : List Nat} (law : tagsLaw tags') (sub : tags.Sublist tags') : tagsLaw tags := by
  obtain ⟨room, distinct, range⟩ := law
  exact ⟨sub.length_le.trans room, sub.nodup distinct, fun tag h => range tag (sub.subset h)⟩

theorem State.OrderLaw.same {s t : State} (law : s.OrderLaw) (tags : SameTags s t := by simp) : t.OrderLaw := by
  intro m
  rw [orderListLaw_iff, tags m, ← orderListLaw_iff]
  exact law m

/-- A change of one order list. -/
theorem State.OrderLaw.modSales {s : State} (law : s.OrderLaw) {l : Lane} {f : List Sale → List Sale}
    (h : orderListLaw (f (s.sales.get l))) : (s.modSales l f).OrderLaw := by
  intro m
  rw [State.modSales_sales, PerLane.get_modify]
  split
  · exact h
  · exact law m

/-- A new sale has a tag of the range that no sale of its lane has, and finds room (R27). -/
theorem State.OrderLaw.openSale {s : State} (law : s.OrderLaw) {l : Lane} {tag : Nat} (due : Nat)
    (range : openSaleRange tag due = true) (fresh : s.findSale l tag = none)
    (room : (s.sales.get l).length < Config.orderListRoom) : (s.modSales l (· ++ [Sale.opened tag due])).OrderLaw := by
  simp only [openSaleRange, decide_eq_true_eq] at range
  simp only [State.findSale, List.find?_eq_none, decide_eq_true_eq] at fresh
  obtain ⟨-, distinct, ranges⟩ := law l
  have opened : (Sale.opened tag due).tag = tag := rfl
  refine law.modSales ⟨by simpa using room, ?_, ?_⟩
  · rw [List.map_append, List.nodup_append]
    refine ⟨distinct, by simp, ?_⟩
    simp only [List.map_cons, List.map_nil, List.mem_singleton, List.mem_map, opened]
    rintro _ ⟨x, hx, rfl⟩ _ rfl same
    exact fresh x hx same
  · intro x hx
    rcases List.mem_append.mp hx with old | new
    · exact ranges x old
    · rw [List.mem_singleton.mp new, opened]
      exact ⟨range.1, range.2.1⟩

theorem State.orderLaw_of_nil {s : State} (h : s.sales = ⟨[], []⟩) : s.OrderLaw := by
  intro m
  cases m <;> simp [h, PerLane.get, orderListLaw]

theorem Change.orderLaw {t m : State} {c : Closing} (h : Change t c m) (law : t.OrderLaw) : m.OrderLaw := by
  cases h with
  | openSale due range fresh room => exact law.openSale due range fresh room
  | @release l tag =>
    have left : orderListLaw ((t.sales.get l).filter fun y => decide (y.tag ≠ tag)) := by
      rw [orderListLaw_iff]
      exact ((orderListLaw_iff _).mp (law l)).sublist (List.filter_sublist.map _)
    exact State.OrderLaw.same (law.modSales left)
  | reset cause => exact State.orderLaw_of_nil rfl
  | _ => exact law.same

theorem kept_orderLaw : Kept State.OrderLaw fun _ m => m.OrderLaw where
  quiet _ _ h law := law.same (by simp [h.sales])
  change _ _ _ law h := h.orderLaw law
  after _ _ _ h law := law.same (by simp [h.sales])
  close c _ law := law.same (c.run_tags _)
  restore s _ := State.orderLaw_of_nil (by simp [State.restore]; rfl)

/-- Settles O55: only OPEN_SALE adds a tag, and its checks are what the law asks. -/
theorem stepKeepsOrderLists : Obligations.StepKeepsOrderLists :=
  fun _ _ law h => kept_orderLaw.step law h

end Sys2Proof.Machine
end

section
/-! SUPPORT. The escrow stacks (R39, R40): which operations leave no more notes on them, and the note report. -/

namespace Sys2Proof.Machine

-- One proof after the other: many short proofs at once take more threads than the check's memory limit has room for.
set_option Elab.async false

/-! ### The escrow records after an operation -/

@[simp] theorem State.setOwner_escrows (s : State) (l : Lane) (o : EscrowOwner) :
    (s.setOwner l o).escrows = s.escrows.modify l fun e => { e with owner := o } := by
  simp [State.setOwner]

@[simp] theorem State.setEscrowStatus_escrows (s : State) (l : Lane) (st : EscrowStatus) :
    (s.setEscrowStatus l st).escrows = s.escrows.modify l fun e => { e with status := st } := rfl

@[simp] theorem State.pushNote_escrows (s : State) (l : Lane) (d : Slot) (c : Credit) :
    (s.pushNote l d c).escrows = s.escrows.modify l fun e =>
      { e with entries := e.entries ++ [{ slot := d, credit := c, inTransit := false }], sensorEmpty := false } := rfl

@[simp] theorem State.returnSucceeds_escrows (s : State) (l : Lane) :
    (s.returnSucceeds l).escrows = s.escrows.modify l fun e => { e with entries := [], owner := .none, status := .idle } := by
  simp only [State.returnSucceeds]
  split <;> simp

theorem markTop_length (es : List EscrowEntry) : (markTop es).length = es.length := by
  simpa using congrArg List.length (markTop_slots es)

/-! ### Stacks that do not grow -/

/-- No stack holds more notes than before. -/
structure Shallower (s t : State) : Prop where
  height : ∀ m : Lane, (t.escrows.get m).entries.length ≤ (s.escrows.get m).entries.length

theorem Shallower.escrowLaw {s t : State} (h : Shallower s t) (law : s.EscrowLaw) : t.EscrowLaw :=
  fun m => (h.height m).trans (law m)

theorem Shallower.same {s t : State} (escrows : t.escrows = s.escrows := by simp) : Shallower s t :=
  ⟨fun m => by rw [escrows]⟩

theorem Shallower.refl (s : State) : Shallower s s := .same rfl

theorem Shallower.trans {s t u : State} (h : Shallower s t) (k : Shallower t u) : Shallower s u :=
  ⟨fun m => (k.height m).trans (h.height m)⟩

theorem Shallower.ite {s t u : State} {p : Prop} [Decidable p] (ht : Shallower s t) (hu : Shallower s u) :
    Shallower s (if p then t else u) := by
  split
  · exact ht
  · exact hu

theorem Quiet.shallower {s t : State} (h : Quiet s t) : Shallower s t := ⟨fun m => by simp [h.escrows m]⟩

/-- An operation that changes one stack and adds no note to it. -/
theorem Shallower.modify {s t : State} (l : Lane) (f : Escrow → Escrow)
    (escrows : t.escrows = s.escrows.modify l f := by simp)
    (h : ∀ e, (f e).entries.length ≤ e.entries.length := by simp) : Shallower s t := by
  refine ⟨fun m => ?_⟩
  rw [escrows, PerLane.get_modify]
  split
  next same => exact same ▸ h _
  · exact le_rfl

theorem Shallower.setOwner (s : State) (l : Lane) (o : EscrowOwner) : Shallower s (s.setOwner l o) :=
  .modify l fun e => { e with owner := o }

theorem Shallower.setEscrowStatus (s : State) (l : Lane) (st : EscrowStatus) : Shallower s (s.setEscrowStatus l st) :=
  .modify l fun e => { e with status := st }

theorem Shallower.clearTransit (s : State) (l : Lane) : Shallower s (s.clearTransit l) :=
  .modify l (fun e => { e with entries := e.entries.map fun n => { n with inTransit := false } }) rfl

theorem Shallower.returnSucceeds (s : State) (l : Lane) : Shallower s (s.returnSucceeds l) :=
  .modify l fun e => { e with entries := [], owner := .none, status := .idle }

theorem Shallower.beginReturn (s : State) (l : Lane) : Shallower s (s.beginReturn l) :=
  (Shallower.setEscrowStatus ..).trans (.ite (.returnSucceeds ..) (.refl _))

theorem Shallower.returnFails (s : State) (l : Lane) : Shallower s (s.returnFails l) := by
  simp only [State.returnFails]
  split
  · exact (Shallower.setEscrowStatus s l .fault).trans .same
  · exact (Shallower.setEscrowStatus s l .idle).trans .same

/-! ### Sales -/

theorem Shallower.openTender (s : State) (l : Lane) (tag : Nat) : Shallower s (s.openTender l tag) :=
  .modify l (fun e => { e with owner := .sale tag }) (by simp [State.openTender])

/-- The last step of a tender's end and of a float-in's: an empty stack loses its owner (R36, R145). -/
theorem Shallower.disown (s : State) (l : Lane) :
    Shallower s (if (s.escrows.get l).entries.isEmpty then s.setOwner l .none else s) :=
  .ite (.setOwner ..) (.refl s)

theorem Shallower.beforeQuote (s : State) (l : Lane) (x : Sale) : Shallower s (s.beforeQuote l x) := by
  have unbound : Shallower s (s.unbind l) := .same
  simp only [State.beforeQuote]
  split
  · exact (unbound.trans (.disown _ l)).trans (.same (by simp [State.closeTender]))
  · exact .same
  · exact .refl s

theorem Shallower.payOut (s : State) (l : Lane) (tag : Nat) (xs : List Share) (v : Nat) : Shallower s (s.payOut l tag xs v) := by
  have paying : Shallower s (((s.dropReservation l tag).placeShares l tag xs atTail).modSale l tag fun x =>
      { x with state := .paying }) := .same
  have asked (t : State) : Shallower t (if 0 < v then t.placeRequest l tag .replan v else t) := .ite .same (.refl t)
  have stacked (t : State) : Shallower t
      (if (t.escrows.get l).owner = .sale tag then (t.setOwner l .stacking).placeStackDown l else t) :=
    .ite ((Shallower.setOwner t l .stacking).trans .same) (.refl t)
  have cleared (t : State) : Shallower t (t.clearNeedOf l tag) := .same
  exact ((paying.trans (asked _)).trans (stacked _)).trans (cleared _)

theorem Shallower.cancelTendered (s : State) (l : Lane) (x : Sale) : Shallower s (s.cancelTendered l x) := by
  have refunding : Shallower s ((s.beforeCancel l x).modSale l x.tag fun y =>
      { y with state := .refunding, refund := some x.coinValue, refundShortfall := some 0 }) := .same
  have asked (t : State) : Shallower t (if 0 < x.coinValue then t.placeRequest l x.tag .refund x.coinValue else t) :=
    .ite .same (.refl t)
  have returned (t : State) : Shallower t (t.returnStack l x.tag) :=
    .ite (.ite (.setOwner ..) (.beginReturn ..)) (.refl t)
  have settled (t : State) : Shallower t (t.settleTest l x.tag) := .same
  exact ((refunding.trans (asked _)).trans (returned _)).trans (settled _)

theorem Shallower.orphanStack (s : State) (l : Lane) (x : Sale) : Shallower s (s.orphanStack l x) := by
  simp only [State.orphanStack]
  split
  · split
    · exact (Shallower.setOwner ..).trans (.setEscrowStatus ..)
    all_goals exact .setOwner ..
  · exact .refl s

theorem Shallower.stopSale (s : State) (l : Lane) (x : Sale) : Shallower s (s.stopSale l x) := by
  have stopped : Shallower s ((s.stopJobs l x.tag).dropRequest l x.tag) := .same
  have finished (t : State) : Shallower t (t.finishSale l x.tag .stopped) := .same
  exact (stopped.trans (.orphanStack ..)).trans (finished _)

/-! ### Service -/

theorem Shallower.beginFloatIn (s : State) (l : Lane) : Shallower s (s.beginFloatIn l) :=
  .modify l (fun e => { e with owner := .floatIn }) (by simp [State.beginFloatIn])

theorem Shallower.endFloatIn (s : State) (l : Lane) : Shallower s (s.endFloatIn l) := by
  have unbound : Shallower s (s.unbind l) := .same
  exact unbound.trans (.disown ..)

theorem Shallower.keepStack (s : State) (l : Lane) : Shallower s (s.keepStack l) := by
  have idle (o : EscrowOwner) : Shallower s ((s.setOwner l o).setEscrowStatus l .idle) :=
    (Shallower.setOwner ..).trans (.setEscrowStatus ..)
  exact .ite (idle .none) ((idle .stacking).trans .same)

theorem Shallower.keepEscrow (s : State) (l : Lane) : Shallower s (s.keepEscrow l) := by
  simp only [State.keepEscrow]
  split
  · exact (Shallower.keepStack s l).trans .same
  · exact .keepStack ..

/-! ### Stack-downs and restarts -/

theorem Shallower.popNote (s : State) (l : Lane) : Shallower s (s.popNote l) :=
  .modify l (fun e => { e with entries := e.entries.filter fun n => !n.inTransit }) rfl
    fun _ => List.length_filter_le ..

theorem Shallower.closeStack (s : State) (l : Lane) (serial : Nat) : Shallower s (s.closeStack l serial) := by
  have dropped : Shallower s (s.dropJob serial) := .same
  exact .ite (.ite dropped (dropped.trans (.setOwner ..))) (.refl s)

theorem Shallower.stackDetected (s : State) (e : Ejection) (l : Lane) (x : Pieces) : Shallower s (s.stackDetected e l x) := by
  simp only [State.stackDetected]
  split
  all_goals exact (Shallower.popNote s l).trans (Shallower.trans .same (.closeStack ..))

theorem Shallower.stackMiss (s : State) (e : Ejection) (l : Lane) : Shallower s (s.stackMiss e l) :=
  (Shallower.clearTransit s l).trans (.same (by simp [State.stackMiss]))

theorem Shallower.stopEjection (s : State) (k : Kind) : Shallower s (s.stopEjection k) := by
  obtain ⟨escrow, -, -⟩ := s.stopEjection_parts k
  refine ⟨fun m => ?_⟩
  obtain ⟨es, e, same⟩ := escrow m
  have length : es.length = (s.escrows.get m).entries.length := by simpa using congrArg List.length same
  simp [e, length]

theorem Shallower.stopEjections (s : State) : Shallower s s.stopEjections :=
  (Shallower.stopEjection ..).trans (.stopEjection ..)

theorem Shallower.resetEscrow (s : State) (l : Lane) : Shallower s (s.resetEscrow l) := by
  refine ⟨fun m => ?_⟩
  rw [State.resetEscrow_get]
  split <;> simp [Escrow.reset]

theorem Shallower.reset (s : State) (cause : RestartCause) : Shallower s (s.resetStores.clearRun cause) := by
  have stopped : Shallower s s.stopEjections.resetUnits := (Shallower.stopEjections s).trans .same
  have cleared (t : State) : Shallower t (t.clearRun cause) := .same rfl
  exact ((stopped.trans (.resetEscrow ..)).trans (.resetEscrow ..)).trans (cleared _)

/-! ### The close of an event -/

theorem Shallower.grantStackDown (s : State) (j : Job) : Shallower s (s.grantStackDown j) := by
  simp only [State.grantStackDown]
  split
  · exact .refl s
  next l _ =>
    split
    · exact .refl s
    · exact .modify l (fun e => { e with entries := markTop e.entries }) (by simp)
        fun e => (markTop_length e.entries).le

theorem Shallower.arbitrate (s : State) (k : Kind) : Shallower s (s.arbitrate k) := by
  have granted : Shallower s (s.grantFirst k) := by
    simp only [State.grantFirst]
    split
    · exact .grantStackDown ..
    · (repeat' split) <;> exact .same
  simp only [State.arbitrate]
  refine .ite (.refl s) ?_
  split
  · exact granted
  all_goals exact .refl s

theorem Shallower.settleEvent (s : State) : Shallower s s.settleEvent :=
  ((Shallower.arbitrate s .coin).trans (.arbitrate _ .note)).trans (.same (by simp [State.settleEvent]))

theorem Shallower.run (c : Closing) (s : State) : Shallower s (c.run s) := by
  cases c with
  | none => exact .refl s
  | flush => exact Shallower.same (t := s.flush)
  | settle => exact .settleEvent s
  | write => exact Shallower.same (t := s.startWrite)
  | conclude fall left stored =>
    have checked : Shallower s ((if fall then s.withdraw else (s, [])).1.sweepChecks
        (left ++ (if fall then s.withdraw else (s, [])).2) stored) := by
      cases fall <;> exact .same
    exact checked.trans (.settleEvent _)

/-! ### A note that goes in (R40) -/

/-- A note that the entrance takes lies on top of its stack; the other stack stays. -/
theorem State.takeNote_entries (s : State) (l m : Lane) (d : Slot) : ∃ c, ((s.takeNote l d).escrows.get m).entries =
    if m = l then (s.escrows.get m).entries ++ [{ slot := d, credit := c, inTransit := false }]
    else (s.escrows.get m).entries := by
  simp only [State.takeNote]
  split
  · exact ⟨.sale, by simp [PerLane.get_modify]; split <;> simp_all⟩
  · exact ⟨.floatIn, by simp [PerLane.get_modify]; split <;> simp_all⟩
  · split
    all_goals exact ⟨.stray, by simp [PerLane.get_modify]; split <;> simp_all⟩

theorem Escrow.takesNote_room {e : Escrow} (h : e.takesNote = true) : e.entries.length < Config.escrowRoom := by
  simp only [Escrow.takesNote, Bool.and_eq_true, decide_eq_true_eq] at h
  exact h.2

theorem State.EscrowLaw.takeNote {s : State} (law : s.EscrowLaw) {l : Lane} (d : Slot)
    (takes : (s.escrows.get l).takesNote = true) : (s.takeNote l d).EscrowLaw := by
  intro m
  obtain ⟨c, entries⟩ := s.takeNote_entries l m d
  rw [entries]
  split
  next same =>
    subst same
    simpa using Escrow.takesNote_room takes
  · exact law m

/-! ### The law -/

theorem Change.escrowLaw {t m : State} {c : Closing} (h : Change t c m) (law : t.EscrowLaw) : m.EscrowLaw := by
  cases h with
  | note d takes => exact law.takeNote d takes
  | tender => exact (Shallower.openTender ..).escrowLaw law
  | @quote l tag x => exact ((Shallower.beforeQuote t l x).trans .same).escrowLaw law
  | @pay t₀ l tag x =>
    have settled (s : State) : Shallower s (s.settleTest l tag) := .same
    exact ((Shallower.payOut ..).trans (settled _)).escrowLaw law
  | cancel => exact (Shallower.cancelTendered ..).escrowLaw law
  | stop => exact (Shallower.stopSale ..).escrowLaw law
  | floatInBegin => exact (Shallower.beginFloatIn ..).escrowLaw law
  | floatInEnd => exact (Shallower.endFloatIn ..).escrowLaw law
  | giveBack => exact (Shallower.beginReturn ..).escrowLaw law
  | keep => exact (Shallower.keepEscrow ..).escrowLaw law
  | entry => exact (Shallower.stackDetected ..).escrowLaw law
  | stackMiss => exact (Shallower.stackMiss ..).escrowLaw law
  | returned => exact (Shallower.returnSucceeds ..).escrowLaw law
  | returnFails => exact (Shallower.returnFails ..).escrowLaw law
  | pfwActive => exact (Shallower.stopEjections t).escrowLaw law
  | reset cause => exact (Shallower.reset t cause).escrowLaw law
  | _ => exact (Shallower.same (s := t)).escrowLaw law

/-- A restored stack is empty, or as high as its good record says (R39, R153). -/
theorem CountStore.restoredEscrow_room (c : CountStore) (l : Lane) (sensorEmpty : Bool) :
    (c.restoredEscrow l sensorEmpty).entries.length ≤ Config.escrowRoom := by
  cases good : c.goodEscrow l with
  | none => simp [CountStore.restoredEscrow, good]
  | some i =>
    obtain ⟨room, -⟩ := (EscrowImage.inRange_iff i).mp (Cell.good_range good)
    simpa [CountStore.restoredEscrow, good, Config.escrowRoom] using room

theorem State.restore_escrowLaw (s : State) : s.restore.EscrowLaw := by
  intro m
  have restored : s.restore.escrows.get m = s.store.restoredEscrow m (s.escrows.get m).sensorEmpty := by
    rw [← s.load_escrow]
    simp [State.restore]
  rw [restored]
  exact s.store.restoredEscrow_room m _

theorem kept_escrowLaw : Kept State.EscrowLaw fun _ m => m.EscrowLaw where
  quiet _ _ h law := h.shallower.escrowLaw law
  change _ _ _ law h := h.escrowLaw law
  after _ _ _ h law := h.shallower.escrowLaw law
  close c _ law := (Shallower.run c _).escrowLaw law
  restore s _ := s.restore_escrowLaw

/-- Settles O56: only a note report adds a note, and the entrance takes one only where there is room. -/
theorem stepKeepsEscrowRoom : Obligations.StepKeepsEscrowRoom :=
  fun _ _ law h => kept_escrowLaw.step law h

end Sys2Proof.Machine
end

section
/-! SUPPORT. How a lane port's request runs, and the requests that open sales and lanes: OPEN_SALE, TENDER, RELEASE, STATUS,
LANE_OPEN, FLOOR_HOLD and FLOOR_YIELD (R23, R27 to R30, R32, R81, R86). -/

namespace Sys2Proof.Machine

-- One proof after the other: many short proofs at once take more threads than the check's memory limit has room for.
set_option Elab.async false

/-! ### Requests of the lane ports -/

theorem permitted_of_lane {c : Command} {p : Port} {l : Lane} (senders : c.senders = .lanes) (hl : p.lane = some l) :
    c.permitted p = true := by
  simp [Command.permitted, senders, hl]

section
variable {s : State} {p : Port} {l : Lane} (hl : p.lane = some l) (h : Ready s p) {c : Command}
  (senders : c.senders = .lanes)
include hl h senders

/-- A lane command at its ready port runs its body on the port's lane (R170, R172). -/
theorem laneRequest_run (body : Lane → State → State) :
    (.next (s.firstEvent.laneRequest p c body) : Result) = .next (body l (s.setOutstanding p c.byte)) := by
  rw [h.firstEvent, State.laneRequest_ready hl h c (permitted_of_lane senders hl)]

/-- A sale command at its ready port runs its body on the sale that its tag names (R28). -/
theorem saleRequest_run {tag : Nat} {x : Sale} (found : s.findSale l tag = some x) (body : Lane → Sale → State → State) :
    (.next (s.firstEvent.saleRequest p c tag body) : Result) = .next (body l x (s.setOutstanding p c.byte)) := by
  rw [h.firstEvent, State.saleRequest_found hl h c (permitted_of_lane senders hl) found]

/-- A sale command whose tag names no sale is refused (R28). -/
theorem saleRequest_noSale {tag : Nat} (missing : s.findSale l tag = none) (body : Lane → Sale → State → State) :
    (.next (s.firstEvent.saleRequest p c tag body) : Result) = .next (s.refusedWith p c .noSale) := by
  rw [h.firstEvent, State.saleRequest_missing hl h c (permitted_of_lane senders hl) missing]

end

@[simp] theorem State.setOutstanding_findSale (s : State) (p : Port) (b : Byte) (l : Lane) (tag : Nat) :
    (s.setOutstanding p b).findSale l tag = s.findSale l tag := rfl

/-! ### OPEN_SALE (R27) -/

/-- OPEN_SALE at its ready port: its checks in their order, then the new sale at the tail (R27). -/
theorem exec_openSale {s : State} {p : Port} {l : Lane} (hl : p.lane = some l) (h : Ready s p) (tag due : Nat) :
    exec (.openSale p tag due) s =
      .next
        (if ¬ (1 ≤ tag ∧ tag ≤ 65535 ∧ due ≤ 999999) then s.refusedWith p .openSale .range
        else if (s.lanes.get l).opened = false then s.refusedWith p .openSale .laneClosed
        else if s.findSale l tag ≠ none then s.refusedWith p .openSale .duplicate
        else if 4 ≤ (s.sales.get l).length then s.refusedWith p .openSale .full
        else { s with sales := s.sales.set l (s.sales.get l ++ [Sale.opened tag due]) }.replied p .openSale []) := by
  have run : exec (.openSale p tag due) s = _ := laneRequest_run hl h rfl _
  rw [run]
  simp only [openSaleRange, Bool.not_eq_true', decide_eq_false_iff_not, Option.isSome_iff_ne_none]
  rfl

/-- Settles O4: each check refuses as its rule says, and what passes them all is appended. -/
theorem openSale : Obligations.OpenSale := by
  unfold Obligations.OpenSale
  intro p l tag due s hl h
  rw [exec_openSale hl h]
  refine ⟨fun out => by rw [if_pos out], fun low high amount => ?_⟩
  rw [if_neg (not_not_intro ⟨low, high, amount⟩)]
  refine ⟨fun closed => by rw [if_pos closed], fun opened known => by simp [opened, known],
    fun opened fresh full => by simp [opened, fresh, full], fun opened fresh room => ?_⟩
  rw [if_neg (by simp [opened]), if_neg (by simp [fresh]), if_neg (by omega)]
  rfl

/-! ### TENDER (R32) -/

theorem Escrow.needsService_iff (e : Escrow) : e.needsService = true ↔ e.owner = .orphan ∨ e.status = .fault := by
  simp [Escrow.needsService]

theorem State.intakeFree_iff (s : State) (l : Lane) :
    s.intakeFree l = true ↔
      (s.lanes.get l).binding = .none ∧ (s.escrows.get l).entries = [] ∧ (s.escrows.get l).owner = .none := by
  simp [State.intakeFree, and_assoc]

/-- The owner of a stack without one changes, so its record joins the dirty set (R39). -/
theorem State.openTender_eq {s : State} {l : Lane} (free : (s.escrows.get l).owner = .none) (tag : Nat) :
    s.openTender l tag =
      { s with
        sales := s.sales.set l ((s.sales.get l).map fun (y : Sale) =>
          if y.tag = tag then
            { y with state := .tendering, coinValue := y.coinValue + (s.lanes.get l).stray }.withChange
          else y)
        lanes := s.lanes.set l { s.lanes.get l with binding := .sale tag, stray := 0 }
        escrows := s.escrows.set l { s.escrows.get l with owner := .sale tag }
        dirty := insertDirty (recEscrow l) s.now s.dirty } := by
  simp [State.openTender, State.setOwner, free, State.markIf]
  rfl

/-- TENDER of a sale at its ready port: its checks in their order, then the tender opens (R32). -/
theorem exec_tender {s : State} {p : Port} {l : Lane} {tag : Nat} {x : Sale} (hl : p.lane = some l) (h : Ready s p)
    (found : s.findSale l tag = some x) :
    exec (.tender p tag) s =
      .next
        (if (s.lanes.get l).opened = false then s.refusedWith p .tender .laneClosed
        else if x.state ≠ .waiting then s.refusedWith p .tender .state
        else if (s.escrows.get l).needsService = true then s.refusedWith p .tender .state
        else if s.intakeFree l = false then s.refusedWith p .tender .busy
        else (((s.setOutstanding p Command.tender.byte).openTender l tag).answer p .tender []).flush) := by
  have run : exec (.tender p tag) s = _ := saleRequest_run hl h rfl found _
  rw [run]
  simp only [Bool.not_eq_true']
  rfl

/-- Settles O5: each check refuses as its rule says, and the tender that opens takes a stack without an owner. -/
theorem tender : Obligations.Tender := by
  unfold Obligations.Tender
  intro p l tag s hl h
  refine ⟨fun missing => saleRequest_noSale hl h (c := .tender) rfl missing _, fun x found => ?_⟩
  rw [exec_tender hl h found]
  refine ⟨fun closed => by rw [if_pos closed], fun opened => ?_⟩
  rw [if_neg (by simp [opened])]
  refine ⟨fun bad => ?_, fun waiting owner status => ?_⟩
  · rcases bad with state | service
    · rw [if_pos state]
    · simp [(Escrow.needsService_iff _).mpr service]
  · have served : ¬ (s.escrows.get l).needsService = true := by simp [Escrow.needsService_iff, owner, status]
    rw [if_neg (not_not_intro waiting), if_neg served]
    refine ⟨fun busy => ?_, fun unbound empty free => ?_⟩
    · rw [if_pos (Bool.eq_false_iff.mpr fun idle => busy ((s.intakeFree_iff l).mp idle))]
    · rw [if_neg (by simp [(s.intakeFree_iff l).mpr ⟨unbound, empty, free⟩]),
        State.openTender_eq (s := s.setOutstanding p Command.tender.byte) free]
      rfl

/-! ### RELEASE and STATUS (R29, R30) -/

theorem SaleState.finished_iff (x : SaleState) :
    x.finished = true ↔ x = .settled ∨ x = .shortSettled ∨ x = .cancelled ∨ x = .stopped := by
  cases x <;> simp [SaleState.finished]

/-- The need of a lane ends with its floor-blocked sale (R84). -/
theorem State.clearNeedOf_eq (s : State) (l : Lane) (tag : Nat) :
    s.clearNeedOf l tag =
      { s with
        lanes :=
          if (s.lanes.get l).blockedSale = some tag then
            s.lanes.set l { s.lanes.get l with blockedSale := none, asked := 0 }
          else s.lanes } := by
  simp only [State.clearNeedOf]
  split <;> rfl

/-- RELEASE of a sale at its ready port (R30). -/
theorem exec_release {s : State} {p : Port} {l : Lane} {tag : Nat} {x : Sale} (hl : p.lane = some l) (h : Ready s p)
    (found : s.findSale l tag = some x) :
    exec (.release p tag) s =
      .next
        (if x.state.finished = true then
          ({ s with
            sales := s.sales.set l ((s.sales.get l).filter fun y => decide (y.tag ≠ tag))
            lanes :=
              if (s.lanes.get l).blockedSale = some tag then
                s.lanes.set l { s.lanes.get l with blockedSale := none, asked := 0 }
              else s.lanes }.replied p .release [])
        else s.refusedWith p .release .state) := by
  have run : exec (.release p tag) s = _ := saleRequest_run hl h rfl found _
  rw [run]
  simp only [State.clearNeedOf_eq]
  rfl

/-- STATUS of a lane that the port may name: the lane's report, the sale's record, or NO_SALE (R28, R29). -/
theorem exec_status {s : State} {p : Port} {lane : Option Nat} {l : Lane} {tag : Nat} (h : Ready s p)
    (named : namedLane p lane = some l) :
    exec (.status p lane tag) s =
      .next
        (if tag = 0 then s.replied p .status (s.laneFields l)
        else
          match s.findSale l tag with
          | some x => s.replied p .status (s.saleFields l x)
          | none => s.refusedWith p .status .noSale) := by
  have permitted : Command.status.permitted p = true := by cases p <;> rfl
  have run : exec (.status p lane tag) s = .next (takeStatus p lane tag s.firstEvent) := rfl
  rw [run, h.firstEvent, takeStatus, State.request_ready h _ permitted, named]
  rfl

/-- Settles O11: RELEASE asks for a finished sale, and the fields of STATUS are the records'. -/
theorem releaseAndStatus : Obligations.ReleaseAndStatus := by
  unfold Obligations.ReleaseAndStatus
  refine ⟨fun p l tag s hl h => ⟨fun missing => saleRequest_noSale hl h (c := .release) rfl missing _, fun x found => ?_⟩,
    fun p lane l tag s h named => ?_⟩
  · rw [exec_release hl h found]
    have finished := x.state.finished_iff
    refine ⟨fun settled short cancelled stopped => ?_, fun ended => by rw [if_pos (finished.mpr ended)]⟩
    rw [if_neg (by simp [finished, settled, short, cancelled, stopped])]
  · rw [exec_status h (namedLane_eq named)]
    refine ⟨fun zero => by rw [if_pos zero]; rfl, fun named' missing => by rw [if_neg named', missing],
      fun named' x found => by rw [if_neg named', found]; rfl⟩

/-! ### LANE_OPEN, FLOOR_HOLD and FLOOR_YIELD (R23, R81, R86) -/

/-- LANE_OPEN at its ready port: a lane that is OPEN stays as it is (R23). -/
theorem exec_laneOpen {s : State} {p : Port} {l : Lane} (hl : p.lane = some l) (h : Ready s p) :
    exec (.laneOpen p) s =
      .next
        (if (s.lanes.get l).opened = true then s.replied p .laneOpen []
        else
          ({ s with
            lanes := s.lanes.set l { s.lanes.get l with opened := true, holding := true, cup := 0, outlet := 0 }
            }.replied p .laneOpen []).settleEvent) :=
  laneRequest_run hl h (c := .laneOpen) rfl _

theorem exec_floorHold {s : State} {p : Port} {l : Lane} (hl : p.lane = some l) (h : Ready s p) :
    exec (.floorHold p) s =
      .next
        (if (s.lanes.get l).opened = true then
          { s with lanes := s.lanes.set l { s.lanes.get l with holding := true } }.replied p .floorHold []
        else s.refusedWith p .floorHold .laneClosed) :=
  laneRequest_run hl h (c := .floorHold) rfl _

/-- FLOOR_GRANTED goes to a lane whose need is set (R86). -/
theorem State.grantFloor_eq (s : State) (l : Lane) :
    s.grantFloor l =
      { s with
        events :=
          match (s.lanes.get l).blockedSale with
          | some n => s.events.set l.port { s.events.get l.port with granted := some n }
          | none => s.events } := by
  simp only [State.grantFloor]
  cases (s.lanes.get l).blockedSale <;> rfl

theorem State.yieldFloor_eq {s : State} {l : Lane} (holding : (s.lanes.get l).holding = true) :
    s.yieldFloor l =
      { s with
        lanes := s.lanes.set l { s.lanes.get l with holding := false }
        events :=
          match (s.lanes.get l.other).blockedSale with
          | some n => s.events.set l.other.port { s.events.get l.other.port with granted := some n }
          | none => s.events } := by
  simp [State.yieldFloor, holding, State.grantFloor_eq, State.modLane, PerLane.modify, PerLane.get_set_other]

theorem exec_floorYield {s : State} {p : Port} {l : Lane} (hl : p.lane = some l) (h : Ready s p) :
    exec (.floorYield p) s =
      .next
        (if (s.lanes.get l).opened = true then ((s.setOutstanding p Command.floorYield.byte).yieldFloor l).answer p .floorYield []
        else s.refusedWith p .floorYield .laneClosed) :=
  laneRequest_run hl h (c := .floorYield) rfl _

/-- Settles O13: the three commands go by whether the lane is OPEN, and FLOOR_YIELD by whether it holds its floor. -/
theorem laneCommands : Obligations.LaneCommands := by
  unfold Obligations.LaneCommands
  refine ⟨fun p l s hl h => ?_, fun p l s hl h => ?_⟩
  · rw [exec_laneOpen hl h]
    exact ⟨fun opened => by rw [if_pos opened], fun closed => by rw [if_neg (by simp [closed])]⟩
  · rw [exec_floorHold hl h, exec_floorYield hl h]
    refine ⟨fun closed => by simp [closed], fun opened => ?_⟩
    rw [if_pos opened, if_pos opened]
    refine ⟨rfl, fun yielded => ?_, fun holding => ?_⟩
    · have still : (s.setOutstanding p Command.floorYield.byte).yieldFloor l = s.setOutstanding p Command.floorYield.byte :=
        if_neg (by simp [yielded])
      rw [still]
      rfl
    · rw [State.yieldFloor_eq (s := s.setOutstanding p Command.floorYield.byte) holding]
      rfl

end Sys2Proof.Machine
end

section
/-! SUPPORT. LANE_CLOSE (R24, R87). -/

namespace Sys2Proof.Machine

-- One proof after the other: many short proofs at once take more threads than the check's memory limit has room for.
set_option Elab.async false

theorem PerLane.modify_modify {α : Type} (t : PerLane α) (l : Lane) (f g : α → α) :
    (t.modify l f).modify l g = t.modify l fun x => g (f x) := by cases l <;> rfl

theorem PerPort.modify_modify {α : Type} (t : PerPort α) (p : Port) (f g : α → α) :
    (t.modify p f).modify p g = t.modify p fun x => g (f x) := by cases p <;> rfl

@[simp] theorem lanePort_other_ne (l : Lane) : l.other.port ≠ l.port := by cases l <;> decide

@[simp] theorem lanePort_ne_other (l : Lane) : l.port ≠ l.other.port := by cases l <;> decide

/-! ### The WAITING sales that a close cancels (R24) -/

theorem State.finishSale_sales (s : State) (l : Lane) (tag : Nat) (st : SaleState) :
    (s.finishSale l tag st).sales =
      s.sales.modify l fun ys => ys.map fun y => if y.tag = tag then { y with state := st } else y := by
  simp [State.finishSale, State.modSale]

theorem State.finishSale_events (s : State) (l : Lane) (tag : Nat) (st : SaleState) :
    (s.finishSale l tag st).events =
      s.events.modify l.port fun e => { e with finished := pushLast e.finished (tag, st) } := by
  simp [State.finishSale, State.raiseFinished]

/-- Finishing sales one after the other changes the sales of these tags. -/
theorem foldl_finishSale_sales (st : SaleState) (l : Lane) (tags : List Nat) (s : State) :
    (tags.foldl (fun s tag => s.finishSale l tag st) s).sales =
      s.sales.modify l fun ys => ys.map fun y => if y.tag ∈ tags then { y with state := st } else y := by
  induction tags generalizing s with
  | nil => cases l <;> simp [PerLane.modify, PerLane.set, PerLane.get]
  | cons tag tags ih =>
    rw [List.foldl_cons, ih, State.finishSale_sales, PerLane.modify_modify]
    congr 1
    funext ys
    rw [List.map_map]
    refine List.map_congr_left fun y _ => ?_
    by_cases here : y.tag = tag
    · by_cases later : tag ∈ tags <;> simp [here, later]
    · simp [here]

/-- Each of them is raised in its turn (R31, R174). -/
theorem foldl_finishSale_events (st : SaleState) (l : Lane) (tags : List Nat) (s : State) :
    (tags.foldl (fun s tag => s.finishSale l tag st) s).events =
      s.events.modify l.port fun e =>
        { e with finished := tags.foldl (fun xs n => pushLast xs (n, st)) e.finished } := by
  induction tags generalizing s with
  | nil => cases l <;> rfl
  | cons tag tags ih => rw [List.foldl_cons, ih, State.finishSale_events, PerPort.modify_modify]; rfl

/-- In a list of distinct tags a tag is a WAITING sale's exactly where the sale itself waits. -/
theorem State.mem_waitingTags {s : State} {l : Lane} (distinct : ((s.sales.get l).map Sale.tag).Nodup) {y : Sale}
    (hy : y ∈ s.sales.get l) : y.tag ∈ s.waitingTags l ↔ y.state = .waiting := by
  simp only [State.waitingTags, List.mem_map, List.mem_filter, decide_eq_true_eq]
  refine ⟨?_, fun waiting => ⟨y, ⟨hy, waiting⟩, rfl⟩⟩
  rintro ⟨x, ⟨hx, waiting⟩, same⟩
  exact List.inj_on_of_nodup_map distinct hx hy same ▸ waiting

theorem State.cancelWaiting_eq {s : State} {l : Lane} (distinct : ((s.sales.get l).map Sale.tag).Nodup) :
    (s.cancelWaiting l).sales = s.sales.set l ((s.sales.get l).map fun (y : Sale) =>
      if y.state = .waiting then { y with state := .cancelled } else y) := by
  rw [State.cancelWaiting, foldl_finishSale_sales, PerLane.modify]
  congr 1
  exact List.map_congr_left fun y hy => by simp only [State.mem_waitingTags distinct hy]

theorem State.cancelWaiting_events (s : State) (l : Lane) :
    (s.cancelWaiting l).events = s.events.modify l.port fun e =>
      { e with finished := (s.waitingTags l).foldl (fun xs n => pushLast xs (n, .cancelled)) e.finished } := by
  rw [State.cancelWaiting, foldl_finishSale_events]

/-! ### The close (R24, R87) -/

theorem State.closeLane_events (s : State) (l : Lane) :
    (((s.closeLane l).events.get l.port).finished =
        (s.waitingTags l).foldl (fun xs n => pushLast xs (n, .cancelled)) (s.events.get l.port).finished) ∧
      ((s.closeLane l).events.get l.other.port).granted =
        match (s.lanes.get l.other).blockedSale with
        | some n => some n
        | none => (s.events.get l.other.port).granted := by
  cases blocked : (s.lanes.get l.other).blockedSale <;>
    simp [State.closeLane, State.grantFloor_eq, State.cancelWaiting_events, blocked, PerLane.get_modify_other,
      PerPort.get_set_other, PerPort.get_modify_other]

/-- LANE_CLOSE at its ready port: a sale that is served keeps the lane open (R24). -/
theorem exec_laneClose {s : State} {p : Port} {l : Lane} (hl : p.lane = some l) (h : Ready s p) :
    exec (.laneClose p) s =
      .next
        (if ((s.sales.get l).any fun x => x.state.open) = true then s.refusedWith p .laneClose .state
        else if (s.lanes.get l).opened = true then
          ((s.setOutstanding p Command.laneClose.byte).closeLane l).answer p .laneClose []
        else s.replied p .laneClose []) :=
  laneRequest_run hl h (c := .laneClose) rfl _

theorem SaleState.open_iff (x : SaleState) :
    x.open = true ↔ x = .tendering ∨ x = .tendered ∨ x = .planned ∨ x = .paying ∨ x = .refunding := by
  cases x <;> simp [SaleState.open]

/-- Settles O14: the WAITING sales are cancelled one after the other, then the lane closes and the other one is granted. -/
theorem laneClose : Obligations.LaneClose := by
  unfold Obligations.LaneClose
  intro p l s hl h
  rw [exec_laneClose hl h]
  refine ⟨fun ⟨x, hx, served⟩ => ?_, fun idle => ?_⟩
  · rw [if_pos (List.any_eq_true.mpr ⟨x, hx, x.state.open_iff.mpr served⟩)]
  · have free : ¬ ((s.sales.get l).any fun x => x.state.open) = true := fun served => by
      obtain ⟨x, hx, state⟩ := List.any_eq_true.mp served
      obtain ⟨tendering, tendered, planned, paying, refunding⟩ := idle x hx
      simp [SaleState.open_iff, tendering, tendered, planned, paying, refunding] at state
    rw [if_neg free]
    refine ⟨fun closed => by simp [closed], fun opened distinct => ?_⟩
    rw [if_pos opened]
    obtain ⟨finished, granted⟩ := (s.setOutstanding p Command.laneClose.byte).closeLane_events l
    refine ⟨_, rfl, ?_, ?_, finished, granted, ?_, ?_⟩
    · have cancelled := State.cancelWaiting_eq (s := s.setOutstanding p Command.laneClose.byte) distinct
      simpa [State.closeLane] using cancelled
    · simp [State.closeLane, PerLane.modify]
    · simp [State.replied, State.answer, State.pushFrame_eq]
    · simp

end Sys2Proof.Machine
end

section
/-! SUPPORT. The settlement test (R47, R109, R110), and the end of a return (R43, R44). -/

namespace Sys2Proof.Machine

-- One proof after the other: many short proofs at once take more threads than the check's memory limit has room for.
set_option Elab.async false

/-! ### The settlement test (R47, R109, R110) -/

/-- A job or a request of the sale is left (R109). -/
abbrev State.busy (s : State) (l : Lane) (tag : Nat) : Bool := s.hasJobs l tag || s.hasRequest l tag

theorem State.settleTest_busy {s : State} {l : Lane} {tag : Nat} (busy : s.busy l tag = true) :
    s.settleTest l tag = s := by
  simp only [State.settleTest]
  split
  · rfl
  · exact if_pos busy

/-- A REFUNDING sale without a job and a request is CANCELLED once it owns no stack (R47, R110). -/
theorem State.settleTest_refunding {s : State} {l : Lane} {tag : Nat} {x : Sale} (found : s.findSale l tag = some x)
    (idle : s.busy l tag = false) (refunding : x.state = .refunding) :
    s.settleTest l tag = if (s.escrows.get l).owner = .sale tag then s else s.finishSale l tag .cancelled := by
  simp [State.settleTest, found, idle, refunding]

theorem State.finishSale_findSale {s : State} {l : Lane} {tag : Nat} {x : Sale} (found : s.findSale l tag = some x)
    (st : SaleState) : (s.finishSale l tag st).findSale l tag = some { x with state := st } := by
  have changed := s.modSale_findSale l l tag tag (f := fun y => { y with state := st }) fun _ => rfl
  exact changed.trans (by simp [found])

theorem State.busy_congr {s t : State} (laneJobs : t.laneJobs = s.laneJobs) (planReqs : t.planReqs = s.planReqs)
    (l : Lane) (tag : Nat) : t.busy l tag = s.busy l tag := by
  simp only [State.busy, State.hasJobs, State.hasRequest, laneJobs, planReqs]

/-! ### A return that succeeds (R43) -/

/-- The lane's stray credit, its stack and the dirty set once a return has succeeded, before its owner is tested (R43). -/
def State.emptyStack (s : State) (l : Lane) : State :=
  ((s.modLane l fun r => { r with stray := r.stray - s.entriesValue l fun e => decide (e.credit = .stray) }).modEscrow l
    fun e => { e with entries := [], owner := .none, status := .idle }).markDirty (recEscrow l)

theorem State.returnSucceeds_sale {s : State} {l : Lane} {tag : Nat} (owner : (s.escrows.get l).owner = .sale tag) :
    s.returnSucceeds l = (s.emptyStack l).settleTest l tag := by
  simp only [State.returnSucceeds, owner]
  rfl

theorem State.returnSucceeds_other {s : State} {l : Lane} (owner : ∀ tag, (s.escrows.get l).owner ≠ .sale tag) :
    s.returnSucceeds l = s.emptyStack l := by
  cases is : (s.escrows.get l).owner with
  | sale tag => exact absurd is (owner tag)
  | _ => simp only [State.returnSucceeds, is]; rfl

theorem State.returnSucceeds_cases (s : State) (l : Lane) :
    (∃ tag, (s.escrows.get l).owner = .sale tag ∧ s.returnSucceeds l = (s.emptyStack l).settleTest l tag) ∨
      (∀ tag, (s.escrows.get l).owner ≠ .sale tag) ∧ s.returnSucceeds l = s.emptyStack l := by
  by_cases sold : ∃ tag, (s.escrows.get l).owner = .sale tag
  · obtain ⟨tag, owner⟩ := sold
    exact .inl ⟨tag, owner, State.returnSucceeds_sale owner⟩
  · exact .inr ⟨fun tag owner => sold ⟨tag, owner⟩, State.returnSucceeds_other fun tag owner => sold ⟨tag, owner⟩⟩

/-- What a return that succeeds leaves of lanes and dirty set, whoever owned the stack (R38, R43). -/
theorem State.returnSucceeds_parts (s : State) (l : Lane) :
    (s.returnSucceeds l).lanes = s.lanes.set l { s.lanes.get l with
        stray := (s.lanes.get l).stray - s.entriesValue l fun e => decide (e.credit = .stray) } ∧
      (s.returnSucceeds l).dirty = insertDirty (recEscrow l) s.now s.dirty := by
  rcases s.returnSucceeds_cases l with ⟨tag, -, e⟩ | ⟨-, e⟩ <;> rw [e]
  · have lanes : ((s.emptyStack l).settleTest l tag).lanes = (s.emptyStack l).lanes := by simp
    exact ⟨lanes.trans rfl, by simp [State.emptyStack, State.markDirty]⟩
  · exact ⟨rfl, rfl⟩

@[simp] theorem State.emptyStack_findSale (s : State) (l m : Lane) (tag : Nat) :
    (s.emptyStack l).findSale m tag = s.findSale m tag := rfl

@[simp] theorem State.emptyStack_busy (s : State) (l m : Lane) (tag : Nat) : (s.emptyStack l).busy m tag = s.busy m tag := rfl

theorem State.emptyStack_owner (s : State) (l : Lane) : ((s.emptyStack l).escrows.get l).owner = .none := by
  simp [State.emptyStack]

/-- The REFUNDING sale whose stack has gone is CANCELLED where nothing else of it is left (R47). -/
theorem State.returnSucceeds_cancels {s : State} {l : Lane} {tag : Nat} {x : Sale}
    (owner : (s.escrows.get l).owner = .sale tag) (found : s.findSale l tag = some x) (idle : s.busy l tag = false)
    (refunding : x.state = .refunding) :
    (s.returnSucceeds l).findSale l tag = some { x with state := .cancelled } ∧
      (s.returnSucceeds l).events = s.events.set l.port { s.events.get l.port with
        finished := pushLast (s.events.get l.port).finished (tag, .cancelled) } := by
  have found' : (s.emptyStack l).findSale l tag = some x := found
  rw [State.returnSucceeds_sale owner, State.settleTest_refunding found' idle refunding,
    if_neg (by simp [State.emptyStack_owner])]
  exact ⟨State.finishSale_findSale found' _, rfl⟩

/-- The sales and the events stay where the owner is no sale, or one that has a job or a request left (R47). -/
theorem State.returnSucceeds_still {s : State} {l : Lane}
    (still : ∀ tag, (s.escrows.get l).owner = .sale tag → s.busy l tag = true) :
    (s.returnSucceeds l).sales = s.sales ∧ (s.returnSucceeds l).events = s.events := by
  rcases s.returnSucceeds_cases l with ⟨tag, owner, e⟩ | ⟨-, e⟩
  · have busy : (s.emptyStack l).busy l tag = true := still tag owner
    rw [e, State.settleTest_busy busy]
    exact ⟨rfl, rfl⟩
  · rw [e]
    exact ⟨rfl, rfl⟩

/-! ### ESCROW_EMPTY_REPORT and RETURN_TIMEOUT (R43, R44, R186) -/

/-- Where no return is under way, or the sensor does not become empty, its level is all that changes (R186). -/
theorem exec_escrowEmptyReport_level {s : State} (running : s.Running) {l : Lane} {empty : Bool}
    (still : empty = false ∨ ∀ ends, (s.escrows.get l).status ≠ .returning ends) :
    exec (.escrowEmptyReport l empty) s = .next (s.modEscrow l fun e => { e with sensorEmpty := empty }) := by
  have run : exec (.escrowEmptyReport l empty) s = execEscrowEmptyReport l empty s := rfl
  rw [run, execEscrowEmptyReport, State.firstEvent_running running, takeEscrowEmptyReport]
  cases empty with
  | false => rfl
  | true =>
    cases status : (s.escrows.get l).status with
    | returning ends => simp [status] at still
    | idle | fault => simp

/-- A return under way succeeds when the sensor becomes empty (R43). -/
theorem exec_escrowEmptyReport_returned {s : State} (running : s.Running) {l : Lane} {ends : Nat}
    (returning : (s.escrows.get l).status = .returning ends) :
    exec (.escrowEmptyReport l true) s =
      .next ((s.modEscrow l fun e => { e with sensorEmpty := true }).returnSucceeds l).settleEvent := by
  have run : exec (.escrowEmptyReport l true) s = execEscrowEmptyReport l true s := rfl
  rw [run, execEscrowEmptyReport, State.firstEvent_running running, takeEscrowEmptyReport, returning, running.1]
  rfl

/-- ESCROW_FAULT at the lane's port and at the service port, which are two ports (R44). -/
theorem State.raiseEscrowFault_eq (s : State) (l : Lane) (tag : Nat) :
    s.raiseEscrowFault l tag =
      { s with
        events := (s.events.set l.port { s.events.get l.port with escrowFault := some (l, tag) }).set .sp
          { s.events.get .sp with escrowFault := some (l, tag) } } := by
  cases l <;> rfl

theorem State.returnFails_sale {s : State} {l : Lane} {tag : Nat} (owner : (s.escrows.get l).owner = .sale tag) :
    s.returnFails l = (s.setEscrowStatus l .fault).raiseEscrowFault l tag := by
  simp only [State.returnFails, owner]

theorem State.returnFails_orphan {s : State} {l : Lane} (owner : (s.escrows.get l).owner = .orphan) :
    s.returnFails l = (s.setEscrowStatus l .idle).raiseEscrowFault l 0 := by
  simp only [State.returnFails, owner]

theorem exec_returnTimeout {s : State} (running : s.Running) {l : Lane} {ends : Nat}
    (returning : (s.escrows.get l).status = .returning ends) :
    exec (.returnTimeout l) s = .next ((s.advanceTo ends).returnFails l) := by
  have run : exec (.returnTimeout l) s = execReturnTimeout l s := rfl
  rw [run, execReturnTimeout, State.firstEvent_running running, takeReturnTimeout, State.whenPowered, if_pos running.1,
    returning]

/-- Settles O41: the empty report ends a return with its success, the timer with its failure. -/
theorem escrowReturn : Obligations.EscrowReturn := by
  unfold Obligations.EscrowReturn
  refine ⟨fun l empty s running status => ?_, fun l ends s running returning => ⟨?_, ?_, fun tag owner => ?_, fun owner => ?_⟩⟩
  · exact exec_escrowEmptyReport_level running (.inr fun ends returning => by
      rcases status with h | h <;> simp [h] at returning)
  · rw [exec_escrowEmptyReport_returned running returning]
    obtain ⟨lanes, dirty⟩ := (s.modEscrow l fun e => { e with sensorEmpty := true }).returnSucceeds_parts l
    refine ⟨_, rfl, ?_, ?_, dirty, fun tag x owner found refunding jobs requests => ?_, by simp⟩
    · rw [State.returnSucceeds_escrows, State.modEscrow_escrows, PerLane.modify_modify]
      rfl
    · simpa [State.entriesValue, State.slotValue] using lanes
    · have idle : s.busy l tag = false := by simp [jobs, requests]
      exact State.returnSucceeds_cancels (s := s.modEscrow l fun e => { e with sensorEmpty := true })
        (by simpa using owner) found idle refunding
  · exact exec_escrowEmptyReport_level running (.inl rfl)
  · rw [exec_returnTimeout running returning, State.returnFails_sale (s := s.advanceTo ends) owner,
      State.raiseEscrowFault_eq]
    rfl
  · rw [exec_returnTimeout running returning, State.returnFails_orphan (s := s.advanceTo ends) owner,
      State.raiseEscrowFault_eq]
    rfl

end Sys2Proof.Machine
end

section
/-! SUPPORT. CLEAR_ESCROW (R43, R45, R47). -/

namespace Sys2Proof.Machine

-- One proof after the other: many short proofs at once take more threads than the check's memory limit has room for.
set_option Elab.async false

/-! ### The settlement test as a state of the sale (R47, R109, R110) -/

/-- The settlement test finishes a sale exactly where `endState` is another state than the sale's. -/
theorem State.settleTest_eq {s : State} {l : Lane} {tag : Nat} {x : Sale} (found : s.findSale l tag = some x)
    {st : SaleState}
    (st_eq : st = endState x.state x.shortfall (s.busy l tag) (decide ((s.escrows.get l).owner = .sale tag))) :
    s.settleTest l tag = if st = x.state then s else s.finishSale l tag st := by
  subst st_eq
  cases busy : s.busy l tag with
  | true => simp [State.settleTest_busy busy, endState]
  | false =>
    simp only [State.settleTest, found, busy, endState]
    cases state : x.state with
    | paying => by_cases short : x.shortfall = 0 <;> simp [short]
    | refunding => by_cases owns : (s.escrows.get l).owner = .sale tag <;> simp [owns]
    | _ => simp

theorem State.settleTest_findSale {s : State} {l : Lane} {tag : Nat} {x : Sale} (found : s.findSale l tag = some x) :
    (s.settleTest l tag).findSale l tag = some { x with
      state := endState x.state x.shortfall (s.busy l tag) (decide ((s.escrows.get l).owner = .sale tag)) } := by
  rw [State.settleTest_eq found rfl]
  split
  next same => rw [found, same]
  · exact State.finishSale_findSale found _

/-- SALE_FINISHED is raised where the settlement test finishes the sale (R47, R109). -/
theorem State.settleTest_events {s : State} {l : Lane} {tag : Nat} {x : Sale} (found : s.findSale l tag = some x)
    {st : SaleState}
    (st_eq : st = endState x.state x.shortfall (s.busy l tag) (decide ((s.escrows.get l).owner = .sale tag))) :
    (s.settleTest l tag).events = if st = x.state then s.events else s.events.set l.port { s.events.get l.port with
      finished := pushLast (s.events.get l.port).finished (tag, st) } := by
  rw [State.settleTest_eq found st_eq]
  split
  · rfl
  · exact State.finishSale_events ..

/-! ### A request that is placed (R49, R51) -/

theorem State.placeRequest_fresh {s : State} {l : Lane} {tag : Nat} (none : s.hasRequest l tag = false)
    (kind : RequestKind) (v : Nat) :
    (s.placeRequest l tag kind v).planReqs =
      insertReq { lane := l, tag := tag, kind := kind, amount := boundAmount v, shielded := decide (kind = .quote) }
        s.planReqs := by
  have absent : (s.planReqs.find? fun r => r.isOf l tag) = .none := by
    simpa [State.hasRequest, PlanReq.isOf] using none
  rw [State.placeRequest, absent]

theorem State.placeRequest_merged {s : State} {l : Lane} {tag : Nat} {e : PlanReq} {kind : RequestKind}
    (found : (s.planReqs.find? fun r => r.isOf l tag) = some e) (stays : kind ≠ .replan) (v : Nat) :
    (s.placeRequest l tag kind v).planReqs =
      s.planReqs.map fun r => if r.isOf l tag then { e with amount := boundAmount (e.amount + v) } else r := by
  rw [State.placeRequest, found]
  simp [stays]

theorem State.placeRequest_hasRequest (s : State) (l : Lane) (tag : Nat) (kind : RequestKind) (v : Nat) :
    (s.placeRequest l tag kind v).hasRequest l tag = true := by
  refine List.any_eq_true.mpr ?_
  rcases s.placeRequest_cases l tag kind v with ⟨r, lane, tag', -, -, perm⟩ | ⟨r, lane, tag', -, perm⟩ |
    ⟨e, r, mem, own, lane, tag', -, same⟩
  · exact ⟨r, perm.mem_iff.mpr (.head _), by simp [lane, tag']⟩
  · exact ⟨r, perm.mem_iff.mpr (.head _), by simp [lane, tag']⟩
  · have := (e.isOf_iff l tag).mp own
    exact ⟨r, same ▸ List.mem_map.mpr ⟨e, mem, if_pos own⟩, by simp [lane, tag', this]⟩

/-! ### KEEP (R45) -/

@[simp] theorem PerLane.set_set {α : Type} (t : PerLane α) (l : Lane) (x y : α) : (t.set l x).set l y = t.set l y := by
  cases l <;> rfl

@[simp] theorem State.keepStack_escrows (s : State) (l : Lane) :
    (s.keepStack l).escrows = s.escrows.modify l fun e =>
      { e with owner := if e.entries = [] then .none else .stacking, status := .idle } := by
  simp only [State.keepStack]
  cases empty : (s.escrows.get l).entries <;> simp [PerLane.modify, empty]

theorem State.keepStack_stackJobs (s : State) (l : Lane) :
    ((s.escrows.get l).entries = [] → (s.keepStack l).stackJobs = s.stackJobs) ∧
      ((s.escrows.get l).entries ≠ [] → ∃ j,
        (s.keepStack l).stackJobs = (s.stackJobs.filter fun i => decide (i.source ≠ .escrow l)) ++ [j] ∧
          j.origin = .stackDown ∧ j.source = .escrow l ∧ j.ordered = (s.escrows.get l).entries.length ∧ j.done = 0) := by
  refine ⟨fun empty => by simp [State.keepStack, empty], fun notes => ?_⟩
  rw [State.keepStack, if_neg (by simpa using notes)]
  exact ⟨_, by rw [State.placeStackDown]; simp; rfl, by simp⟩

/-- A change to a sale's record, and a REFUND request of a value where there is one (R45, R46). -/
def State.refundSale (s : State) (l : Lane) (tag v : Nat) (f : Sale → Sale) : State :=
  let t := s.modSale l tag f
  if 0 < v then t.placeRequest l tag .refund v else t

section RefundSale

variable (s : State) (l : Lane) (tag v : Nat) (f : Sale → Sale)

@[simp] theorem State.refundSale_keeps :
    SameQueue s (s.refundSale l tag v f) ∧ SameClock s (s.refundSale l tag v f) ∧
      (s.refundSale l tag v f).ports = s.ports ∧ (s.refundSale l tag v f).lanes = s.lanes ∧
      (s.refundSale l tag v f).escrows = s.escrows ∧ (s.refundSale l tag v f).reservations = s.reservations ∧
      (s.refundSale l tag v f).laneJobs = s.laneJobs ∧ (s.refundSale l tag v f).stackJobs = s.stackJobs ∧
      SameEvents s (s.refundSale l tag v f) := by
  by_cases pos : 0 < v
  · simp [State.refundSale, pos]
  · simp [State.refundSale, pos]

theorem State.refundSale_planReqs :
    (v = 0 → (s.refundSale l tag v f).planReqs = s.planReqs) ∧
      (0 < v → s.hasRequest l tag = false → (s.refundSale l tag v f).planReqs =
        insertReq { lane := l, tag := tag, kind := .refund, amount := boundAmount v, shielded := false } s.planReqs) ∧
      (0 < v → ∀ e, s.planReqs.find? (fun r => r.isOf l tag) = some e → (s.refundSale l tag v f).planReqs =
        s.planReqs.map fun r => if r.isOf l tag then { e with amount := boundAmount (e.amount + v) } else r) := by
  refine ⟨fun zero => ?_, fun pos fresh => ?_, fun pos e merged => ?_⟩
  · simp [State.refundSale, zero]
  · rw [State.refundSale, if_pos pos]
    exact State.placeRequest_fresh (s := s.modSale l tag f) fresh .refund v
  · rw [State.refundSale, if_pos pos]
    exact State.placeRequest_merged (s := s.modSale l tag f) (kind := .refund) merged (by decide) v

/-- A value leaves the sale with a request; without one the sale is as busy as before. -/
theorem State.refundSale_busy : (s.refundSale l tag v f).busy l tag = (decide (0 < v) || s.busy l tag) := by
  rcases Nat.eq_zero_or_pos v with zero | pos
  · subst zero
    rfl
  · have requested : (s.refundSale l tag v f).hasRequest l tag = true := by
      rw [State.refundSale, if_pos pos]
      exact State.placeRequest_hasRequest ..
    simp [State.busy, requested, pos]

end RefundSale

theorem State.refundSale_findSale {s : State} {l : Lane} {tag : Nat} {x : Sale} (found : s.findSale l tag = some x) (v : Nat)
    {f : Sale → Sale} (keeps : ∀ y, (f y).tag = y.tag) : (s.refundSale l tag v f).findSale l tag = some (f x) := by
  have changed := (s.modSale_findSale l l tag tag (f := f) keeps).trans (by rw [found])
  simp only [State.refundSale]
  split
  · simpa [State.findSale] using changed
  · simpa using changed

/-- KEEP raises the refund of the owner sale (R45). -/
def Sale.addRefund (v : Nat) (x : Sale) : Sale := { x with refund := x.refund.map fun r => boundAmount (r + v) }

theorem State.keepForSale_eq (s : State) (l : Lane) (tag v : Nat) :
    s.keepForSale l tag v = (s.refundSale l tag v (Sale.addRefund v)).settleTest l tag := rfl

theorem State.keepEscrow_sale {s : State} {l : Lane} {tag : Nat} (owner : (s.escrows.get l).owner = .sale tag) :
    s.keepEscrow l =
      ((s.keepStack l).refundSale l tag (s.entriesValue l fun e => decide (e.credit = .sale))
        (Sale.addRefund (s.entriesValue l fun e => decide (e.credit = .sale)))).settleTest l tag := by
  simp only [State.keepEscrow, owner, State.keepForSale_eq]

theorem State.keepEscrow_other {s : State} {l : Lane} (owner : ∀ tag, (s.escrows.get l).owner ≠ .sale tag) :
    s.keepEscrow l = s.keepStack l := by
  cases is : (s.escrows.get l).owner with
  | sale tag => exact absurd is (owner tag)
  | _ => simp only [State.keepEscrow, is]

/-- The stack and the stack-down job are those of `keepStack`, whoever owned the stack. -/
theorem State.keepEscrow_stack (s : State) (l : Lane) :
    (s.keepEscrow l).escrows = (s.keepStack l).escrows ∧ (s.keepEscrow l).stackJobs = (s.keepStack l).stackJobs := by
  cases owner : (s.escrows.get l).owner with
  | sale tag => rw [State.keepEscrow_sale owner]; simp
  | _ => rw [State.keepEscrow_other (by simp [owner])]; exact ⟨rfl, rfl⟩


/-! ### CLEAR_ESCROW (R45) -/

theorem Escrow.clearable_iff (e : Escrow) :
    e.clearable = true ↔ e.owner = .orphan ∧ e.status = .idle ∨ e.status = .fault := by
  simp [Escrow.clearable]

/-- What CLEAR_ESCROW does to a stack that may be cleared (R45). -/
def EscrowAction.run (a : EscrowAction) (l : Lane) (s : State) : State :=
  match a with
  | .giveBack => ((s.answer .sp .clearEscrow []).beginReturn l).settleEvent
  | .keep => ((s.answer .sp .clearEscrow [amountField (s.entriesValue l fun _ => true)]).keepEscrow l).settleEvent

theorem exec_clearEscrow {s : State} (h : Ready s .sp) (key : s.key = true) (l : Lane) {n : Nat} {a : EscrowAction}
    (action : escrowActionOf n = some a) :
    exec (.clearEscrow .sp (laneCode l) n) s =
      .next (if (s.escrows.get l).clearable = true then a.run l (s.setOutstanding .sp Command.clearEscrow.byte)
        else s.refusedWith .sp .clearEscrow .state) := by
  have run : exec (.clearEscrow .sp (laneCode l) n) s = execClearEscrow .sp (laneCode l) n s := rfl
  rw [run, execClearEscrow, h.firstEvent, takeClearEscrow, State.request_keyed h key _ rfl, laneOf_code, action]
  have same : ((s.setOutstanding .sp Command.clearEscrow.byte).escrows.get l).clearable = (s.escrows.get l).clearable := rfl
  by_cases clear : (s.escrows.get l).clearable = true
  · rw [if_pos clear, State.ranged_some, State.ranged_some, same, clear]
    cases a <;> rfl
  · rw [if_neg clear, State.ranged_some, State.ranged_some, same, if_pos (by simpa using clear)]
    rfl

/-- The value credited to the owner sale goes back to its requests: none, a new one, or the pending one (R45, R51). -/
theorem State.keepEscrow_planReqs {s : State} {l : Lane} {tag v : Nat} (owner : (s.escrows.get l).owner = .sale tag)
    (credited : v = s.entriesValue l fun e => decide (e.credit = .sale)) :
    (v = 0 → (s.keepEscrow l).planReqs = s.planReqs) ∧
      (0 < v → s.hasRequest l tag = false → (s.keepEscrow l).planReqs =
        insertReq { lane := l, tag := tag, kind := .refund, amount := boundAmount v, shielded := false } s.planReqs) ∧
      (0 < v → ∀ e, s.planReqs.find? (fun r => r.isOf l tag) = some e → (s.keepEscrow l).planReqs =
        s.planReqs.map fun r => if r.isOf l tag then { e with amount := boundAmount (e.amount + v) } else r) := by
  subst credited
  have reqs := (s.keepStack l).refundSale_planReqs l tag (s.entriesValue l fun e => decide (e.credit = .sale))
    (Sale.addRefund (s.entriesValue l fun e => decide (e.credit = .sale)))
  rw [State.keepEscrow_sale owner]
  simpa [State.hasRequest] using reqs

theorem State.keepStack_owner_ne (s : State) (l : Lane) (tag : Nat) :
    ((s.keepStack l).escrows.get l).owner ≠ .sale tag := by
  simp only [State.keepStack_escrows, PerLane.get_modify_same]
  split <;> simp

theorem State.keepStack_busy (s : State) (l : Lane) (tag : Nat) : (s.keepStack l).busy l tag = s.busy l tag :=
  State.busy_congr (by simp) (by simp) l tag

/-- The record of the owner sale once its refund has risen. -/
theorem State.keepStack_refunded {s : State} {l : Lane} {tag : Nat} {x : Sale} (found : s.findSale l tag = some x)
    (v : Nat) :
    ((s.keepStack l).refundSale l tag v (Sale.addRefund v)).findSale l tag = some (Sale.addRefund v x) :=
  State.refundSale_findSale (by simpa [State.findSale] using found) v fun _ => rfl

theorem State.keepEscrow_findSale {s : State} {l : Lane} {tag v : Nat} {x : Sale}
    (owner : (s.escrows.get l).owner = .sale tag)
    (credited : v = s.entriesValue l fun e => decide (e.credit = .sale)) (found : s.findSale l tag = some x) :
    (s.keepEscrow l).findSale l tag = some { x with
      refund := x.refund.map fun r => boundAmount (r + v)
      state := endState x.state x.shortfall (decide (0 < v) || s.busy l tag) false } := by
  rw [State.keepEscrow_sale owner, ← credited, State.settleTest_findSale (State.keepStack_refunded found v),
    State.refundSale_busy, State.keepStack_busy]
  simp only [State.refundSale_keeps, decide_eq_false (s.keepStack_owner_ne l tag)]
  rfl

/-- The settlement test at the end of KEEP raises SALE_FINISHED where it finishes the owner sale (R47). -/
theorem State.keepEscrow_events {s : State} {l : Lane} {tag v : Nat} {x : Sale} {st : SaleState}
    (owner : (s.escrows.get l).owner = .sale tag)
    (credited : v = s.entriesValue l fun e => decide (e.credit = .sale)) (found : s.findSale l tag = some x)
    (ends : st = endState x.state x.shortfall (decide (0 < v) || s.busy l tag) false) :
    (s.keepEscrow l).events = if st = x.state then s.events else s.events.set l.port { s.events.get l.port with
      finished := pushLast (s.events.get l.port).finished (tag, st) } := by
  have tested := State.settleTest_events (State.keepStack_refunded found v) (st := st) (by
    rw [State.refundSale_busy, State.keepStack_busy]
    simpa only [State.refundSale_keeps, decide_eq_false (s.keepStack_owner_ne l tag), Sale.addRefund] using ends)
  have state : (Sale.addRefund v x).state = x.state := rfl
  rw [State.keepEscrow_sale owner, ← credited, tested]
  simp [state]

theorem endState_busy (st : SaleState) (shortfall : Nat) (owns : Bool) : endState st shortfall true owns = st := rfl

theorem endState_refunded (shortfall : Nat) : endState .refunding shortfall false false = .cancelled := rfl

/-! ### A return that begins (R43) -/

theorem State.beginReturn_closed {s : State} {l : Lane} (level : (s.escrows.get l).sensorEmpty = false) :
    s.beginReturn l = s.setEscrowStatus l (.returning (s.now + Config.returnTimeout)) := by
  rw [State.beginReturn]
  simp [level]

section Empty

variable {s : State} {l : Lane} (level : (s.escrows.get l).sensorEmpty = true)

include level

theorem State.beginReturn_empty :
    s.beginReturn l = (s.setEscrowStatus l (.returning (s.now + Config.returnTimeout))).returnSucceeds l := by
  rw [State.beginReturn]
  simp [level]

/-- A sensor that shows empty already leaves no stack, and no stray credit of it (R38, R43). -/
theorem State.beginReturn_parts :
    (s.beginReturn l).escrows = s.escrows.set l { entries := [], owner := .none, status := .idle, sensorEmpty := true } ∧
      (s.beginReturn l).lanes = s.lanes.set l { s.lanes.get l with
        stray := (s.lanes.get l).stray - s.entriesValue l fun e => decide (e.credit = .stray) } ∧
      (s.beginReturn l).dirty = insertDirty (recEscrow l) s.now s.dirty := by
  rw [State.beginReturn_empty level]
  obtain ⟨lanes, dirty⟩ := (s.setEscrowStatus l (.returning (s.now + Config.returnTimeout))).returnSucceeds_parts l
  exact ⟨by simp [PerLane.modify, level], by simpa [State.entriesValue, State.slotValue] using lanes, dirty⟩

theorem State.beginReturn_cancels {tag : Nat} {x : Sale} (owner : (s.escrows.get l).owner = .sale tag)
    (found : s.findSale l tag = some x) (idle : s.busy l tag = false) (refunding : x.state = .refunding) :
    (s.beginReturn l).findSale l tag = some { x with state := .cancelled } ∧
      (s.beginReturn l).events = s.events.set l.port { s.events.get l.port with
        finished := pushLast (s.events.get l.port).finished (tag, .cancelled) } := by
  rw [State.beginReturn_empty level]
  exact State.returnSucceeds_cancels (s := s.setEscrowStatus l (.returning (s.now + Config.returnTimeout)))
    (by simpa using owner) found idle refunding

theorem State.beginReturn_still (still : ∀ tag, (s.escrows.get l).owner = .sale tag → s.busy l tag = true) :
    (s.beginReturn l).sales = s.sales ∧ (s.beginReturn l).events = s.events := by
  rw [State.beginReturn_empty level]
  exact State.returnSucceeds_still (s := s.setEscrowStatus l (.returning (s.now + Config.returnTimeout)))
    fun tag owner => still tag (by simpa using owner)

end Empty

/-- A reply changes the port's transmitter alone. -/
theorem State.replied_ports (s : State) (p : Port) (c : Command) (data : List Field) :
    s.replied p c data = { s with ports := (s.replied p c data).ports } := rfl

theorem EscrowAction.run_giveBack (s : State) (l : Lane) :
    EscrowAction.giveBack.run l (s.setOutstanding .sp Command.clearEscrow.byte) =
      ((s.replied .sp .clearEscrow []).beginReturn l).settleEvent := rfl

theorem EscrowAction.run_keep (s : State) (l : Lane) :
    EscrowAction.keep.run l (s.setOutstanding .sp Command.clearEscrow.byte) =
      ((s.replied .sp .clearEscrow [amountField (((s.escrows.get l).entries.map fun e =>
        (s.denoms.get e.slot).value).sum)]).keepEscrow l).settleEvent := by
  simp [EscrowAction.run, State.replied, State.entriesValue, State.slotValue]

/-- Settles O23: RETURN begins a return, which ends at once where the sensor shows empty; KEEP queues the stack-down. -/
theorem clearEscrow : Obligations.ClearEscrow := by
  unfold Obligations.ClearEscrow
  intro l s h key
  have giveBack := exec_clearEscrow h key l (n := 0) rfl
  have keep := exec_clearEscrow h key l (n := 1) rfl
  rw [← Escrow.clearable_iff]
  refine ⟨fun kept a small => ?_, fun clear => ?_⟩
  · rcases Nat.le_one_iff_eq_zero_or_eq_one.mp small with rfl | rfl
    · rw [giveBack, if_neg kept]
    · rw [keep, if_neg kept]
  · rw [giveBack, keep, if_pos clear, if_pos clear, EscrowAction.run_giveBack, EscrowAction.run_keep]
    refine ⟨fun still => ?_, fun empty => ?_, ?_⟩
    · rw [State.beginReturn_closed (s := s.replied .sp .clearEscrow []) still]
      rfl
    · rw [State.replied_ports]
      generalize (s.replied .sp .clearEscrow []).ports = ports
      let r : State := { s with ports := ports }
      have level : (r.escrows.get l).sensorEmpty = true := empty
      obtain ⟨escrows, lanes, dirty⟩ := State.beginReturn_parts level
      refine ⟨r.beginReturn l, rfl, ?_, escrows, lanes, dirty, fun tag x owner found =>
        ⟨fun jobs requests refunding => ?_, fun busy => ?_⟩, fun orphan => ?_, ?_⟩
      · simp [r]
      · obtain ⟨cancelled, raised⟩ := State.beginReturn_cancels level owner found
          (Bool.or_eq_false_iff.mpr ⟨jobs, requests⟩) refunding
        exact ⟨cancelled, by simp [raised, r]⟩
      · refine State.beginReturn_still level fun tag' owner' => ?_
        obtain rfl : tag = tag' := EscrowOwner.sale.inj (owner.symm.trans owner')
        exact (Bool.or_eq_true _ _).mpr busy
      · refine State.beginReturn_still level fun tag owner => ?_
        rw [orphan] at owner
        cases owner
      · simp [r]
    · rw [State.replied_ports]
      generalize (s.replied .sp .clearEscrow [amountField (((s.escrows.get l).entries.map fun e =>
        (s.denoms.get e.slot).value).sum)]).ports = ports
      let r : State := { s with ports := ports }
      obtain ⟨noNotes, notes⟩ := r.keepStack_stackJobs l
      obtain ⟨escrows, stackJobs⟩ := r.keepEscrow_stack l
      refine ⟨r.keepEscrow l, rfl, ?_, ?_, ?_, ?_, ?_, ?_, ?_, ?_, ?_, ?_, ?_, ?_, fun none => ?noNotes, fun some => ?notes,
        fun orphan => ?otherOwner, fun tag owner => ?ownerSale⟩
      case noNotes => exact ⟨by simp [escrows, r, none], stackJobs.trans (noNotes none)⟩
      case notes => exact ⟨by simp [escrows, r, some], stackJobs ▸ notes some⟩
      case otherOwner =>
        rw [State.keepEscrow_other (s := r) orphan]
        simp [r]
      case ownerSale =>
        intro v
        obtain ⟨zero, fresh, merged⟩ := State.keepEscrow_planReqs (s := r) (v := v) owner rfl
        refine ⟨zero, fresh, merged, fun x found => ⟨_, State.keepEscrow_findSale (s := r) (v := v) owner rfl found,
          rfl, rfl, rfl, fun busy => ?_, fun none jobs requests refunding => ?_⟩⟩
        · have same : r.busy l tag = s.busy l tag := rfl
          have busy : (decide (0 < v) || r.busy l tag) = true := by
            simpa only [same, Bool.or_eq_true, decide_eq_true_eq] using busy
          have events := State.keepEscrow_events (s := r) (v := v) owner rfl found rfl
          rw [busy] at events ⊢
          exact ⟨rfl, by simpa [endState_busy, r] using events⟩
        · have idle : (decide (0 < v) || r.busy l tag) = false :=
            Bool.or_eq_false_iff.mpr ⟨by simp [none], Bool.or_eq_false_iff.mpr ⟨jobs, requests⟩⟩
          have events := State.keepEscrow_events (s := r) (v := v) owner rfl found rfl
          rw [idle, refunding, endState_refunded] at events ⊢
          exact ⟨rfl, by simp [events, r]⟩
      all_goals simp [escrows, PerLane.get_modify_other, r]

end Sys2Proof.Machine
end

section
/-! SUPPORT. CANCEL (R43, R46, R47). -/

namespace Sys2Proof.Machine

-- One proof after the other: many short proofs at once take more threads than the check's memory limit has room for.
set_option Elab.async false

/-! ### Step 1 of a cancel: the intake or the reservation (R46) -/

theorem State.beforeCancel_lanes (s : State) (l : Lane) (x : Sale) :
    (s.beforeCancel l x).lanes =
      if x.state = .tendering then s.lanes.modify l fun r => { r with binding := .none } else s.lanes := by
  cases state : x.state <;> simp [State.beforeCancel, state, State.unbind]

/-- The plan of a PLANNED sale lapses with its reservation (R74). -/
def Sale.unplan (x : Sale) : Sale :=
  if x.state = .planned then { x with state := .tendered, plan := none, outcome := none } else x

theorem State.beforeCancel_findSale {s : State} {l : Lane} {x : Sale} (found : s.findSale l x.tag = some x) :
    (s.beforeCancel l x).findSale l x.tag = some x.unplan := by
  have unbound : (s.unbind l).findSale l x.tag = s.findSale l x.tag := rfl
  cases state : x.state
  case planned =>
    have lapsed := (s.dropReservation l x.tag).modSale_findSale l l x.tag x.tag
      (f := fun x => { x with state := .tendered, plan := none, outcome := none }) fun _ => rfl
    have found' : (s.dropReservation l x.tag).findSale l x.tag = some x := found
    simpa [State.beforeCancel, state, Sale.unplan, State.lapse, found'] using lapsed
  all_goals simpa [State.beforeCancel, state, Sale.unplan, unbound] using found

theorem State.beforeCancel_reservation {s : State} {l : Lane} {x : Sale} (planned : x.state = .planned) :
    (s.beforeCancel l x).reservationOf l x.tag = none := by
  simpa [State.beforeCancel, planned] using s.lapse_none l x.tag

/-! ### Step 4: the stack (R43, R46) -/

/-- The state after step 4 before any settlement test: an empty stack loses its owner, the return of another begins, and
has ended where the sensor shows empty. -/
def State.unstack (s : State) (l : Lane) (tag : Nat) : State :=
  if (s.escrows.get l).owner = .sale tag then
    if (s.escrows.get l).entries = [] then s.setOwner l .none
    else
      let b := s.setEscrowStatus l (.returning (s.now + Config.returnTimeout))
      if (s.escrows.get l).sensorEmpty = true then b.emptyStack l else b
  else s

theorem endState_endState (st : SaleState) (shortfall : Nat) (busy owns : Bool) :
    endState (endState st shortfall busy owns) shortfall busy owns = endState st shortfall busy owns := by
  cases busy with
  | true => rfl
  | false =>
    cases st with
    | paying => by_cases zero : shortfall = 0 <;> simp [endState, zero]
    | refunding => cases owns <;> rfl
    | _ => rfl

/-- A second settlement test finds nothing new. -/
theorem State.settleTest_settleTest (s : State) (l : Lane) (tag : Nat) :
    (s.settleTest l tag).settleTest l tag = s.settleTest l tag := by
  cases found : s.findSale l tag with
  | none =>
    have same : s.settleTest l tag = s := by simp [State.settleTest, found]
    rw [same, same]
  | some x =>
    have again := State.settleTest_eq (State.settleTest_findSale found) rfl
    have busy : (s.settleTest l tag).busy l tag = s.busy l tag := State.busy_congr (by simp) (by simp) l tag
    rw [again, if_pos]
    simpa only [busy, State.settleTest_keeps] using endState_endState ..

theorem State.returnStack_settled (s : State) (l : Lane) (tag : Nat) :
    (s.returnStack l tag).settleTest l tag = (s.unstack l tag).settleTest l tag := by
  simp only [State.returnStack, State.unstack, List.isEmpty_iff]
  by_cases owner : (s.escrows.get l).owner = .sale tag
  · simp only [if_pos owner]
    by_cases empty : (s.escrows.get l).entries = []
    · simp only [if_pos empty]
    · simp only [if_neg empty]
      cases level : (s.escrows.get l).sensorEmpty with
      | false => simp [State.beginReturn_closed level]
      | true =>
        rw [State.beginReturn_empty level, State.returnSucceeds_sale (tag := tag) (by simpa using owner),
          State.settleTest_settleTest]
        simp
  · simp only [if_neg owner]


section Unstack

variable (s : State) (l : Lane) (tag : Nat)

/-- The return changes the stack, the stray credit that it held, and the dirty set. -/
@[simp] theorem State.unstack_keeps :
    (s.unstack l tag).sales = s.sales ∧ SamePlans s (s.unstack l tag) ∧ (s.unstack l tag).laneJobs = s.laneJobs ∧
      (s.unstack l tag).events = s.events ∧ (s.unstack l tag).lanes.get l.other = s.lanes.get l.other ∧
      (s.unstack l tag).escrows.get l.other = s.escrows.get l.other ∧
      ((s.unstack l tag).lanes.get l).binding = (s.lanes.get l).binding := by
  simp only [State.unstack, State.emptyStack]
  (repeat' split) <;> simp [PerLane.get_modify_other]

/-- The stack after step 4, case by case (R43, R46). -/
theorem State.unstack_escrow :
    ((s.escrows.get l).owner = .sale tag → (s.escrows.get l).entries ≠ [] → (s.escrows.get l).sensorEmpty = false →
        (s.unstack l tag).escrows.get l = { s.escrows.get l with status := .returning (s.now + 3000) }) ∧
      ((s.escrows.get l).owner = .sale tag → (s.escrows.get l).entries ≠ [] → (s.escrows.get l).sensorEmpty = true →
        (s.unstack l tag).escrows.get l = { s.escrows.get l with entries := [], owner := .none, status := .idle }) ∧
      ((s.escrows.get l).owner = .sale tag → (s.escrows.get l).entries = [] →
        (s.unstack l tag).escrows.get l = { s.escrows.get l with owner := .none }) ∧
      ((s.escrows.get l).owner ≠ .sale tag → (s.unstack l tag).escrows.get l = s.escrows.get l) := by
  refine ⟨fun owner notes level => ?_, fun owner notes level => ?_, fun owner none => ?_, fun other => ?_⟩
  · simp [State.unstack, owner, notes, level, Config.returnTimeout]
  · simp [State.unstack, owner, notes, level, State.emptyStack]
  · simp [State.unstack, owner, none]
  · simp [State.unstack, other]

/-- The sale owns its stack after step 4 exactly where a return of its notes is under way. -/
theorem State.unstack_owner_iff :
    ((s.unstack l tag).escrows.get l).owner = .sale tag ↔
      (s.escrows.get l).owner = .sale tag ∧ (s.escrows.get l).entries ≠ [] ∧ (s.escrows.get l).sensorEmpty = false := by
  obtain ⟨begun, ended, none, other⟩ := s.unstack_escrow l tag
  by_cases owner : (s.escrows.get l).owner = .sale tag
  · by_cases empty : (s.escrows.get l).entries = []
    · simp [none owner empty, empty]
    · cases level : (s.escrows.get l).sensorEmpty with
      | false => simp [begun owner empty level, owner, empty]
      | true => simp [ended owner empty level]
  · simp [other owner, owner]

end Unstack

/-! ### The whole cancel (R46) -/

/-- Step 2 of a cancel: the sale refunds its coin value (R46). -/
def Sale.refunding (v : Nat) (x : Sale) : Sale := { x with state := .refunding, refund := some v, refundShortfall := some 0 }

/-- Steps 1 to 4 of a cancel before any settlement test. -/
def State.cancelSteps (s : State) (l : Lane) (x : Sale) : State :=
  ((s.beforeCancel l x).refundSale l x.tag x.coinValue (Sale.refunding x.coinValue)).unstack l x.tag

theorem State.cancelTendered_eq (s : State) (l : Lane) (x : Sale) :
    s.cancelTendered l x = (s.cancelSteps l x).settleTest l x.tag :=
  State.returnStack_settled ..


section CancelSteps

variable {s : State} {l : Lane} {x : Sale}

theorem State.cancelSteps_findSale (found : s.findSale l x.tag = some x) :
    (s.cancelSteps l x).findSale l x.tag = some (x.unplan.refunding x.coinValue) := by
  have refunded := State.refundSale_findSale (State.beforeCancel_findSale found) x.coinValue
    (f := Sale.refunding x.coinValue) fun _ => rfl
  simpa [State.cancelSteps, State.findSale] using refunded

theorem State.cancelSteps_busy (s : State) (l : Lane) (x : Sale) :
    (s.cancelSteps l x).busy l x.tag = (decide (0 < x.coinValue) || s.busy l x.tag) := by
  have before : (s.beforeCancel l x).busy l x.tag = s.busy l x.tag := State.busy_congr (by simp) (by simp) l x.tag
  rw [← before, ← State.refundSale_busy (f := Sale.refunding x.coinValue)]
  exact State.busy_congr (by simp [State.cancelSteps]) (by simp [State.cancelSteps]) l x.tag

@[simp] theorem State.cancelSteps_keeps (s : State) (l : Lane) (x : Sale) :
    (s.cancelSteps l x).events = s.events ∧ (s.cancelSteps l x).lanes.get l.other = s.lanes.get l.other ∧
      (s.cancelSteps l x).escrows.get l.other = s.escrows.get l.other ∧
      (s.cancelSteps l x).reservations = (s.beforeCancel l x).reservations := by
  simp only [State.cancelSteps, State.unstack_keeps, State.refundSale_keeps, State.beforeCancel_keeps,
    State.beforeCancel_lanes, true_and, and_true]
  split
  · exact PerLane.get_modify_other _ l.other_ne _
  · rfl

/-- The unbound intake of a TENDERING sale stays unbound through the cancel (R33, R46). -/
theorem State.cancelSteps_binding (tendering : x.state = .tendering) :
    ((s.cancelSteps l x).lanes.get l).binding = .none := by
  simp [State.cancelSteps, State.beforeCancel_lanes, tendering]

theorem State.cancelSteps_planReqs (fresh : s.hasRequest l x.tag = false) :
    (s.cancelSteps l x).planReqs =
      if 0 < x.coinValue then
        insertReq { lane := l, tag := x.tag, kind := .refund, amount := boundAmount x.coinValue, shielded := false }
          s.planReqs
      else s.planReqs := by
  have before : (s.beforeCancel l x).planReqs = s.planReqs := by simp
  obtain ⟨zero, requested, -⟩ :=
    (s.beforeCancel l x).refundSale_planReqs l x.tag x.coinValue (Sale.refunding x.coinValue)
  simp only [State.cancelSteps, State.unstack_keeps]
  by_cases pos : 0 < x.coinValue
  · rw [if_pos pos, requested pos (by simpa [State.hasRequest] using fresh), before]
  · rw [if_neg pos, zero (by omega), before]

/-- The stack after a cancel is what step 4 leaves of it. -/
theorem State.cancelSteps_escrow (s : State) (l : Lane) (x : Sale) :
    ((s.escrows.get l).owner = .sale x.tag → (s.escrows.get l).entries ≠ [] → (s.escrows.get l).sensorEmpty = false →
        (s.cancelSteps l x).escrows.get l = { s.escrows.get l with status := .returning (s.now + 3000) }) ∧
      ((s.escrows.get l).owner = .sale x.tag → (s.escrows.get l).entries ≠ [] → (s.escrows.get l).sensorEmpty = true →
        (s.cancelSteps l x).escrows.get l = { s.escrows.get l with entries := [], owner := .none, status := .idle }) ∧
      ((s.escrows.get l).owner = .sale x.tag → (s.escrows.get l).entries = [] →
        (s.cancelSteps l x).escrows.get l = { s.escrows.get l with owner := .none }) ∧
      ((s.escrows.get l).owner ≠ .sale x.tag → (s.cancelSteps l x).escrows.get l = s.escrows.get l) := by
  rw [State.cancelSteps]
  have step := ((s.beforeCancel l x).refundSale l x.tag x.coinValue (Sale.refunding x.coinValue)).unstack_escrow l x.tag
  simpa only [State.refundSale_keeps, State.beforeCancel_keeps] using step

/-- The sale keeps its stack where it has notes and the sensor does not show empty. -/
def State.ownsNotes (s : State) (l : Lane) (tag : Nat) : Bool :=
  decide ((s.escrows.get l).owner = .sale tag ∧ (s.escrows.get l).entries ≠ [] ∧ (s.escrows.get l).sensorEmpty = false)

theorem State.cancelSteps_owner (s : State) (l : Lane) (x : Sale) :
    decide (((s.cancelSteps l x).escrows.get l).owner = .sale x.tag) = s.ownsNotes l x.tag := by
  have owner :=
    ((s.beforeCancel l x).refundSale l x.tag x.coinValue (Sale.refunding x.coinValue)).unstack_owner_iff l x.tag
  simp only [State.refundSale_keeps, State.beforeCancel_keeps] at owner
  exact decide_eq_decide.mpr owner

/-- The sale and the events after a cancel: the sale is CANCELLED at once where it waits for nothing (R43, R47). -/
theorem State.cancelTendered_sale (found : s.findSale l x.tag = some x) {st : SaleState}
    (ends : st = endState .refunding x.shortfall (decide (0 < x.coinValue) || s.busy l x.tag) (s.ownsNotes l x.tag)) :
    (s.cancelTendered l x).findSale l x.tag = some { x.unplan.refunding x.coinValue with state := st } ∧
      (s.cancelTendered l x).events =
        if st = .refunding then s.events else s.events.set l.port { s.events.get l.port with
          finished := pushLast (s.events.get l.port).finished (x.tag, st) } := by
  have shortfall : x.unplan.shortfall = x.shortfall := by simp only [Sale.unplan]; split <;> rfl
  have found' := State.cancelSteps_findSale found
  have ends' : st = endState (x.unplan.refunding x.coinValue).state (x.unplan.refunding x.coinValue).shortfall
      ((s.cancelSteps l x).busy l x.tag) (decide (((s.cancelSteps l x).escrows.get l).owner = .sale x.tag)) := by
    rw [State.cancelSteps_busy, State.cancelSteps_owner, ends, ← shortfall]
    rfl
  rw [State.cancelTendered_eq]
  refine ⟨by rw [State.settleTest_findSale found', ends'], ?_⟩
  rw [State.settleTest_events found' ends', (State.cancelSteps_keeps ..).1]
  rfl

/-- A REFUNDING sale that the settlement test finishes is CANCELLED (R47, R110). -/
theorem endState_refunding (shortfall : Nat) (busy owns : Bool) :
    endState .refunding shortfall busy owns = if busy || owns then .refunding else .cancelled := by
  cases busy <;> cases owns <;> rfl

end CancelSteps

/-! ### CANCEL -/

/-- CANCEL of a sale of the lane at its ready port (R46). -/
theorem exec_cancel {s : State} {p : Port} {l : Lane} {tag : Nat} {x : Sale} (hl : p.lane = some l) (h : Ready s p)
    (found : s.findSale l tag = some x) :
    exec (.cancel p tag) s =
      .next
        (match x.state with
        | .waiting => ((s.setOutstanding p Command.cancel.byte).finishSale l tag .cancelled).answer p .cancel []
        | .tendering | .tendered | .planned =>
          ((s.replied p .cancel []).cancelTendered l x).conclude false
            (if x.state = .planned then s.leaving l tag else []) []
        | _ => s.refusedWith p .cancel .state) :=
  saleRequest_run hl h (c := .cancel) rfl found _

theorem exec_cancel_served {s : State} {p : Port} {l : Lane} {tag : Nat} {x : Sale} (hl : p.lane = some l)
    (h : Ready s p) (found : s.findSale l tag = some x)
    (served : x.state = .tendering ∨ x.state = .tendered ∨ x.state = .planned) :
    exec (.cancel p tag) s =
      .next (((s.replied p .cancel []).cancelTendered l x).conclude false
        (if x.state = .planned then s.leaving l tag else []) []) := by
  rw [exec_cancel hl h found]
  rcases served with state | state | state <;> simp only [state]

/-- Settles O10: the steps of R46 in their order, up to one settlement test, which ends a sale that waits for nothing. -/
theorem cancel : Obligations.Cancel := by
  unfold Obligations.Cancel
  intro p l tag s hl h
  refine ⟨fun missing => saleRequest_noSale hl h (c := .cancel) rfl missing _, fun x found => ?_⟩
  obtain rfl : x.tag = tag := State.findSale_tag found
  refine ⟨fun waiting tendering tendered planned => ?_, fun waiting => ?_, fun served => ?_⟩
  · rw [exec_cancel hl h found]
    cases state : x.state <;> simp_all
  · rw [exec_cancel hl h found, waiting]
    rfl
  · rw [exec_cancel_served hl h found served, State.replied_ports]
    generalize (s.replied p .cancel []).ports = ports
    let r : State := { s with ports := ports }
    obtain ⟨found', events⟩ := State.cancelTendered_sale (s := r) found rfl
    obtain ⟨begun, ended, none, other⟩ := r.cancelSteps_escrow l x
    have settled := r.cancelTendered_eq l x
    refine ⟨r.cancelTendered l x, _, rfl, ?_, ?_, ?_, ?_, ?_, ?_, ?_, ?_, ?_, ?_, ?otherLane, ?otherEscrow,
      ?_, found', rfl, rfl, ?plan, ?waits,
       ?event, ?cancelled, ?binding, ?reservation, ?requests, ?begun, ?ended, ?none, ?other⟩
    case plan =>
      simp only [Sale.refunding, Sale.unplan]
      split <;> rfl
    case waits =>
      intro waits
      refine (endState_refunding x.shortfall ..).trans (if_pos ?_)
      rcases waits with pos | owns
      · simp [pos]
      · simp [State.ownsNotes, r, owns]
    case event =>
      rw [events]
      simp only [endState_refunding]
      split <;> simp [r]
    case cancelled =>
      intro coin requests jobs free
      have idle : r.busy l x.tag = false := Bool.or_eq_false_iff.mpr ⟨jobs, requests⟩
      have alone : r.ownsNotes l x.tag = false := by
        refine decide_eq_false fun ⟨owner, notes, level⟩ => ?_
        rcases free with other | empty | shown
        · exact other owner
        · exact notes empty
        · simp [r, shown] at level
      exact (endState_refunding x.shortfall ..).trans (if_neg (by simp [coin, idle, alone]))
    case binding =>
      intro tendering
      simpa [settled] using State.cancelSteps_binding (s := r) (l := l) tendering
    case reservation =>
      intro planned
      have dropped := State.beforeCancel_reservation (s := r) (l := l) planned
      simpa [State.reservationOf, settled] using dropped
    case requests =>
      intro fresh
      rw [settled]
      simpa using State.cancelSteps_planReqs (s := r) fresh
    case begun => simpa [settled] using begun
    case ended => simpa [settled] using ended
    case none => simpa [settled] using none
    case other => simpa [settled] using other
    case otherLane => simp [settled, r]
    case otherEscrow => simp [settled, r]
    all_goals simp [r]

end Sys2Proof.Machine
end

section
/-! SUPPORT. QUOTE (R33, R36, R49, R50, R84). -/

namespace Sys2Proof.Machine

-- One proof after the other: many short proofs at once take more threads than the check's memory limit has room for.
set_option Elab.async false

/-! ### What the close of an event leaves (R97) -/

theorem State.grantStackDown_owner (s : State) (j : Job) (l : Lane) :
    ((s.grantStackDown j).escrows.get l).owner = (s.escrows.get l).owner := by
  cases source : j.source with
  | unit u => simp [State.grantStackDown, source]
  | escrow m =>
    cases top : s.topRoute m with
    | none => simp [State.grantStackDown, source, top]
    | some r =>
      simp only [State.grantStackDown, source, top, State.modEscrow_escrows, PerLane.get_modify]
      split
      next same => simp [same]
      · simp

/-- A grant marks a note in transit; the stack stays with its owner. -/
@[simp] theorem State.arbitrate_owner (s : State) (k : Kind) (l : Lane) :
    ((s.arbitrate k).escrows.get l).owner = (s.escrows.get l).owner := by
  have granted : ((s.grantFirst k).escrows.get l).owner = (s.escrows.get l).owner := by
    simp only [State.grantFirst]
    split
    · exact s.grantStackDown_owner ..
    · (repeat' split) <;> simp
  simp only [State.arbitrate]
  split
  · rfl
  · split
    · exact granted
    all_goals rfl

/-- An event that ends without a fall of backing withdraws no plan (R76, R97). -/
theorem State.conclude_still (s : State) (left : List Reservation) (stored : List UnitId) :
    (s.conclude false left stored).sales = s.sales ∧ (s.conclude false left stored).reservations = s.reservations ∧
      ∀ l, ((s.conclude false left stored).escrows.get l).owner = (s.escrows.get l).owner := by
  simp [State.conclude, State.settleEvent]

/-! ### What QUOTE does before its request is placed (R33, R36) -/

/-- The record of a sale whose tender has closed, or whose plan has lapsed. -/
def Sale.requoted (x : Sale) : Sale :=
  match x.state with
  | .planned => { x with state := .tendered, plan := none, outcome := none }
  | _ => { x with state := .tendered }

theorem State.modSale_found {s : State} {l : Lane} {tag : Nat} {x : Sale} (found : s.findSale l tag = some x)
    {f : Sale → Sale} (keeps : ∀ y, (f y).tag = y.tag) : (s.modSale l tag f).findSale l tag = some (f x) :=
  (s.modSale_findSale l l tag tag (f := f) keeps).trans (by simp [found])

theorem State.closeTender_findSale {s : State} {l : Lane} {tag : Nat} {x : Sale} (found : s.findSale l tag = some x) :
    (s.closeTender l tag).findSale l tag = some { x with state := .tendered } := by
  refine State.modSale_found ?_ fun _ => rfl
  split
  · simpa [State.findSale, State.unbind] using found
  · exact found

theorem State.beforeQuote_findSale {s : State} {l : Lane} {x : Sale} (found : s.findSale l x.tag = some x)
    (served : x.state = .tendering ∨ x.state = .tendered ∨ x.state = .planned) :
    (s.beforeQuote l x).findSale l x.tag = some x.requoted := by
  rcases served with state | state | state
  · simpa [State.beforeQuote, Sale.requoted, state] using State.closeTender_findSale found
  · have same : x.requoted = x := by
      cases x
      simp only at state
      subst state
      rfl
    simpa [State.beforeQuote, state, same] using found
  · have found' : (s.dropReservation l x.tag).findSale l x.tag = some x := found
    have lapsed := State.modSale_found found' (f := fun x => { x with state := .tendered, plan := none, outcome := none })
      fun _ => rfl
    simpa [State.beforeQuote, state, Sale.requoted, State.lapse] using lapsed

theorem State.beforeQuote_reservations (s : State) (l : Lane) (x : Sale) :
    (s.beforeQuote l x).reservations =
      if x.state = .planned then s.reservations.filter fun r => !(decide (r.lane = l) && decide (r.tag = x.tag))
      else s.reservations := by
  cases state : x.state <;> simp [State.beforeQuote, state, State.lapse, State.dropReservation]

/-- A tender that closes unbinds the intake, and an empty stack loses its owner (R33, R36). -/
theorem State.beforeQuote_closes {s : State} {l : Lane} {x : Sale} (tendering : x.state = .tendering) :
    ((s.beforeQuote l x).lanes.get l).binding = .none ∧
      ((s.escrows.get l).entries = [] → ((s.beforeQuote l x).escrows.get l).owner = .none) := by
  simp only [State.beforeQuote, tendering, State.closeTender]
  refine ⟨?_, fun empty => ?_⟩
  · split <;> simp [State.unbind]
  · simp [State.unbind, empty]

/-- A QUOTE request ranks last, so it stands at the tail of the whole list (R50). -/
theorem insertReq_quote {r : PlanReq} (quote : r.kind = .quote) (rs : List PlanReq) : insertReq r rs = rs ++ [r] := by
  induction rs with
  | nil => rfl
  | cons x xs ih =>
    have last : ¬ r.kind.rank < x.kind.rank := by
      rw [quote]
      cases x.kind <;> decide
    rw [insertReq, if_neg last, ih]
    rfl

/-! ### QUOTE -/

/-- QUOTE at its ready port: its checks in their order, then the request that the searcher will take (R36). -/
theorem exec_quote {s : State} {p : Port} {l : Lane} {tag : Nat} {x : Sale} (hl : p.lane = some l) (h : Ready s p)
    (found : s.findSale l tag = some x) :
    exec (.quote p tag) s =
      .next
        (if !(decide (x.state = .tendering) || decide (x.state = .tendered) || decide (x.state = .planned)) then
          s.refusedWith p .quote .state
        else if x.state = .tendering ∧ x.tendered < x.due then s.refusedWith p .quote .underpaid
        else
          ((((s.setOutstanding p Command.quote.byte).beforeQuote l x).clearNeedOf l tag).placeRequest l tag .quote
            (x.change.getD 0)).conclude false (if x.state = .planned then s.leaving l tag else []) []) :=
  saleRequest_run hl h (c := .quote) rfl found _

/-- Settles O6: what the sale was is given up first, then its request is placed, and the close of the event leaves both. -/
theorem quote : Obligations.Quote := by
  unfold Obligations.Quote
  refine ⟨fun p l tag s hl h => ⟨fun missing => saleRequest_noSale hl h (c := .quote) rfl missing _, fun x found =>
    ⟨fun tendering tendered planned => ?_, fun tendering short => ?_⟩⟩, fun p l tag s x hl h found fresh served => ?_⟩
  · rw [exec_quote hl h found, if_pos (by simp [tendering, tendered, planned])]
  · rw [exec_quote hl h found, if_neg (by simp [tendering]), if_pos ⟨tendering, short⟩]
  · obtain rfl : x.tag = tag := State.findSale_tag found
    have taken :
        ¬ (!(decide (x.state = .tendering) || decide (x.state = .tendered) || decide (x.state = .planned))) = true := by
      rcases served with ⟨state, -⟩ | state | state <;> simp [state]
    have paid : ¬ (x.state = .tendering ∧ x.tendered < x.due) := fun ⟨tendering, short⟩ => by
      rcases served with ⟨-, enough⟩ | state | state
      · exact Nat.not_le.mpr short enough
      · simp [state] at tendering
      · simp [state] at tendering
    rw [exec_quote hl h found, if_neg taken, if_neg paid]
    let r : State := s.setOutstanding p Command.quote.byte
    let q : State := ((r.beforeQuote l x).clearNeedOf l x.tag).placeRequest l x.tag .quote (x.change.getD 0)
    obtain ⟨sales, reservations, owner⟩ := q.conclude_still (if x.state = .planned then s.leaving l x.tag else []) []
    have requoted : q.findSale l x.tag = some x.requoted := by
      have before := State.beforeQuote_findSale (s := r) found (served.imp_left And.left)
      simpa [q, State.findSale] using before
    refine ⟨q.conclude false (if x.state = .planned then s.leaving l x.tag else []) [], rfl, ⟨x.requoted, ?_, ?_⟩, ?_, ?_,
      fun tendering => ?_, fun tendering empty => ?_, ?_, ?_, ?_⟩
    · simpa [State.findSale, sales] using requoted
    · rcases served with ⟨state, -⟩ | state | state <;> simp [Sale.requoted, state]
    · have fresh' : ((r.beforeQuote l x).clearNeedOf l x.tag).hasRequest l x.tag = false := by
        simpa [State.hasRequest, r] using fresh
      have placed := State.placeRequest_fresh fresh' .quote (x.change.getD 0)
      rw [insertReq_quote rfl] at placed
      simpa [q, r] using placed
    · rw [reservations]
      simpa [q, r] using r.beforeQuote_reservations l x
    · obtain ⟨unbound, -⟩ := State.beforeQuote_closes (s := r) (l := l) tendering
      simp only [State.conclude_keeps, State.placeRequest_keeps, State.clearNeedOf_eq, q]
      split <;> simpa using unbound
    · obtain ⟨-, released⟩ := State.beforeQuote_closes (s := r) (l := l) tendering
      rw [owner]
      simpa [q] using released empty
    · simp only [State.conclude_keeps, State.placeRequest_keeps, State.clearNeedOf_eq, q]
      split
      · simp
      next other => exact other
    · simp [q, r, State.setOutstanding, PerPort.modify]
    · simp [q, r]

end Sys2Proof.Machine
end

section
/-! SUPPORT. NOTE_PIECE_REPORT (R35, R38, R40, R42, R144, R180). -/

namespace Sys2Proof.Machine

-- One proof after the other: many short proofs at once take more threads than the check's memory limit has room for.
set_option Elab.async false

/-! ### A note on the stack, before its credit (R40, R180) -/

/-- The credit of a note by the head's binding (R40). -/
def State.noteCredit (s : State) (l : Lane) : Credit :=
  match (s.lanes.get l).binding with
  | .sale _ => .sale
  | .floatIn => .floatIn
  | .none => .stray

/-- The state once a note is counted and lies on the stack, before what its binding makes of it. -/
def State.stackNote (s : State) (l : Lane) (d : Slot) : State := (s.samplePieceIn l d).pushNote l d (s.noteCredit l)

section StackNote

variable (s : State) (l : Lane) (d : Slot)

@[simp] theorem State.stackNote_keeps :
    SameQueue s (s.stackNote l d) ∧ SameClock s (s.stackNote l d) ∧ SameConfig s (s.stackNote l d) ∧
      (s.stackNote l d).lanes = s.lanes ∧ (s.stackNote l d).sales = s.sales ∧ SameJobs s (s.stackNote l d) ∧
      (s.stackNote l d).tallies = s.tallies := by
  simp [State.stackNote]

@[simp] theorem State.stackNote_escrows :
    (s.stackNote l d).escrows = s.escrows.modify l fun e =>
      { e with
        entries := e.entries ++ [{ slot := d, credit := s.noteCredit l, inTransit := false }]
        sensorEmpty := false } := by
  simp [State.stackNote]

theorem State.stackNote_events : (s.stackNote l d).events.get l.port = s.events.get l.port := by
  simpa [State.stackNote, State.samplePieceIn] using s.sample_events _ (lanePort_ne_sp l)

theorem State.stackNote_saw :
    Saw s (s.stackNote l d) [{ kind := .pieceIn, lane := .lane l, slots := some (slotBit d), value := 1 }] := by
  intro n
  simp [State.stackNote, State.samplePieceIn]

theorem State.stackNote_findSale (tag : Nat) : (s.stackNote l d).findSale l tag = s.findSale l tag := by
  simp [State.findSale]

/-- What a taken note does: it is counted, and lies on the stack with what its binding makes of it. -/
def State.noteTaken : State := (s.samplePieceIn l d).takeNote l d

end StackNote

/-! ### What a taken note does, by the head's binding (R35, R40, R144) -/

section NoteTaken

variable {s : State} {l : Lane} {d : Slot}

theorem State.noteTaken_sale {tag : Nat} (binding : (s.lanes.get l).binding = .sale tag) :
    s.noteTaken l d = (s.stackNote l d).creditSale l tag .note (s.denoms.get d).value := by
  simp [State.noteTaken, State.takeNote, State.stackNote, State.noteCredit, binding, State.slotValue]

theorem State.noteTaken_floatIn (binding : (s.lanes.get l).binding = .floatIn) :
    s.noteTaken l d = ((s.stackNote l d).tallyPiece l d).joinStackDown l := by
  simp [State.noteTaken, State.takeNote, State.stackNote, State.noteCredit, binding]

theorem State.noteTaken_stray (binding : (s.lanes.get l).binding = .none) (owner : (s.escrows.get l).owner = .none) :
    s.noteTaken l d =
      (((s.stackNote l d).setOwner l .stray).placeStackDown l).addStray l (s.denoms.get d).value := by
  simp [State.noteTaken, State.takeNote, State.stackNote, State.noteCredit, binding, owner, State.slotValue]

theorem State.noteTaken_owned (binding : (s.lanes.get l).binding = .none) (owner : (s.escrows.get l).owner ≠ .none) :
    s.noteTaken l d = ((s.stackNote l d).growStackDown l).addStray l (s.denoms.get d).value := by
  simp [State.noteTaken, State.takeNote, State.stackNote, State.noteCredit, binding, owner, State.slotValue]

@[simp] theorem State.joinStackDown_none {t : State} (none : t.stackJobOf l = none) :
    t.joinStackDown l = t.placeStackDown l := by
  simp [State.joinStackDown, none]

@[simp] theorem State.joinStackDown_some {t : State} (some : t.stackJobOf l ≠ none) :
    t.joinStackDown l = t.growStackDown l := by
  obtain ⟨j, found⟩ := Option.ne_none_iff_exists'.mp some
  simp [State.joinStackDown, found]

/-- The note lies on top; a stray note on a stack without an owner makes it a STRAY one; the other stack stays (R40). -/
theorem State.noteTaken_escrows (s : State) (l : Lane) (d : Slot) :
    (s.noteTaken l d).escrows = s.escrows.set l
      { s.escrows.get l with
        entries := (s.escrows.get l).entries ++ [{ slot := d, credit := s.noteCredit l, inTransit := false }]
        owner :=
          if (s.lanes.get l).binding = .none ∧ (s.escrows.get l).owner = .none then .stray else (s.escrows.get l).owner
        sensorEmpty := false } := by
  cases binding : (s.lanes.get l).binding with
  | sale tag => simp [State.noteTaken_sale binding, PerLane.modify]
  | floatIn => simp [State.noteTaken_floatIn binding, PerLane.modify]
  | none =>
    by_cases owner : (s.escrows.get l).owner = .none
    · simp [State.noteTaken_stray binding owner, PerLane.modify, owner]
    · simp [State.noteTaken_owned binding owner, PerLane.modify, owner]

theorem State.noteTaken_saw (s : State) (l : Lane) (d : Slot) :
    Saw s (s.noteTaken l d) [{ kind := .pieceIn, lane := .lane l, slots := some (slotBit d), value := 1 }] := by
  intro n
  simp [State.noteTaken, State.samplePieceIn]

theorem State.placeStackDown_job (t : State) (l : Lane) : ∃ j,
    (t.placeStackDown l).stackJobs = (t.stackJobs.filter fun i => decide (i.source ≠ .escrow l)) ++ [j] ∧
      j.origin = .stackDown ∧ j.source = .escrow l ∧ j.ordered = (t.escrows.get l).entries.length ∧ j.done = 0 ∧
        j.dest = .routed :=
  ⟨_, rfl, rfl, rfl, rfl, rfl, rfl⟩

theorem State.stackJobOf_stackNote (s : State) (l : Lane) (d : Slot) :
    ((s.stackNote l d).tallyPiece l d).stackJobOf l = s.stackJobOf l := by
  simp [State.stackJobOf]

/-- A float-in note or a stray one that finds no class 0 job of its stack has one placed (R42, R144). -/
theorem State.noteTaken_places
    (first : (s.lanes.get l).binding = .floatIn ∧ s.stackJobOf l = none ∨
      (s.lanes.get l).binding = .none ∧ (s.escrows.get l).owner = .none) :
    ∃ j, (s.noteTaken l d).stackJobs = (s.stackJobs.filter fun i => decide (i.source ≠ .escrow l)) ++ [j] ∧
      j.origin = .stackDown ∧ j.source = .escrow l ∧ j.ordered = (s.escrows.get l).entries.length + 1 ∧ j.done = 0 ∧
        j.dest = .routed := by
  rcases first with ⟨binding, none⟩ | ⟨binding, owner⟩
  · have placed := ((s.stackNote l d).tallyPiece l d).placeStackDown_job l
    rw [State.noteTaken_floatIn binding, State.joinStackDown_none (by rwa [State.stackJobOf_stackNote])]
    simpa using placed
  · have placed := ((s.stackNote l d).setOwner l .stray).placeStackDown_job l
    rw [State.noteTaken_stray binding owner]
    simpa using placed

theorem State.noteTaken_grows
    (next : (s.lanes.get l).binding = .floatIn ∧ s.stackJobOf l ≠ none ∨
      (s.lanes.get l).binding = .none ∧ (s.escrows.get l).owner ≠ .none) :
    (s.noteTaken l d).stackJobs = s.stackJobs.map fun j =>
      if j.source = .escrow l then { j with ordered := j.ordered + 1 } else j := by
  rcases next with ⟨binding, some⟩ | ⟨binding, owner⟩
  · rw [State.noteTaken_floatIn binding, State.joinStackDown_some (by rwa [State.stackJobOf_stackNote])]
    simp [State.growStackDown]
  · rw [State.noteTaken_owned binding owner]
    simp [State.growStackDown]

/-- A stray note leaves sales and tallies, and raises the stray credit by its value (R38, R145). -/
theorem State.noteTaken_rise (binding : (s.lanes.get l).binding = .none) :
    (s.noteTaken l d).sales = s.sales ∧ (s.noteTaken l d).tallies = s.tallies ∧
      StrayRise s (s.noteTaken l d) l (s.denoms.get d).value := by
  by_cases owner : (s.escrows.get l).owner = .none
  · rw [State.noteTaken_stray binding owner]
    exact ⟨by simp, by simp, .of_same (State.addStray_rise _ l _) (by simp) (by simpa using s.stackNote_events l d)⟩
  · rw [State.noteTaken_owned binding owner]
    exact ⟨by simp, by simp, .of_same (State.addStray_rise _ l _) (by simp) (by simpa using s.stackNote_events l d)⟩

/-- The lane's queue and the service queue take no part in a note's way in. -/
theorem State.noteTaken_jobs (s : State) (l : Lane) (d : Slot) :
    (s.noteTaken l d).laneJobs = s.laneJobs ∧ (s.noteTaken l d).serviceJobs = s.serviceJobs := by
  cases binding : (s.lanes.get l).binding with
  | sale tag => simp [State.noteTaken_sale binding]
  | floatIn =>
    rw [State.noteTaken_floatIn binding, State.joinStackDown]
    split <;> simp
  | none =>
    by_cases owner : (s.escrows.get l).owner = .none
    · simp [State.noteTaken_stray binding owner]
    · simp [State.noteTaken_owned binding owner]

end NoteTaken

/-! ### The report -/

theorem Escrow.takesNote_iff (e : Escrow) :
    e.takesNote = true ↔ (∀ ends, e.status ≠ .returning ends) ∧ e.entries.length < 8 := by
  rw [Escrow.takesNote, Bool.and_eq_true, decide_eq_true_iff]
  refine and_congr ?_ Iff.rfl
  cases e.status <;> simp

theorem exec_notePieceReport {s : State} (running : s.Running) (l : Lane) (d : Slot) :
    exec (.notePieceReport l d) s =
      .next
        (if s.taken .note d && (s.escrows.get l).takesNote then (s.noteTaken l d).conclude false [] [] else s) := by
  have run : exec (.notePieceReport l d) s = execNotePieceReport l d s := rfl
  rw [run, execNotePieceReport, State.firstEvent_running running, takeNotePieceReport, State.whenPowered, if_pos running.1]
  rfl

/-- Settles O34: the note is counted and stacked, then its binding and its owner decide, each by its own lemmas. -/
theorem noteReport : Obligations.NoteReport := by
  unfold Obligations.NoteReport
  intro l d s running e taken
  have htaken : (s.taken .note d && (s.escrows.get l).takesNote) = true ↔ taken := by
    rw [Bool.and_eq_true, s.taken_iff, Escrow.takesNote_iff]
    exact and_assoc
  have rise {t : State} {v : Nat} (h : StrayRise (s.stackNote l d) t l v) : StrayRise s t l v :=
    h.of_same (by simp) (s.stackNote_events l d)
  have found' {tag : Nat} {x : Sale} (found : s.findSale l tag = some x) : (s.stackNote l d).findSale l tag = some x :=
    (s.stackNote_findSale l d tag).trans found
  let v := (s.denoms.get d).value
  rw [exec_notePieceReport running]
  refine ⟨fun not => by rw [if_neg (fun h => not (htaken.mp h))], fun is => ?_⟩
  rw [if_pos (htaken.mpr is)]
  have escrows := s.noteTaken_escrows l d
  obtain ⟨laneJobs, serviceJobs⟩ := s.noteTaken_jobs l d
  refine ⟨s.noteTaken l d, s.noteCredit l, rfl, by simp [escrows, e], s.noteTaken_saw l d, by simp [escrows, e],
    by simp [escrows, PerLane.get_set_other], fun tag binding => ⟨?_, ?_, ?_, ?_, fun x found fits => ?_⟩,
    fun tag x binding found bound => ?_, fun binding => ?_, fun binding => ?_, fun placed => ?_, fun grown => ?_, ?_⟩
  · simp [State.noteCredit, binding]
  · simp [escrows, e, binding]
  · simp [State.noteTaken_sale binding]
  · simp [State.noteTaken_sale binding]
  · obtain ⟨-, still⟩ := State.creditSale_rise (found' found) .note v (by simp only [Sale.tendered]; omega)
    have whole : x.taking v = v := by simp only [Sale.taking, Sale.tendered]; omega
    refine ⟨x.raised .note v, ?_, rfl, rfl, ?_⟩
    · rw [State.noteTaken_sale binding, State.creditSale_findSale (found' found), whole]
    · rw [State.noteTaken_sale binding, still fits]
      simp
  · obtain ⟨excess, -⟩ := State.creditSale_rise (found' found) .note v bound
    refine ⟨x.raised .note (x.taking v), ?_, rfl, ?_, rfl, rfl, rfl, ?_⟩
    · rw [State.noteTaken_sale binding, State.creditSale_findSale (found' found)]
    · have sum : (x.raised .note (x.taking v)).coinValue + (x.raised .note (x.taking v)).noteValue =
          x.coinValue + (x.noteValue + x.taking v) := rfl
      rw [sum]
      simp only [Sale.taking, Sale.tendered, v]
      omega
    · rw [State.noteTaken_sale binding]
      exact rise excess
  · have events : (s.noteTaken l d).events.get l.port = s.events.get l.port := by
      rw [State.noteTaken_floatIn binding]
      simpa using s.stackNote_events l d
    refine ⟨by simp [State.noteCredit, binding], by simp [escrows, e, binding], ?_, ?_, .zero ?_ events, ?_⟩
    all_goals rw [State.noteTaken_floatIn binding]
    · simp
    · simp
    · simp
    · simp [State.tallyPiece, PerLane.modify, Twelve.modify]
  · obtain ⟨sales, tallies, raised⟩ := State.noteTaken_rise (d := d) binding
    refine ⟨by simp [State.noteCredit, binding], by simp [escrows, e, binding], sales, tallies, raised, fun bound => ?_⟩
    obtain ⟨lanes, -⟩ := raised bound
    simp [lanes]
  · exact State.noteTaken_places placed
  · exact State.noteTaken_grows grown
  · refine ⟨?_, ?_, laneJobs, serviceJobs, ?_⟩ <;> simp [State.noteTaken]

end Sys2Proof.Machine
end

section
/-! SUPPORT. The step: the front of the queue, or a tick (R43, R73, R112, R155, R166, R169). -/

namespace Sys2Proof.Machine

-- One proof after the other: many short proofs at once take more threads than the check's memory limit has room for.
set_option Elab.async false

/-! ### The rows that are due -/

section Due

variable (s : State) (i : Instr)

theorem State.mem_dueHolds :
    i ∈ s.dueHolds ↔ ∃ r ∈ s.reservations, r.ends ≤ s.now ∧ i = .holdTimerExpiry r.lane r.tag := by
  simp [State.dueHolds, and_assoc, eq_comm]

theorem State.ejection_iff (k : Kind) (e : Ejection) :
    s.ejection k = some e ↔ (s.mechs.get k).phase = .ejecting e := by
  cases phase : (s.mechs.get k).phase <;> simp [State.ejection, phase]

theorem State.mem_dueEject (k : Kind) :
    i ∈ s.dueEject k ↔ ∃ e, (s.mechs.get k).phase = .ejecting e ∧ e.ends ≤ s.now ∧ i = .ejectTimeout k := by
  simp only [← s.ejection_iff, State.dueEject]
  cases s.ejection k with
  | none => simp
  | some e => by_cases due : e.ends ≤ s.now <;> simp [due]

theorem State.mem_dueReturn (l : Lane) :
    i ∈ s.dueReturn l ↔ ∃ ends, (s.escrows.get l).status = .returning ends ∧ ends ≤ s.now ∧ i = .returnTimeout l := by
  cases status : (s.escrows.get l).status with
  | returning ends => by_cases due : ends ≤ s.now <;> simp [State.dueReturn, status, due]
  | idle | fault => simp [State.dueReturn, status]

theorem State.mem_duePause (p : Port) :
    i ∈ s.duePause p ↔
      (s.ports.get p).receiver ≠ .hunt ∧ (s.ports.get p).lastByteAt + 11 ≤ s.now ∧ i = .interByteTimeout p := by
  have ends : (s.ports.get p).pauseEnds = (s.ports.get p).lastByteAt + 11 := rfl
  simp only [State.duePause, ends]
  split
  next due => simp [due]
  next early => simpa using fun open' ended => absurd ⟨open', ended⟩ early

theorem State.mem_dueSent (p : Port) :
    i ∈ s.dueSent p ↔ (s.ports.get p).sending ≠ none ∧ (s.ports.get p).sendEnds ≤ s.now ∧ i = .replySent p := by
  simp only [State.dueSent, Bool.and_eq_true, Option.isSome_iff_ne_none, decide_eq_true_eq]
  split
  next due => simp [due]
  next early => simpa using fun sending ended => absurd ⟨sending, ended⟩ early

theorem State.eligible_iff (r : RecordNo) :
    s.eligible r = true ↔ ∃ e ∈ s.dirty, e.1 = r ∧ (s.pfw = true ∨ e.2 + 200 ≤ s.now) := by
  simp only [State.eligible, List.any_eq_true, Bool.and_eq_true, Bool.or_eq_true, decide_eq_true_eq]
  rfl

/-- The writer finds a record exactly where one is eligible, wherever its scan stands (R155). -/
theorem State.nextRecord_isSome_iff :
    s.nextRecord.isSome = true ↔ ∃ e ∈ s.dirty, s.pfw = true ∨ e.2 + 200 ≤ s.now := by
  have any : s.nextRecord.isSome = true ↔ ∃ r, s.eligible r = true := by
    have first : (allRecords.find? fun r => s.eligible r).isSome = true ↔ ∃ r, s.eligible r = true := by
      simp [List.find?_isSome, mem_allRecords]
    simp only [State.nextRecord]
    split
    next r found =>
      have eligible := List.find?_some found
      rw [Bool.and_eq_true] at eligible
      exact iff_of_true rfl ⟨r, eligible.2⟩
    · exact first
  simp only [any, s.eligible_iff]
  exact ⟨fun ⟨_, e, he, _, h⟩ => ⟨e, he, h⟩, fun ⟨e, he, h⟩ => ⟨e.1, e, he, rfl, h⟩⟩

theorem State.mem_dueWrite :
    i ∈ s.dueWrite ↔
      s.writer = .idle ∧ (∃ e ∈ s.dirty, s.pfw = true ∨ e.2 + 200 ≤ s.now) ∧ i = .writeBegin := by
  rw [← s.nextRecord_isSome_iff]
  cases writer : s.writer with
  | idle => cases next : s.nextRecord <;> simp [State.dueWrite, writer, next]
  | writing image => simp [State.dueWrite, writer]

theorem State.mem_duePlan : i ∈ s.duePlan ↔ s.planReqs ≠ [] ∧ i = .planRequestTaken := by
  cases reqs : s.planReqs <;> simp [State.duePlan, reqs]

end Due

/-- The rows of a supplied block that are due, each with its own timer. -/
theorem State.mem_dueCommands {s : State} (powered : s.powered = true) (i : Instr) :
    i ∈ s.dueCommands ↔
      (∃ r ∈ s.reservations, r.ends ≤ s.now ∧ i = .holdTimerExpiry r.lane r.tag) ∨
        (∃ k e, (s.mechs.get k).phase = .ejecting e ∧ e.ends ≤ s.now ∧ i = .ejectTimeout k) ∨
        (∃ l ends, (s.escrows.get l).status = .returning ends ∧ ends ≤ s.now ∧ i = .returnTimeout l) ∨
        (∃ p, (s.ports.get p).receiver ≠ .hunt ∧ (s.ports.get p).lastByteAt + 11 ≤ s.now ∧ i = .interByteTimeout p) ∨
        (∃ p, (s.ports.get p).sending ≠ none ∧ (s.ports.get p).sendEnds ≤ s.now ∧ i = .replySent p) ∨
        (s.writer = .idle ∧ (∃ e ∈ s.dirty, s.pfw = true ∨ e.2 + 200 ≤ s.now) ∧ i = .writeBegin) ∨
        (s.planReqs ≠ [] ∧ i = .planRequestTaken) := by
  have kinds (P : Kind → Prop) : (∃ k, P k) ↔ P .coin ∨ P .note :=
    ⟨fun ⟨k, h⟩ => by cases k <;> simp [h], fun h => h.elim (⟨_, ·⟩) (⟨_, ·⟩)⟩
  have lanes (P : Lane → Prop) : (∃ l, P l) ↔ P .a ∨ P .b :=
    ⟨fun ⟨l, h⟩ => by cases l <;> simp [h], fun h => h.elim (⟨_, ·⟩) (⟨_, ·⟩)⟩
  have ports (P : Port → Prop) : (∃ p, P p) ↔ P .lpA ∨ P .lpB ∨ P .sp :=
    ⟨fun ⟨p, h⟩ => by cases p <;> simp [h], fun h => h.elim (⟨_, ·⟩) fun h => h.elim (⟨_, ·⟩) (⟨_, ·⟩)⟩
  simp only [State.dueCommands, powered, if_true, List.mem_append, s.mem_dueHolds, s.mem_dueEject, s.mem_dueReturn,
    s.mem_duePause, s.mem_dueSent, s.mem_dueWrite, s.mem_duePlan, kinds, lanes, ports, or_assoc]

/-! ### The first event of a tick (R112) -/

/-- After the first event none is left to take. -/
theorem State.firstEvent_firstEvent (s : State) : s.firstEvent.firstEvent = s.firstEvent := by
  by_cases due : s.powered = true ∧ s.retest = true
  · obtain ⟨powered, retest⟩ := due
    have taken : s.firstEvent.retest = false := by
      simp only [State.firstEvent, powered, retest, Bool.and_self, if_true]
      split <;> simp
    simp [State.firstEvent.eq_1 s.firstEvent, taken]
  · have none : s.firstEvent = s := by
      rw [State.firstEvent, if_neg (by simpa using due)]
    rw [none, none]

/-- Settles O1: each row that a tick queues has its own timer, and a tick takes the first event only once. -/
theorem stepRunsFront : Obligations.StepRunsFront := by
  unfold Obligations.StepRunsFront
  refine ⟨fun c rest s => rfl, fun s settled queue => ?_, fun s queue => ?_⟩
  · have ticked : step s = .next s.tick := by rw [step, queue]
    have first : s.firstEvent = s := settled.elim State.firstEvent_running State.firstEvent_unpowered
    refine ⟨({ s with now := s.now + 1 } : State).dueCommands, ?_, fun off => ?_, fun powered i => ?_⟩
    · rw [ticked, State.tick, first]
    · simp [State.dueCommands, off]
    · exact State.mem_dueCommands (s := { s with now := s.now + 1 }) powered i
  · have queue' : s.firstEvent.pending = [] := s.firstEvent_keeps.1.trans queue
    rw [step, step, queue, queue']
    simp only [State.tick, State.firstEvent_firstEvent]

end Sys2Proof.Machine
end

section
/-! SUPPORT. The queues and lists that have a room (R48, R90, R169, R174): what each operation leaves in it. -/

namespace Sys2Proof.Machine

-- One proof after the other: many short proofs at once take more threads than the check's memory limit has room for.
set_option Elab.async false

/-! ### The six laws -/

/-- Every law of a list that has a room goes on. Event sets and links are no part of a quiet step, so an event
(Laws/Changes) does not tell of the last two laws, and the commands are followed one by one. -/
structure Roomy (s t : State) : Prop where
  service : s.ServiceQueueLaw → t.ServiceQueueLaw
  lanes : s.LaneQueueLaw → t.LaneQueueLaw
  stack : s.StackQueueLaw → t.StackQueueLaw
  requests : s.RequestLaw → t.RequestLaw
  events : s.EventLaw → t.EventLaw
  busy : s.BusyLaw → t.BusyLaw

/-- An operation that leaves most of the lists as they are. -/
theorem Roomy.of {s t : State}
    (service : s.ServiceQueueLaw → t.ServiceQueueLaw := by simp [State.ServiceQueueLaw])
    (lanes : s.LaneQueueLaw → t.LaneQueueLaw := by simp [State.LaneQueueLaw])
    (stack : s.StackQueueLaw → t.StackQueueLaw := by simp [State.StackQueueLaw])
    (requests : s.RequestLaw → t.RequestLaw := by simp [State.RequestLaw])
    (events : s.EventLaw → t.EventLaw := by simp [State.EventLaw])
    (busy : s.BusyLaw → t.BusyLaw := by simp [State.BusyLaw]) : Roomy s t :=
  ⟨service, lanes, stack, requests, events, busy⟩

theorem Roomy.refl (s : State) : Roomy s s := ⟨id, id, id, id, id, id⟩

theorem Roomy.trans {s t u : State} (h : Roomy s t) (k : Roomy t u) : Roomy s u :=
  ⟨k.service ∘ h.service, k.lanes ∘ h.lanes, k.stack ∘ h.stack, k.requests ∘ h.requests, k.events ∘ h.events,
    k.busy ∘ h.busy⟩

theorem Roomy.ite {s t u : State} {p : Prop} [Decidable p] (ht : Roomy s t) (hu : Roomy s u) :
    Roomy s (if p then t else u) := by
  split
  · exact ht
  · exact hu

theorem Roomy.foldl {α : Type} {f : State → α → State} (h : ∀ s x, Roomy s (f s x)) (xs : List α) (s : State) :
    Roomy s (xs.foldl f s) := by
  induction xs generalizing s with
  | nil => exact .refl s
  | cons x xs ih => exact (h s x).trans (ih _)

/-! ### Event sets (R174) -/

theorem pushLast_length {α : Type} (xs : List α) (x : α) : (pushLast xs x).length ≤ Config.eventListRoom := by
  simp only [pushLast, List.length_drop, List.length_append, List.length_singleton]
  omega

/-- Every per-tag list of the event set is within its room. -/
def EventSet.Law (e : EventSet) : Prop :=
  e.withdrawn.length ≤ Config.eventListRoom ∧ e.expired.length ≤ Config.eventListRoom ∧
    e.finished.length ≤ Config.eventListRoom

theorem Roomy.modEvents (s : State) (p : Port) {f : EventSet → EventSet} (h : ∀ e, e.Law → (f e).Law := by exact fun _ => id) :
    Roomy s (s.modEvents p f) :=
  .of (events := fun law q => by
    simp only [State.modEvents_events, PerPort.get_modify]
    split
    · exact h _ (law p)
    · exact law q)

theorem Roomy.raiseWithdrawn (s : State) (l : Lane) (tag : Nat) : Roomy s (s.raiseWithdrawn l tag) :=
  .modEvents s _ fun _ ⟨_, expired, finished⟩ => ⟨pushLast_length .., expired, finished⟩

theorem Roomy.raiseExpired (s : State) (l : Lane) (tag : Nat) : Roomy s (s.raiseExpired l tag) :=
  .modEvents s _ fun _ ⟨withdrawn, _, finished⟩ => ⟨withdrawn, pushLast_length .., finished⟩

theorem Roomy.raiseFinished (s : State) (l : Lane) (tag : Nat) (st : SaleState) : Roomy s (s.raiseFinished l tag st) :=
  .modEvents s _ fun _ ⟨withdrawn, expired, _⟩ => ⟨withdrawn, expired, pushLast_length ..⟩

theorem Roomy.raiseEscrowFault (s : State) (l : Lane) (tag : Nat) : Roomy s (s.raiseEscrowFault l tag) :=
  (Roomy.modEvents s l.port).trans (.modEvents _ .sp)

theorem Roomy.sample (s : State) (x : Sample) : Roomy s (s.sample x) := by
  have counted (c : Eight Counter) : Roomy s { s with counters := c } := .of id id id id id id
  simp only [State.sample]
  split
  · exact (counted _).trans (.modEvents _ .sp)
  · exact counted _

/-! ### Ports (R169) -/

theorem Roomy.modPort (s : State) (p : Port) {f : PortUnit → PortUnit}
    (h : (f (s.ports.get p)).busyWaiting ≤ Config.busyRoom ∨ (f (s.ports.get p)).busyWaiting ≤ (s.ports.get p).busyWaiting) :
    Roomy s (s.modPort p f) :=
  .of (busy := fun law q => by
    simp only [State.modPort_ports, PerPort.get_modify]
    split
    · exact h.elim id fun le => le.trans (law p)
    · exact law q)

theorem PortUnit.push_busyWaiting (u : PortUnit) (f : Frame) (now : Nat) :
    (u.push f now).busyWaiting ≤ u.busyWaiting + if f.answers then 0 else 1 := by
  simp only [PortUnit.push]
  split
  · exact Nat.le_add_right ..
  · cases answers : f.answers <;> simp [PortUnit.busyWaiting, answers]

theorem Roomy.pushFrame (s : State) (p : Port) {f : Frame} (h : f.answers = true ∨ (s.ports.get p).busyWaiting < Config.busyRoom) :
    Roomy s (s.pushFrame p f) := by
  have grown := PortUnit.push_busyWaiting (s.ports.get p) f s.now
  refine .modPort s p ?_
  change (PortUnit.push ..).busyWaiting ≤ _ ∨ (PortUnit.push ..).busyWaiting ≤ _
  rcases h with answers | room
  · exact .inr (by simpa [answers] using grown)
  · left
    split at grown <;> omega

theorem Roomy.answer (s : State) (p : Port) (c : Command) (data : List Field) : Roomy s (s.answer p c data) :=
  .pushFrame s p (.inl rfl)

theorem Roomy.refuseByte (s : State) (p : Port) (b : Byte) (code : ReplyCode) : Roomy s (s.refuseByte p b code) :=
  (Roomy.pushFrame s p (.inl rfl)).trans (.sample ..)

theorem Roomy.refuse (s : State) (p : Port) (c : Command) (code : ReplyCode) : Roomy s (s.refuse p c code) := .refuseByte ..

theorem Roomy.busyFrame (s : State) (p : Port) (b : Byte) : Roomy s (s.busyFrame p b) := by
  simp only [State.busyFrame]
  split
  next room => exact (Roomy.pushFrame s p (.inr room)).trans (.sample ..)
  · exact .refl s

theorem Roomy.setOutstanding (s : State) (p : Port) (b : Byte) : Roomy s (s.setOutstanding p b) := .modPort s p (.inr le_rfl)

theorem Roomy.refuseUnknown (s : State) (p : Port) (b : Byte) : Roomy s (s.refuseUnknown p b) :=
  .ite (.busyFrame ..) ((Roomy.setOutstanding ..).trans (.refuseByte ..))

theorem PortUnit.frameSent_busyWaiting (u : PortUnit) (f : Frame) (now : Nat) : (u.frameSent f now).busyWaiting ≤ u.busyWaiting := by
  simp only [PortUnit.frameSent]
  split
  · exact le_rfl
  next g rest waiting =>
    simp only [PortUnit.busyWaiting, waiting]
    exact (List.Sublist.filter _ (List.sublist_cons_self g rest)).length_le

/-! ### Requests (R48) -/

theorem Roomy.placeRequest (s : State) (l : Lane) (tag : Nat) (kind : RequestKind) (v : Nat) :
    Roomy s (s.placeRequest l tag kind v) :=
  .of (requests := fun law => State.placeRequest_requestLaw law ..)

theorem State.RequestLaw.sublist {s t : State} (law : s.RequestLaw) (h : t.planReqs.Sublist s.planReqs) : t.RequestLaw :=
  (h.map _).nodup law

/-! ### Jobs (R90) -/

/-- The queues grow by no job, and the class 0 jobs draw on no more escrows. -/
theorem Roomy.jobs {s t : State} (service : t.serviceJobs.length ≤ s.serviceJobs.length)
    (lanes : ∀ l, (t.laneJobs.get l).length ≤ (s.laneJobs.get l).length)
    (stack : (t.stackJobs.map Job.source).Sublist (s.stackJobs.map Job.source))
    (planReqs : t.planReqs = s.planReqs := by rfl) (events : t.events = s.events := by rfl)
    (ports : t.ports = s.ports := by rfl) : Roomy s t where
  service law := service.trans law
  lanes law l := (lanes l).trans (law l)
  stack law := stack.nodup law
  requests := by simp [State.RequestLaw, planReqs]
  events := by simp [State.EventLaw, events]
  busy := by simp [State.BusyLaw, ports]

theorem Roomy.modJob (s : State) (n : Nat) {f : Job → Job} (h : ∀ j, (f j).source = j.source := by intro _; rfl) :
    Roomy s (s.modJob n f) := by
  have sources : (s.modJob n f).stackJobs.map Job.source = s.stackJobs.map Job.source := by
    rw [State.modJob_eq, List.map_map]
    exact List.map_congr_left fun j _ => by simp only [Function.comp_apply]; split <;> simp [h]
  exact .jobs (by simp [State.modJob_eq]) (by simp [State.modJob_eq]) (by rw [sources])

theorem Roomy.dropJobs (s : State) (p : Job → Bool) : Roomy s (s.dropJobs p) := by
  refine .jobs (List.length_filter_le ..) (fun l => ?_) (List.filter_sublist.map _)
  rw [State.dropJobs_eq, PerLane.get_map]
  exact List.length_filter_le ..

theorem Roomy.dropJob (s : State) (n : Nat) : Roomy s (s.dropJob n) := .dropJobs ..

/-- A class 0 job is queued for an escrow that then has no other (R90). -/
theorem Roomy.placeStackDown (s : State) (l : Lane) : Roomy s (s.placeStackDown l) := by
  refine .of (stack := fun law => ?_)
  rw [State.StackQueueLaw, State.placeStackDown_sources, List.nodup_append]
  refine ⟨List.Nodup.filter _ law, List.nodup_singleton _, ?_⟩
  simp only [List.mem_filter, decide_eq_true_eq, List.mem_singleton]
  rintro x ⟨-, other⟩ _ rfl
  exact other

theorem Roomy.growStackDown (s : State) (l : Lane) : Roomy s (s.growStackDown l) := .of

theorem Roomy.placeService {s : State} (room : s.serviceJobs.length < Config.serviceQueueRoom) (u : UnitId) (k : TransferKind)
    (n : Nat) : Roomy s (s.placeService u k n) :=
  .of (service := fun _ => by simpa [State.ServiceQueueLaw, State.placeService, State.startTransfer] using room)

theorem State.jobsOf_length (s : State) (l : Lane) (tag n : Nat) (xs : List Share) :
    (s.jobsOf l tag n xs).length = xs.length := by
  induction xs generalizing n with
  | nil => rfl
  | cons x xs ih => simp [State.jobsOf, ih]

theorem Roomy.placeShares {s : State} {l : Lane} (tag : Nat) {xs : List Share} {place : List Job → List Job → List Job}
    (perm : ∀ q js, (place q js).Perm (q ++ js))
    (room : (s.laneJobs.get l).length + xs.length ≤ Config.laneQueueRoom ∨ xs = []) : Roomy s (s.placeShares l tag xs place) :=
  .of (lanes := fun law m => by
    simp only [State.placeShares, State.modLaneJobs_laneJobs, PerLane.get_modify]
    split
    · rw [(perm _ _).length_eq, List.length_append, State.jobsOf_length]
      rcases room with room | rfl
      · simpa using room
      · simpa using law l
    · simpa using law m)

/-! ### What follows a change (Machine/Float.lean) -/

theorem Roomy.withdraw (s : State) : Roomy s s.withdraw.1 := by
  have one (t : State) (r : Reservation) : Roomy t (t.withdrawOne r) :=
    ((Roomy.of (t := t.lapse r.lane r.tag)).trans (.raiseWithdrawn ..)).trans (.sample ..)
  have walk (rs : List Reservation) (t : State) : Roomy t (withdrawWalk rs t).1 := by
    induction rs generalizing t with
    | nil => exact .refl t
    | cons r rs ih =>
      simp only [withdrawWalk]
      split
      · split
        · exact (one t r).trans (ih _)
        · exact ih t
      · exact .refl t
  exact walk _ s

theorem Roomy.sweepCheck (s : State) (u : UnitId) : Roomy s (s.sweepCheck u) := by
  simp only [State.sweepCheck]
  split
  · split
    · exact .refl s
    · split
      next room => exact .placeService room.2 ..
      · exact .refl s
  · exact .refl s

theorem Roomy.startEjection (s : State) (k : Kind) (j : Job) (dest : Dest) : Roomy s (s.startEjection k j dest) :=
  (Roomy.modJob s j.serial (f := fun j => { j with inFlight := true })).trans (.of id id id id id id)

theorem Roomy.grantStackDown (s : State) (j : Job) : Roomy s (s.grantStackDown j) := by
  simp only [State.grantStackDown]
  split
  · exact .refl s
  · split
    · exact .refl s
    next r _ => exact (Roomy.startEjection s .note j r.noteDest).trans .of

theorem Roomy.grantLane (s : State) (k : Kind) (l : Lane) (j : Job) (waits : Bool) : Roomy s (s.grantLane k l j waits) := by
  have granted : Roomy s ((s.startEjection k j j.dest).setTurn k (s.turnAfter k l)) :=
    (Roomy.startEjection s k j j.dest).trans (.of id id id id id id)
  exact .ite (granted.trans (.sample ..)) granted

theorem Roomy.grantFirst (s : State) (k : Kind) : Roomy s (s.grantFirst k) := by
  simp only [State.grantFirst]
  split
  · exact .grantStackDown ..
  · split
    · exact .grantLane ..
    · split
      · exact .startEjection ..
      · exact .refl s

theorem Roomy.arbitrate (s : State) (k : Kind) : Roomy s (s.arbitrate k) := by
  by_cases idle : s.pfw = true ∨ (s.mechs.get k).phase ≠ .ready
  · rw [State.arbitrate_idle idle]
    exact .refl s
  · simp only [not_or, Bool.not_eq_true, ne_eq, not_not] at idle
    rw [State.arbitrate_ready idle.1 idle.2]
    exact .grantFirst ..

section Closings
variable {s t : State} (h : Roomy s t)
include h

theorem Roomy.answered {p : Port} {c : Command} {data : List Field} : Roomy s (t.answer p c data) := h.trans (.answer ..)

theorem Roomy.writing : Roomy s t.startWrite := h.trans .of

theorem Roomy.flushed : Roomy s t.flush := h.trans .of

theorem Roomy.settled : Roomy s t.settleEvent := ((h.trans (.arbitrate ..)).trans (.arbitrate ..)).flushed

theorem Roomy.concluded {fall : Bool} {left : List Reservation} {stored : List UnitId} :
    Roomy s (t.conclude fall left stored) := by
  have checked (u : State) (rs : List Reservation) : Roomy u (u.sweepChecks rs stored) :=
    .foldl (fun v _ => .ite (.sweepCheck ..) (.refl v)) _ u
  cases fall
  · exact (h.trans (checked t _)).settled
  · exact ((h.trans (.withdraw t)).trans (checked _ _)).settled

end Closings

end Sys2Proof.Machine
end

section
/-! SUPPORT. What the changes of commands leave in the lists that have a room. -/

namespace Sys2Proof.Machine

-- One proof after the other: many short proofs at once take more threads than the check's memory limit has room for.
set_option Elab.async false

/-! ### Sales and lanes -/

theorem Roomy.finishSale (s : State) (l : Lane) (tag : Nat) (st : SaleState) : Roomy s (s.finishSale l tag st) :=
  (Roomy.of (t := s.modSale l tag fun x => { x with state := st })).trans (.raiseFinished ..)

theorem Roomy.settleTest (s : State) (l : Lane) (tag : Nat) : Roomy s (s.settleTest l tag) := by
  simp only [State.settleTest]
  split
  · exact .refl s
  · split
    · exact .refl s
    · split
      · exact .finishSale ..
      · exact .ite (.refl s) (.finishSale ..)
      · exact .refl s

theorem Roomy.addStray (s : State) (l : Lane) (v : Nat) : Roomy s (s.addStray l v) :=
  .ite ((Roomy.of (t := s.modLane l _)).trans (.modEvents _ l.port)) (.refl s)

theorem Roomy.creditSale (s : State) (l : Lane) (tag : Nat) (k : Kind) (v : Nat) : Roomy s (s.creditSale l tag k v) := by
  cases found : s.findSale l tag with
  | none =>
    simp only [State.creditSale, found]
    exact .addStray ..
  | some x =>
    rw [State.creditSale_eq found]
    have raised : Roomy s (s.modSale l tag fun y => y.raised k (x.taking v)) := .of
    exact .ite (raised.trans (.addStray ..)) raised

theorem Roomy.grantFloor (s : State) (l : Lane) : Roomy s (s.grantFloor l) := by
  simp only [State.grantFloor]
  split
  · exact .modEvents s l.port
  · exact .refl s

theorem Roomy.yieldFloor (s : State) (l : Lane) : Roomy s (s.yieldFloor l) :=
  .ite ((Roomy.of (t := s.modLane l _)).trans (.grantFloor ..)) (.refl s)

theorem Roomy.closeLane (s : State) (l : Lane) : Roomy s (s.closeLane l) := by
  have cancelled : Roomy s (s.cancelWaiting l) := .foldl (fun _ _ => .finishSale ..) _ s
  exact (cancelled.trans (.of (t := (s.cancelWaiting l).modLane l _))).trans (.grantFloor ..)

theorem Roomy.payOut {s : State} {l : Lane} (tag : Nat) {shares : List Share} (v : Nat)
    (room : (s.laneJobs.get l).length + shares.length ≤ Config.laneQueueRoom) : Roomy s (s.payOut l tag shares v) := by
  have placed : Roomy s ((s.dropReservation l tag).placeShares l tag shares atTail) :=
    (Roomy.of (t := s.dropReservation l tag)).trans (.placeShares tag atTail_perm (.inl (by simpa using room)))
  have asked (t : State) : Roomy t (if 0 < v then t.placeRequest l tag .replan v else t) := .ite (.placeRequest ..) (.refl t)
  have stacked (t : State) : Roomy t
      (if (t.escrows.get l).owner = .sale tag then (t.setOwner l .stacking).placeStackDown l else t) :=
    .ite ((Roomy.of (t := t.setOwner l .stacking)).trans (.placeStackDown ..)) (.refl t)
  have cleared (t : State) : Roomy t (t.clearNeedOf l tag) := .of
  have paying (t : State) : Roomy t (t.modSale l tag fun x => { x with state := .paying }) := .of
  exact (((placed.trans (paying _)).trans (asked _)).trans (stacked _)).trans (cleared _)

theorem Roomy.returnSucceeds (s : State) (l : Lane) : Roomy s (s.returnSucceeds l) := by
  have emptied : Roomy s (s.emptyStack l) := .of id id id id id id
  rcases s.returnSucceeds_cases l with ⟨tag, -, settled⟩ | ⟨-, emptiedOnly⟩
  · exact settled ▸ emptied.trans (.settleTest ..)
  · exact emptiedOnly ▸ emptied

theorem Roomy.beginReturn (s : State) (l : Lane) : Roomy s (s.beginReturn l) :=
  .ite ((Roomy.of (t := s.setEscrowStatus l (.returning (s.now + Config.returnTimeout)))).trans (.returnSucceeds ..)) .of

theorem Roomy.cancelTendered (s : State) (l : Lane) (x : Sale) : Roomy s (s.cancelTendered l x) := by
  have before : Roomy s (s.beforeCancel l x) := by
    simp only [State.beforeCancel]
    split <;> exact .of
  have refunding (t : State) (v : Nat) : Roomy t (t.modSale l x.tag fun y =>
    { y with state := .refunding, refund := some v, refundShortfall := some 0 }) := .of
  have asked (t : State) : Roomy t (if 0 < x.coinValue then t.placeRequest l x.tag .refund x.coinValue else t) :=
    .ite (.placeRequest ..) (.refl t)
  have returned (t : State) : Roomy t (t.returnStack l x.tag) := .ite (.ite .of (.beginReturn ..)) (.refl t)
  exact (((before.trans (refunding _ _)).trans (asked _)).trans (returned _)).trans (.settleTest ..)

theorem Roomy.releaseJobs (s : State) (js : List Job) : Roomy s (s.releaseJobs js) :=
  .foldl (fun t j => by split <;> exact .of) js s

theorem Roomy.stopSale (s : State) (l : Lane) (x : Sale) : Roomy s (s.stopSale l x) := by
  have fewer : Roomy s (s.stopJobs l x.tag) := by
    rw [State.stopJobs_eq]
    refine Roomy.trans ?_ (.releaseJobs ..)
    refine .jobs le_rfl (fun m => ?_) (.refl _)
    simp only [State.modLaneJobs_laneJobs, PerLane.get_modify]
    split
    next same => simpa [same] using List.length_filter_le ..
    · exact le_rfl
  have dropped (t : State) : Roomy t (t.dropRequest l x.tag) :=
    .of (requests := fun law => law.sublist List.filter_sublist)
  exact ((fewer.trans (dropped _)).trans (.of (t := ((s.stopJobs l x.tag).dropRequest l x.tag).orphanStack l x))).trans
    (.finishSale ..)

theorem Roomy.keepEscrow (s : State) (l : Lane) : Roomy s (s.keepEscrow l) := by
  have stacked : Roomy s (s.keepStack l) :=
    .ite .of ((Roomy.of (t := (s.setOwner l .stacking).setEscrowStatus l .idle)).trans (.placeStackDown ..))
  have asked (t : State) (tag v : Nat) : Roomy t (if 0 < v then t.placeRequest l tag .refund v else t) :=
    .ite (.placeRequest ..) (.refl t)
  simp only [State.keepEscrow]
  split
  next tag _ =>
    have refunded (v : Nat) : Roomy (s.keepStack l) ((s.keepStack l).modSale l tag fun x =>
      { x with refund := x.refund.map fun r => boundAmount (r + v) }) := .of
    exact ((stacked.trans (refunded _)).trans (asked _ _ _)).trans (.settleTest ..)
  · exact stacked

/-- A cup count above a new limit becomes the limit, and PAUSE is seen where the cup was not paused before (R104, R180). -/
def State.lowerCup (s : State) (v : Nat) (l : Lane) : State :=
  let t := s.modLane l fun r => { r with cup := min r.cup v }
  if decide ((t.lanes.get l).cup = v) && !s.cupPaused l then t.samplePauseByLimit l else t

/-- The same of an outlet count. -/
def State.lowerOutlet (s : State) (v : Nat) (l : Lane) : State :=
  let t := s.modLane l fun r => { r with outlet := min r.outlet v }
  if decide ((t.lanes.get l).outlet = v) && !s.outletPaused l then t.samplePauseByLimit l else t

theorem State.writeCupLimit_eq (s : State) (v : Nat) :
    s.writeCupLimit v = { (s.lowerCup v .a).lowerCup v .b with limits := { s.limits with cup := v } } := rfl

theorem State.writeOutletLimit_eq (s : State) (v : Nat) :
    s.writeOutletLimit v = { (s.lowerOutlet v .a).lowerOutlet v .b with limits := { s.limits with outlet := v } } := rfl

theorem Roomy.writeSetting (s : State) (x : Setting) (v : Nat) : Roomy s (s.writeSetting x v) := by
  have limited (t : State) (m : Limits) : Roomy t { t with limits := m } := .of id id id id id id
  have lowered (t : State) (l : Lane) (f : LaneRec → LaneRec) : Roomy t (t.modLane l f) := .of
  cases x with
  | cupLimit =>
    have lower (t : State) (l : Lane) : Roomy t (t.lowerCup v l) := .ite ((lowered ..).trans (.sample ..)) (lowered ..)
    exact ((lower ..).trans (lower ..)).trans (limited ..)
  | outletLimit =>
    have lower (t : State) (l : Lane) : Roomy t (t.lowerOutlet v l) := .ite ((lowered ..).trans (.sample ..)) (lowered ..)
    exact ((lower ..).trans (lower ..)).trans (limited ..)
  | _ => exact .of id id id id id id

/-! ### Reports -/

theorem Roomy.storePiece (s : State) (k : Kind) (l : Lane) (d : Slot) (x : Store) : Roomy s (s.storePiece k l d x) := by
  cases x with
  | unit u => exact .of (t := s.countIn u)
  | cashbox => exact (Roomy.of (t := s.boxIn k d)).trans (.sample ..)

theorem Roomy.takeCoin (s : State) (l : Lane) (d : Slot) : Roomy s (s.takeCoin l d) := by
  have routed (p : PerLane (Option Store)) : Roomy s { s with coinPaths := p } := .of id id id id id id
  have stored : Roomy s (s.storeCoin l d) := ((routed _).trans (.sample ..)).trans (.storePiece ..)
  rw [State.takeCoin_eq]
  refine .ite (stored.trans ?_) stored
  simp only [State.creditCoin]
  split
  · exact .creditSale ..
  · exact .addStray ..
  · exact .of

theorem Roomy.takeNote (s : State) (l : Lane) (d : Slot) : Roomy s (s.takeNote l d) := by
  have pushed (c : Credit) : Roomy s (s.pushNote l d c) := .of
  have joined (t : State) : Roomy t (t.joinStackDown l) := by
    simp only [State.joinStackDown]
    split
    · exact .growStackDown ..
    · exact .placeStackDown ..
  simp only [State.takeNote]
  split
  · exact (pushed .sale).trans (.creditSale ..)
  · exact ((pushed .floatIn).trans (.of (t := (s.pushNote l d .floatIn).tallyPiece l d))).trans (joined _)
  · exact .ite
      (((pushed .stray).trans (.of (t := (s.pushNote l d .stray).setOwner l .stray))).trans (.placeStackDown ..) |>.trans (.addStray ..))
      (((pushed .stray).trans (.growStackDown ..)).trans (.addStray ..))

theorem Roomy.setPhase (s : State) (k : Kind) (x : Phase) : Roomy s (s.setPhase k x) := .of

theorem Roomy.endEjection (s : State) (k : Kind) (e : Ejection) (x : Phase) : Roomy s (s.endEjection k e x) :=
  (Roomy.setPhase ..).trans (.modJob _ e.job)

theorem Roomy.release (s : State) (u : UnitId) (n : Nat) : Roomy s (s.release u n) := .of

theorem Roomy.lockIfDone (s : State) (u : UnitId) : Roomy s (s.lockIfDone u) := .of

theorem Roomy.removeStopped (s : State) (j : Job) (u : UnitId) : Roomy s (s.removeStopped j u) :=
  (Roomy.dropJob s j.serial).trans (.release ..)

theorem Roomy.bump (s : State) (x : Dest) (m : Mask12) : Roomy s (s.bump x m) := by
  have raised (l : Lane) (f : LaneRec → LaneRec) : Roomy s (s.modLane l f) := .of
  cases x with
  | cup l => exact .ite (.ite ((raised l _).trans (.sample ..)) (raised l _)) (.refl s)
  | outlet l => exact .ite (.ite ((raised l _).trans (.sample ..)) (raised l _)) (.refl s)
  | _ => exact .refl s

theorem Roomy.payPiece (s : State) (l : Lane) (tag : Nat) (stopped : Bool) (v w : Nat) :
    Roomy s (s.payPiece l tag stopped v w) := .of

theorem Roomy.moveToCashbox (s : State) (u : UnitId) : Roomy s (s.moveToCashbox u) := by
  simp only [State.moveToCashbox]
  split
  · exact .of
  next d _ => exact (Roomy.of (t := (s.boxIn (unitKind u) d).transferMoved u)).trans (.sample ..)

theorem Roomy.deliver (s : State) (j : Job) (u : UnitId) (v : Nat) : Roomy s (s.deliver j u v) := by
  have seen (x : Sample) : Roomy s (s.sample x) := .sample ..
  simp only [State.deliver]
  split
  · exact ((seen _).trans (.bump ..)).trans (.payPiece ..)
  · exact seen _
  · exact (seen _).trans (.moveToCashbox ..)
  · exact (seen _).trans (.moveToCashbox ..)

theorem Roomy.countPiece (s : State) (j : Job) (u : UnitId) : Roomy s (s.countPiece j u) :=
  ((Roomy.of (t := s.countOut u)).trans (.modJob _ j.serial)).trans (.deliver ..)

theorem Roomy.countExtra (s : State) (j : Job) (u : UnitId) : Roomy s (s.countExtra j u) :=
  (Roomy.of (t := (s.modUnit u fun r => { r with count := r.count - 1 }).markDirty (recUnit u))).trans (.deliver ..)

theorem Roomy.countPieces (s : State) (j : Job) (u : UnitId) (p : Pieces) : Roomy s (s.countPieces j u p) :=
  ((Roomy.countPiece s j u).trans (.ite (.countPiece ..) (.refl _))).trans (.ite (.countExtra ..) (.refl _))

theorem Roomy.endTransfer (s : State) (u : UnitId) (x : TransferEnd) : Roomy s (s.endTransfer u x) := by
  simp only [State.endTransfer]
  split
  · exact .refl s
  next t _ => exact (Roomy.of (t := s.modTransfer u fun _ => some { t with ended := x })).trans (.modEvents _ .sp)

theorem Roomy.endTransferOf (s : State) (j : Job) (u : UnitId) (x : TransferEnd) : Roomy s (s.endTransferOf j u x) := by
  simp only [State.endTransferOf]
  split
  · exact .refl s
  · exact .refl s
  · exact .endTransfer ..
  · exact .endTransfer ..

theorem Roomy.closeJob (s : State) (j : Job) (u : UnitId) : Roomy s (s.closeJob j u) :=
  .ite (((Roomy.dropJob s j.serial).trans (.sample ..)).trans (.endTransferOf ..)) (.ite (.removeStopped ..) (.refl s))

theorem Roomy.shorten (s : State) (u : UnitId) : Roomy s (s.shorten u) := by
  have one (j : Job) : Roomy s (s.shortenJob j u) := by
    have less : Roomy s ((s.modJob j.serial fun i => { i with ordered := i.ordered - 1 }).release u 1) :=
      (Roomy.modJob s j.serial (f := fun i => { i with ordered := i.ordered - 1 })).trans (.release ..)
    have left (t : State) : Roomy t (if j.ordered - 1 ≤ j.done then (t.dropJob j.serial).endTransferOf j u .complete else t) :=
      .ite ((Roomy.dropJob t j.serial).trans (.endTransferOf ..)) (.refl t)
    refine (less.trans ?_).trans (left _)
    split
    · exact .placeRequest ..
    all_goals exact .refl _
  refine .ite ?_ (.refl s)
  split
  · exact one _
  · exact .refl s

theorem Roomy.settleJob (s : State) (j : Job) : Roomy s (s.settleJob j) := by
  simp only [State.settleJob]
  split
  · exact .ite (.refl s) (.settleTest ..)
  all_goals exact .refl s

theorem Roomy.detect (s : State) (k : Kind) (e : Ejection) (j : Job) (u : UnitId) (p : Pieces) :
    Roomy s (s.detect k e j u p) := by
  have counted : Roomy s ((s.countPieces j u p).endEjection k e e.after) := (Roomy.countPieces ..).trans (.endEjection ..)
  have closed (t : State) (i : Job) : Roomy t ((t.closeJob i u).lockIfDone u) := (Roomy.closeJob ..).trans (.lockIfDone ..)
  exact ((counted.trans (closed _ _)).trans (.ite (.shorten ..) (.refl _))).trans (.settleJob ..)

theorem Roomy.stackDetected (s : State) (e : Ejection) (l : Lane) (p : Pieces) : Roomy s (s.stackDetected e l p) := by
  have stored (t : State) (d : Option Slot) : Roomy t (match d with
      | some d => t.storePiece .note l d e.dest.store
      | none => t) := by
    split
    · exact .storePiece ..
    · exact .refl t
  have closed (t : State) : Roomy t (t.closeStack l e.job) :=
    .ite (.ite (.dropJob t e.job) ((Roomy.dropJob t e.job).trans .of)) (.refl t)
  have popped : Roomy s (s.popNote l) := .of
  exact (((popped.trans (stored _ _)).trans (.modJob _ e.job)).trans (.endEjection ..)).trans (closed _)

theorem Roomy.thirdMiss (s : State) (k : Kind) (e : Ejection) (j : Job) (u : UnitId) : Roomy s (s.thirdMiss k e j u) := by
  have jammed (t : State) : Roomy t (if (t.units.get u).state.jams then t.setUnitState u .jammed else t) := .ite .of (.refl t)
  have asked (t : State) (gone : List Job) : Roomy t (t.replanRemoved u gone) := .foldl (fun _ _ => .placeRequest ..) _ t
  have ended (t : State) (gone : List Job) : Roomy t (t.endRemoved u gone) := .ite (.endTransfer ..) (.refl t)
  have dismissed (t : State) : Roomy t (t.dismissJobs u) :=
    (((Roomy.dropJobs t fun j => j.onUnit u).trans (.of (t := (t.dropJobs fun j => j.onUnit u).modUnit u _))).trans (asked _ _)).trans (ended _ _)
  exact (((Roomy.endEjection s k e .ready).trans (jammed _)).trans (dismissed _)).trans (.sample ..)

theorem Roomy.lastMiss (s : State) (k : Kind) (e : Ejection) (j : Job) (u : UnitId) : Roomy s (s.lastMiss k e j u) :=
  (Roomy.endEjection s k e e.after).trans (.ite (.removeStopped ..) (.refl _))

theorem Roomy.stackMiss (s : State) (e : Ejection) (l : Lane) : Roomy s (s.stackMiss e l) :=
  (Roomy.of (t := s.clearTransit l)).trans (.endEjection ..)

/-! ### Plans and restarts -/

theorem Roomy.expire (s : State) (r : Reservation) : Roomy s (s.expire r) :=
  ((Roomy.of (t := s.lapse r.lane r.tag)).trans (.raiseExpired ..)).trans (.sample ..)

theorem Roomy.completeQuote (s : State) (r : PlanReq) (x : Sale) : Roomy s (s.completeQuote r x) := by
  have quoted (f : Sale → Sale) (plan : Plan) : Roomy s ((s.modSale r.lane r.tag f).reserve r.lane r.tag plan) :=
    (Roomy.of (t := s.modSale r.lane r.tag f)).trans (.of id id id id id id)
  have sampled (t : State) (o : PlanOutcome) (plan : Plan) (n : Nat) :
      Roomy t ((t.sampleOutcome r.lane o plan).sampleSteps r.lane n) := (Roomy.sample ..).trans (.sample ..)
  have again (t : State) (second : Option SearchResult) : Roomy t (match second with
      | some y => t.sampleSteps r.lane y.steps
      | none => t) := by
    split
    · exact .sample ..
    · exact .refl t
  have needed (t : State) (blocked : Bool) (m : Mask12) :
      Roomy t (if blocked then (t.setNeed r.lane r.tag m).sampleBlocked r.lane m else t) :=
    .ite ((Roomy.of (t := t.setNeed r.lane r.tag m)).trans (.sample ..)) (.refl t)
  exact ((((quoted ..).trans (sampled ..)).trans (again ..)).trans (needed ..)).answered

theorem Roomy.completeJobs (s : State) (r : PlanReq) : Roomy s (s.completeJobs r) := by
  have placed : Roomy s (s.placeShares r.lane r.tag (s.completionShares r) (r.kind.place r.lane r.tag)) := by
    refine .placeShares r.tag (r.kind.place_perm r.lane r.tag) ?_
    rcases Nat.lt_or_ge (s.laneJobs.get r.lane).length Config.laneQueueRoom with room | full
    · left
      have := List.length_take_le (Config.laneQueueRoom - (s.laneJobs.get r.lane).length)
        (splitPlan r.lane (s.planOf (s.searchFor r.lane r.tag r.amount r.shielded)) s).1
      simp only [State.completionShares]
      omega
    · right
      simp only [State.completionShares, Nat.sub_eq_zero_of_le full, List.take_zero]
  have recorded (t : State) (v : Nat) : Roomy t (t.recordUnplanned r.lane r.tag v) := .of
  have sampled (t : State) (o : PlanOutcome) (plan : Plan) (n : Nat) :
      Roomy t ((t.sampleOutcome r.lane o plan).sampleSteps r.lane n) := (Roomy.sample ..).trans (.sample ..)
  exact ((placed.trans (recorded ..)).trans (sampled ..)).trans (.settleTest ..)

theorem Roomy.stopEjections (s : State) : Roomy s s.stopEjections := by
  have uncertain (t : State) (u : UnitId) : Roomy t (t.makeUncertain u) := .ite (.refl t) .of
  have cleared (t : State) (l : Lane) : Roomy t (t.clearTransit l) := .of
  have one (t : State) (k : Kind) : Roomy t (t.stopEjection k) := by
    simp only [State.stopEjection]
    split
    · exact .refl t
    next e _ =>
      refine (Roomy.endEjection t k e .ready).trans ?_
      split
      · exact uncertain ..
      · exact (cleared ..).trans (uncertain ..)
      · exact cleared ..
  exact (one s .coin).trans (one _ .note)

/-- After a restart the lists are empty (R160, R163). -/
theorem Roomy.cleared {s t : State} (service : t.serviceJobs = []) (lanes : t.laneJobs = ⟨[], []⟩) (stack : t.stackJobs = [])
    (planReqs : t.planReqs = [])
    (events : ∀ p, ((t.events.get p).withdrawn = [] ∧ (t.events.get p).expired = []) ∧ (t.events.get p).finished = [])
    (ports : ∀ p, (t.ports.get p).waiting = []) : Roomy s t where
  service _ := by simp [State.ServiceQueueLaw, service]
  lanes _ l := by cases l <;> simp [lanes, PerLane.get]
  stack _ := by simp [State.StackQueueLaw, stack]
  requests _ := by simp [State.RequestLaw, planReqs]
  events _ p := by
    obtain ⟨⟨withdrawn, expired⟩, finished⟩ := events p
    simp [withdrawn, expired, finished]
  busy _ p := by simp [PortUnit.busyWaiting, ports]

theorem Roomy.warmReset (s : State) (cause : RestartCause) : Roomy s (s.warmReset cause) := by
  have reset : Roomy s (s.resetStores.clearRun cause) :=
    .cleared rfl rfl rfl rfl (fun p => by cases p <;> exact ⟨⟨rfl, rfl⟩, rfl⟩) fun p => by cases p <;> rfl
  exact reset.flushed

theorem Roomy.restore (s : State) : Roomy s s.restore := by
  have loaded : Roomy s s.loaded :=
    .cleared rfl rfl rfl rfl (fun p => by cases p <;> exact ⟨⟨rfl, rfl⟩, rfl⟩) fun p => by cases p <;> rfl
  exact loaded.flushed

end Sys2Proof.Machine
end

section
/-! SUPPORT. Every step keeps the room of the queues and lists (R48, R90, R169, R174). -/

namespace Sys2Proof.Machine

-- One proof after the other: many short proofs at once take more threads than the check's memory limit has room for.
set_option Elab.async false

/-! ### Requests -/

theorem Roomy.request {s : State} {p : Port} {c : Command} {body : State → State} (h : ∀ t, Roomy t (body t)) :
    Roomy s (s.request p c body) :=
  .ite (.ite (.busyFrame ..) (.ite ((Roomy.setOutstanding ..).trans (h _)) ((Roomy.setOutstanding ..).trans (.refuse ..))))
    (.refl s)

theorem Roomy.laneRequest {s : State} {p : Port} {c : Command} {body : Lane → State → State}
    (h : ∀ l t, Roomy t (body l t)) : Roomy s (s.laneRequest p c body) :=
  .request fun t => by
    split
    · exact h _ t
    · exact .refuse ..

theorem Roomy.saleRequest {s : State} {p : Port} {c : Command} {tag : Nat} {body : Lane → Sale → State → State}
    (h : ∀ l x t, Roomy t (body l x t)) : Roomy s (s.saleRequest p c tag body) :=
  .laneRequest fun l t => by
    split
    · exact h l _ t
    · exact .refuse ..

theorem Roomy.keyed {s : State} {p : Port} {c : Command} {body : State → State} (h : Roomy s (body s)) :
    Roomy s (s.keyed p c body) := .ite h (.refuse ..)

theorem Roomy.ranged {α : Type} {s : State} {p : Port} {c : Command} {x : Option α} {body : α → State → State}
    (h : ∀ a, Roomy s (body a s)) : Roomy s (s.ranged p c x body) := by
  simp only [State.ranged]
  split
  · exact h _
  · exact .refuse ..

theorem Roomy.whenPowered {s : State} {body : State → State} (h : Roomy s (body s)) : Roomy s (s.whenPowered body) :=
  .ite h (.refl s)

/-! ### Requests of the lane ports -/

theorem takeOpenSale_roomy (p : Port) (tag due : Nat) (s : State) : Roomy s (takeOpenSale p tag due s) :=
  .laneRequest fun l t => .ite (.refuse ..) <| .ite (.refuse ..) <| .ite (.refuse ..) <| .ite (.refuse ..)
    (Roomy.of (t := t.modSales l _)).answered

theorem takeTender_roomy (p : Port) (tag : Nat) (s : State) : Roomy s (takeTender p tag s) :=
  .saleRequest fun l _ t => .ite (.refuse ..) <| .ite (.refuse ..) <| .ite (.refuse ..) <| .ite (.refuse ..)
    (Roomy.of (t := t.openTender l tag)).answered.flushed

theorem takeQuote_roomy (p : Port) (tag : Nat) (s : State) : Roomy s (takeQuote p tag s) := by
  refine .saleRequest fun l x t => .ite (.refuse ..) <| .ite (.refuse ..) ?_
  have before : Roomy t ((t.beforeQuote l x).clearNeedOf l tag) := .of
  exact (before.trans (.placeRequest ..)).concluded

theorem takePay_roomy (p : Port) (tag acceptShort : Nat) (s : State) : Roomy s (takePay p tag acceptShort s) := by
  refine .laneRequest fun l t => ?_
  split
  · exact .refuse ..
  split
  · exact .refuse ..
  refine .ite (.refuse ..) <| .ite (.refuse ..) <| .ite (.refuse ..) ?_
  dsimp only
  split
  · exact .refuse ..
  next room =>
    refine (((Roomy.answer ..).trans (.payOut tag _ ?_)).trans (.settleTest ..)).concluded
    simpa using room

theorem takeCancel_roomy (p : Port) (tag : Nat) (s : State) : Roomy s (takeCancel p tag s) := by
  refine .saleRequest fun l x t => ?_
  have cancelled : Roomy t ((t.answer p .cancel []).cancelTendered l x) := (Roomy.answer ..).trans (.cancelTendered ..)
  split
  · exact (Roomy.finishSale ..).answered
  · exact cancelled.concluded
  · exact cancelled.concluded
  · exact cancelled.concluded
  · exact .refuse ..

theorem takeRelease_roomy (p : Port) (tag : Nat) (s : State) : Roomy s (takeRelease p tag s) :=
  .saleRequest fun l _ t => .ite (Roomy.of (t := (t.modSales l _).clearNeedOf l tag)).answered (.refuse ..)

theorem takeStatus_roomy (p : Port) (lane : Option Nat) (tag : Nat) (s : State) : Roomy s (takeStatus p lane tag s) := by
  refine .request fun t => ?_
  split
  · exact .refuse ..
  · refine .ite (.answer ..) ?_
    split
    · exact .answer ..
    · exact .refuse ..

theorem takeStop_roomy (p : Port) (lane : Option Nat) (tag : Nat) (s : State) : Roomy s (takeStop p lane tag s) := by
  refine .request fun t => ?_
  split
  · exact .refuse ..
  · split
    · exact .refuse ..
    · exact .ite ((Roomy.answer ..).trans (.stopSale ..)).concluded (.refuse ..)

theorem takeLaneOpen_roomy (p : Port) (s : State) : Roomy s (takeLaneOpen p s) :=
  .laneRequest fun l t => .ite (.answer ..) (Roomy.of (t := t.openLane l)).answered.settled

theorem takeLaneClose_roomy (p : Port) (s : State) : Roomy s (takeLaneClose p s) :=
  .laneRequest fun _ _ => .ite (.refuse ..) <| .ite (Roomy.closeLane ..).answered (.answer ..)

theorem takeFloorHold_roomy (p : Port) (s : State) : Roomy s (takeFloorHold p s) :=
  .laneRequest fun l t => .ite (Roomy.of (t := t.modLane l _)).answered (.refuse ..)

theorem takeFloorYield_roomy (p : Port) (s : State) : Roomy s (takeFloorYield p s) :=
  .laneRequest fun _ _ => .ite (Roomy.yieldFloor ..).answered (.refuse ..)

/-! ### Requests of the service port -/

theorem takeLockUnit_roomy (p : Port) (unit : Nat) (s : State) : Roomy s (takeLockUnit p unit s) := by
  refine .request fun t => .ranged fun u => ?_
  split
  · exact (Roomy.of (t := t.setUnitState u _)).answered.concluded
  · exact .answer ..
  · exact .answer ..
  all_goals exact .refuse ..

theorem takeUnlockUnit_roomy (p : Port) (unit : Nat) (s : State) : Roomy s (takeUnlockUnit p unit s) :=
  .request fun t => .ranged fun u => .ite (.refuse ..) <| .ite (.refuse ..)
    (Roomy.of (t := t.setUnitState u .active)).answered.concluded

theorem takeWriteUnit_roomy (p : Port) (unit slot capacity highWater sweepTarget laneMask : Nat) (s : State) :
    Roomy s (takeWriteUnit p unit slot capacity highWater sweepTarget laneMask s) :=
  .request fun t => .keyed <| .ranged fun u => .ranged fun x => .ite (.refuse ..) <| .ite (.refuse ..)
    (Roomy.of (t := t.writeSettings u x)).answered.settled

theorem takeSetDenom_roomy (p : Port) (slot value kind enabled accept recycle lowWater : Nat) (s : State) :
    Roomy s (takeSetDenom p slot value kind enabled accept recycle lowWater s) :=
  .request fun t => .keyed <| .ranged fun d => .ranged fun x => .ite (.refuse ..) <| .ite (.refuse ..)
    (Roomy.of (s := t) (t := { t with denoms := t.denoms.set d x }.markDirty recDenoms) id id id id id id).answered.settled

theorem takeSetFloor_roomy (p : Port) (lane slot count : Nat) (s : State) : Roomy s (takeSetFloor p lane slot count s) :=
  .request fun t => .ranged fun l => .ranged fun d => .ite (.refuse ..)
    (Roomy.of (t := t.writeFloor l d count)).answered.flushed

theorem takeSetLimits_roomy (p : Port) (setting value : Nat) (s : State) : Roomy s (takeSetLimits p setting value s) :=
  .request fun t => .ranged fun x => .ite (.refuse ..) <| .ite (.answer ..)
    ((Roomy.writeSetting t x value).trans (.of (t := (t.writeSetting x value).markDirty x.record))).answered.settled

theorem takeAuditUnit_roomy (p : Port) (unit count : Nat) (s : State) : Roomy s (takeAuditUnit p unit count s) :=
  .request fun t => .keyed <| .ranged fun u => .ite (.refuse ..) <| .ite (.refuse ..)
    (Roomy.of (t := t.audit u count)).answered.flushed

theorem takeEmptyUnit_roomy (p : Port) (unit keep : Nat) (s : State) : Roomy s (takeEmptyUnit p unit keep s) := by
  refine .request fun t => .keyed <| .ranged fun u => .ite (.refuse ..) <| .ite (.refuse ..) <| .ite (.refuse ..) ?_
  split
  · exact .refuse ..
  next room => exact (Roomy.placeService (by omega) ..).answered.settled

theorem takeFloatInBegin_roomy (p : Port) (lane : Nat) (s : State) : Roomy s (takeFloatInBegin p lane s) :=
  .request fun t => .ranged fun l => .ite (.refuse ..) <| .ite (.refuse ..)
    (Roomy.of (t := t.beginFloatIn l)).answered.flushed

theorem takeFloatInEnd_roomy (p : Port) (lane : Nat) (s : State) : Roomy s (takeFloatInEnd p lane s) :=
  .request fun t => .ranged fun l => .ite (.refuse ..) (Roomy.of (t := t.endFloatIn l)).answered.flushed

theorem takeClearJam_roomy (p : Port) (unit : Nat) (s : State) : Roomy s (takeClearJam p unit s) :=
  .request fun t => .keyed <| .ranged fun u => .ite (Roomy.of (t := t.setUnitState u .locked)).answered.flushed (.refuse ..)

theorem takeClearFault_roomy (p : Port) (mechanism : Nat) (s : State) : Roomy s (takeClearFault p mechanism s) :=
  .request fun t => .keyed <| .ranged fun k => .ite (.refuse ..) <| .ite (.refuse ..)
    (Roomy.of (t := t.makeReady k)).answered.settled

theorem takeClearEscrow_roomy (p : Port) (lane action : Nat) (s : State) : Roomy s (takeClearEscrow p lane action s) := by
  refine .request fun t => .keyed <| .ranged fun l => .ranged fun a => .ite (.refuse ..) ?_
  cases a with
  | giveBack => exact ((Roomy.answer ..).trans (.beginReturn ..)).settled
  | keep => exact ((Roomy.answer ..).trans (.keepEscrow ..)).settled

theorem takeCashboxCleared_roomy (p : Port) (box : Nat) (s : State) : Roomy s (takeCashboxCleared p box s) :=
  .request fun t => .keyed <| .ranged fun k => (Roomy.of (t := t.clearBox k)).answered.settled

theorem takeRestart_roomy (p : Port) (s : State) : Roomy s (takeRestart p s) :=
  .request fun _ => .keyed (.answer ..)

theorem takeCounterSet_roomy (p : Port) (counter event laneMask slotMask mode threshold invert : Nat) (s : State) :
    Roomy s (takeCounterSet p counter event laneMask slotMask mode threshold invert s) :=
  .request fun t => .ranged fun n => .ranged fun x => (Roomy.of (t := t.startCounter n x)).answered.flushed

/-! ### Requests of every port -/

theorem Roomy.reply {α : Type} (s : State) (p : Port) (c : Command) (x : Option α) (f : State → α → List Field) :
    Roomy s (s.reply p c x f) :=
  .request fun _ => .ranged fun _ => .answer ..

theorem takeReadEvents_roomy (p : Port) (s : State) : Roomy s (takeReadEvents p s) :=
  .request fun _ => (Roomy.answer ..).trans (.modEvents _ p fun _ _ => ⟨Nat.zero_le _, Nat.zero_le _, Nat.zero_le _⟩)

theorem takeSetEventMask_roomy (p : Port) (mask : Nat) (s : State) : Roomy s (takeSetEventMask p mask s) :=
  .request fun t => .ite (Roomy.modEvents t p).answered (.refuse ..)

theorem runRequest_roomy (i : Instr) (s : State) : Roomy s (runRequest i s) := by
  cases i with
  | openSale => exact takeOpenSale_roomy ..
  | tender => exact takeTender_roomy ..
  | quote => exact takeQuote_roomy ..
  | pay => exact takePay_roomy ..
  | cancel => exact takeCancel_roomy ..
  | release => exact takeRelease_roomy ..
  | status => exact takeStatus_roomy ..
  | stop => exact takeStop_roomy ..
  | laneOpen => exact takeLaneOpen_roomy ..
  | laneClose => exact takeLaneClose_roomy ..
  | floorHold => exact takeFloorHold_roomy ..
  | floorYield => exact takeFloorYield_roomy ..
  | lockUnit => exact takeLockUnit_roomy ..
  | unlockUnit => exact takeUnlockUnit_roomy ..
  | writeUnit => exact takeWriteUnit_roomy ..
  | setDenom => exact takeSetDenom_roomy ..
  | setFloor => exact takeSetFloor_roomy ..
  | setLimits => exact takeSetLimits_roomy ..
  | auditUnit => exact takeAuditUnit_roomy ..
  | emptyUnit => exact takeEmptyUnit_roomy ..
  | floatInBegin => exact takeFloatInBegin_roomy ..
  | floatInEnd => exact takeFloatInEnd_roomy ..
  | clearJam => exact takeClearJam_roomy ..
  | clearFault => exact takeClearFault_roomy ..
  | clearEscrow => exact takeClearEscrow_roomy ..
  | cashboxCleared => exact takeCashboxCleared_roomy ..
  | restart => exact takeRestart_roomy ..
  | counterSet => exact takeCounterSet_roomy ..
  | counterRead | readDenom | readUnit | readCashbox | readReservations | readFloors | readQueue | readMechanism
  | readService | readStore => exact .reply ..
  | readEvents => exact takeReadEvents_roomy ..
  | setEventMask => exact takeSetEventMask_roomy ..
  | _ => exact .refl s

/-! ### Reports of the module's lines -/

theorem takeNotePieceReport_roomy (l : Lane) (d : Slot) (s : State) : Roomy s (takeNotePieceReport l d s) :=
  .whenPowered <| .ite ((Roomy.sample ..).trans (.takeNote ..)).concluded (.refl s)

theorem takeExitSensorReport_roomy (k : Kind) (pieces : Pieces) (s : State) : Roomy s (takeExitSensorReport k pieces s) := by
  refine .whenPowered ?_
  split
  · exact .refl s
  · split
    · exact .refl s
    · split
      · exact (Roomy.endEjection ..).concluded
      · exact (Roomy.detect ..).concluded

theorem takeEntrySensorReport_roomy (x : EntrySensor) (pieces : Pieces) (s : State) :
    Roomy s (takeEntrySensorReport x pieces s) := by
  refine .whenPowered ?_
  split
  · exact .refl s
  · split
    · exact .refl s
    · exact .ite (Roomy.stackDetected ..).concluded (.refl s)

theorem Roomy.unitMiss (s : State) (k : Kind) (e : Ejection) (u : UnitId) : Roomy s (s.unitMiss k e u) := by
  simp only [State.unitMiss]
  split
  · exact (Roomy.endEjection ..).concluded
  · exact .ite (Roomy.lastMiss ..).concluded <| .ite .of (Roomy.thirdMiss ..).concluded

theorem Roomy.advanceTo (s : State) (n : Nat) : Roomy s (s.advanceTo n) := .of

theorem takeEjectTimeout_roomy (k : Kind) (s : State) : Roomy s (takeEjectTimeout k s) := by
  refine .whenPowered ?_
  split
  · exact .refl s
  · split
    · exact (Roomy.advanceTo ..).trans (.unitMiss ..)
    · exact ((Roomy.advanceTo ..).trans (.stackMiss ..)).concluded

theorem Roomy.senseFault (s : State) (k : Kind) : Roomy s (s.senseFault k) := by
  simp only [State.senseFault]
  split
  · exact (Roomy.setPhase ..).concluded
  · exact .setPhase ..
  · exact .refl s

theorem takeFaultSenseActive_roomy (k : Kind) (level : Bool) (s : State) : Roomy s (takeFaultSenseActive k level s) := by
  have sensed : Roomy s (s.modMech k fun m => { m with sense := level }) := .of
  exact .ite (sensed.trans (.senseFault ..)) sensed

theorem takeEscrowEmptyReport_roomy (l : Lane) (empty : Bool) (s : State) : Roomy s (takeEscrowEmptyReport l empty s) := by
  have shown : Roomy s (s.modEscrow l fun e => { e with sensorEmpty := empty }) := .of
  refine .ite ?_ shown
  split
  · exact (shown.trans (.returnSucceeds ..)).settled
  · exact shown
  · exact shown

theorem Roomy.returnFails (s : State) (l : Lane) : Roomy s (s.returnFails l) := by
  have ended (x : EscrowStatus) : Roomy s (s.setEscrowStatus l x) := .of
  simp only [State.returnFails]
  split
  · exact (ended _).trans (.raiseEscrowFault ..)
  · exact (ended _).trans (.raiseEscrowFault ..)

theorem takeReturnTimeout_roomy (l : Lane) (s : State) : Roomy s (takeReturnTimeout l s) := by
  refine .whenPowered ?_
  split
  · exact (Roomy.advanceTo ..).trans (.returnFails ..)
  · exact .refl s
  · exact .refl s

theorem takeHoldTimerExpiry_roomy (l : Lane) (tag : Nat) (s : State) : Roomy s (takeHoldTimerExpiry l tag s) := by
  refine .whenPowered ?_
  split
  · exact ((Roomy.advanceTo ..).trans (.expire ..)).concluded
  · exact .refl s

/-! ### Plans, restarts and links -/

theorem takePlanRequestTaken_roomy (s : State) : Roomy s (takePlanRequestTaken s) := by
  refine .whenPowered ?_
  split
  · exact .refl s
  next r rest head =>
    have taken : Roomy s { s with planReqs := rest } :=
      .of id id id (fun law => law.sublist (by simp [head])) id id
    simp only [State.plan]
    split
    · exact taken
    · split
      · exact taken.trans (.completeQuote ..)
      · exact (taken.trans (.completeJobs ..)).concluded
      · exact (taken.trans (.completeJobs ..)).concluded

/-- Supply, warning, key and the record writer touch no list. -/
theorem Roomy.supply (s : State) (powered pfw armed key : Bool) (store : CountStore) (writer : Writer) (scan : RecordNo) :
    Roomy s { s with powered := powered, pfw := pfw, armed := armed, key := key, store := store, writer := writer, scan := scan } :=
  .of id id id id id id

theorem takePfwActive_roomy (s : State) : Roomy s (takePfwActive s) :=
  .ite (.refl s) <| .ite ((Roomy.supply s s.powered true true s.key s.store s.writer s.scan).trans (.stopEjections _)).concluded
    (.supply s s.powered true s.armed s.key s.store s.writer s.scan)

theorem takePfwInactive_roomy (s : State) : Roomy s (takePfwInactive s) :=
  .ite (.refl s) <| .ite (.supply s s.powered false s.armed s.key s.store s.writer s.scan) <|
    .ite ((Roomy.supply s s.powered false false s.key s.store s.writer s.scan).trans (.warmReset ..))
      (Roomy.supply s s.powered false s.armed s.key s.store s.writer s.scan).settled

theorem takeWriteBegin_roomy (s : State) : Roomy s (takeWriteBegin s) := by
  refine .whenPowered ?_
  split
  · refine Roomy.writing ?_
    simp only [State.awaitEligible]
    split
    · exact .refl s
    · split
      · exact .advanceTo ..
      · exact .refl s
  · exact .refl s

theorem takeWriteComplete_roomy (s : State) : Roomy s (takeWriteComplete s) := by
  refine .whenPowered ?_
  split
  · exact .refl s
  next x _ =>
    exact (Roomy.supply s s.powered s.pfw s.armed s.key (s.store.put x) .idle (scanAfter x.record)).writing

theorem takePowerLoss_roomy (s : State) : Roomy s (takePowerLoss s) := by
  refine .whenPowered ?_
  simp only [State.losePower]
  split
  · exact .supply s false s.pfw s.armed s.key s.store s.writer s.scan
  next x _ => exact .supply s false s.pfw s.armed s.key (s.store.tear x) .idle s.scan

theorem Roomy.discardFrame (s : State) (p : Port) : Roomy s (s.discardFrame p) := .modPort s p (.inr le_rfl)

theorem takeInterByteTimeout_roomy (p : Port) (s : State) : Roomy s (takeInterByteTimeout p s) :=
  .whenPowered <| .ite (.refl s) ((Roomy.advanceTo ..).trans (.discardFrame ..))

theorem takeReplySent_roomy (p : Port) (s : State) : Roomy s (takeReplySent p s) := by
  refine .whenPowered ?_
  split
  · exact .refl s
  · exact .ite ((Roomy.modPort s p (.inr le_rfl)).trans (.warmReset ..))
      (.modPort s p (.inr (PortUnit.frameSent_busyWaiting ..)))

theorem Roomy.takeFrame (s : State) (p : Port) (command : Byte) (params : List Byte) : Roomy s (s.takeFrame p command params) := by
  simp only [State.takeFrame]
  split
  · exact runRequest_roomy ..
  · split
    · exact .request fun _ => .ite (.keyed (.refuse ..)) (.refuse ..)
    · exact .refuseUnknown ..

theorem takeByteReceived_roomy (p : Port) (b : Byte) (s : State) : Roomy s (takeByteReceived p b s) := by
  refine .whenPowered ?_
  have heard : Roomy s (s.modPort p fun u =>
      { u with receiver := (((s.ports.get p).listening s.now).take b).1, lastByteAt := s.now }) := .modPort s p (.inr le_rfl)
  dsimp only
  split
  · exact heard.trans (.takeFrame ..)
  · exact heard
  · exact heard

/-! ### Steps -/

theorem Roomy.firstEvent (s : State) : Roomy s s.firstEvent := by
  have tested : Roomy s { s with retest := false, mechs := s.mechs.map Mechanism.tested } := .of id id id id id id
  exact .ite (.ite tested tested.concluded) (.refl s)

theorem Roomy.of_next {s t u : State} (h : (.next t : Result) = .next u) (e : Roomy s t) : Roomy s u := by
  injection h with h
  exact h ▸ e

/-- A command takes the first event after a restart, then it keeps the lists in their rooms. -/
theorem exec_roomy {c : Instr} {s u : State} (h : exec c s = .next u) : Roomy s.firstEvent u := by
  by_cases request : (requestParts c).isSome
  · exact .of_next ((exec_request request s).symm.trans h) (runRequest_roomy ..)
  cases c with
  | powerOn => exact .of_next h ((takePowerLoss_roomy _).trans (.restore _))
  | coinPieceReport => exact .of_next h (.whenPowered (Roomy.takeCoin ..).concluded)
  | notePieceReport => exact .of_next h (takeNotePieceReport_roomy ..)
  | exitSensorReport => exact .of_next h (takeExitSensorReport_roomy ..)
  | entrySensorReport => exact .of_next h (takeEntrySensorReport_roomy ..)
  | ejectTimeout => exact .of_next h (takeEjectTimeout_roomy ..)
  | faultSenseActive => exact .of_next h (takeFaultSenseActive_roomy ..)
  | escrowEmptyReport => exact .of_next h (takeEscrowEmptyReport_roomy ..)
  | returnTimeout => exact .of_next h (takeReturnTimeout_roomy ..)
  | cupCleared l => exact .of_next h (.whenPowered (Roomy.of (t := s.firstEvent.modLane l _)).settled)
  | outletCleared l => exact .of_next h (.whenPowered (Roomy.of (t := s.firstEvent.modLane l _)).settled)
  | holdTimerExpiry => exact .of_next h (takeHoldTimerExpiry_roomy ..)
  | planRequestTaken => exact .of_next h (takePlanRequestTaken_roomy ..)
  | maintenanceKeyChange level =>
    exact .of_next h (Roomy.of id id id id id id)
  | pfwActive => exact .of_next h (takePfwActive_roomy ..)
  | pfwInactive => exact .of_next h (takePfwInactive_roomy ..)
  | resetLine => exact .of_next h (.whenPowered (.warmReset ..))
  | powerLoss => exact .of_next h (takePowerLoss_roomy _)
  | writeBegin => exact .of_next h (takeWriteBegin_roomy ..)
  | writeComplete => exact .of_next h (takeWriteComplete_roomy ..)
  | busyReply => exact .of_next h (.whenPowered (.ite (.busyFrame ..) (.refl _)))
  | unknownReply => exact .of_next h (.whenPowered (.ite (.refuseUnknown ..) (.refl _)))
  | frameDiscard => exact .of_next h (.whenPowered (.discardFrame ..))
  | interByteTimeout => exact .of_next h (takeInterByteTimeout_roomy ..)
  | replySent => exact .of_next h (takeReplySent_roomy ..)
  | byteReceived => exact .of_next h (takeByteReceived_roomy ..)
  | status _ lane => cases lane <;> exact absurd rfl request
  | stop _ lane => cases lane <;> exact absurd rfl request
  | _ => exact absurd rfl request

theorem step_roomy {s t : State} (h : step s = .next t) : Roomy s t := by
  simp only [step] at h
  split at h
  · exact .of_next h ((Roomy.firstEvent s).trans (.of id id id id id id))
  next c rest _ =>
    have popped : Roomy s { s with pending := rest } := .of id id id id id id
    exact (popped.trans (.firstEvent _)).trans (exec_roomy h)

/-- Settles O58: every command is followed through its operations, each of which keeps the lists in their rooms. -/
theorem stepKeepsQueues : Obligations.StepKeepsQueues := fun _ _ h =>
  have kept := step_roomy h
  ⟨kept.service, kept.lanes, kept.stack, kept.requests, kept.events, kept.busy⟩

end Sys2Proof.Machine
end

section
/-! SUPPORT. The search as one pass over the values in the order in which they are tried (R58, R59). -/

namespace Sys2Proof.Machine

-- One proof after the other: many short proofs at once take more threads than the check's memory limit has room for.
set_option Elab.async false

/-! ### The walk as a fold -/

/-- The value of counts chosen from level 1 on. -/
def spent (levels : List (Nat × Nat)) (ks : List Nat) : Nat := ((levels.zip ks).map fun e => e.2 * e.1.1).sum

@[simp] theorem spent_cons (v u k : Nat) (levels : List (Nat × Nat)) (ks : List Nat) :
    spent ((v, u) :: levels) (k :: ks) = k * v + spent levels ks := rfl

@[simp] theorem spent_nil (levels : List (Nat × Nat)) : spent levels [] = 0 := by simp [spent]

@[simp] theorem spent_noLevels (ks : List Nat) : spent [] ks = 0 := rfl

/-- One step of the walk: a value is tried, and where it is the last level's the leaf is judged (R58, R59). The levels
are those still to fill, `counts` the ones above them with the last level first. -/
def Walk.visit (limit effort : Nat) (levels : List (Nat × Nat)) (remaining pieces : Nat) (counts : List Nat) (w : Walk)
    (ks : List Nat) : Walk :=
  if w.ended then w
  else if effort ≤ w.steps then { w with ended := true }
  else if ks.length = levels.length then
    { w with steps := w.steps + 1 }.leaf limit (ks.reverse ++ counts) (pieces + ks.sum) (remaining - spent levels ks)
  else { w with steps := w.steps + 1 }

theorem foldl_visit_ended {limit effort : Nat} {levels : List (Nat × Nat)} {remaining pieces : Nat} {counts : List Nat}
    {w : Walk} (h : w.ended = true) (ts : List (List Nat)) :
    ts.foldl (Walk.visit limit effort levels remaining pieces counts) w = w := by
  induction ts with
  | nil => rfl
  | cons ks ts ih => rw [List.foldl_cons, Walk.visit, if_pos h, ih]

/-- A count chosen at the first level comes off what remains, and joins the counts above the rest. -/
theorem visit_cons {limit effort v u : Nat} {rest : List (Nat × Nat)} {remaining pieces k : Nat} {counts ks : List Nat}
    (w : Walk) :
    w.visit limit effort ((v, u) :: rest) remaining pieces counts (k :: ks) =
      w.visit limit effort rest (remaining - k * v) (pieces + k) (k :: counts) ks := by
  simp [Walk.visit, Nat.sub_sub, Nat.add_assoc]

theorem tryDown_eq_foldl (below : Nat → Walk → Walk) (effort n : Nat) (w : Walk) :
    w.tryDown below effort n = (List.range (n + 1)).reverse.foldl (fun w k => w.tryCount below effort k) w := by
  induction n generalizing w with
  | zero => rfl
  | succ n ih => rw [List.range_succ, List.reverse_append, Walk.tryDown, ih]; rfl

/-- The walk from a level on tries the values of `walkOrder` one after the other. -/
theorem walkLevels_eq_foldl (limit effort : Nat) (level : Nat × Nat) (rest : List (Nat × Nat)) (remaining pieces : Nat)
    (counts : List Nat) (w : Walk) :
    walkLevels limit effort (level :: rest) remaining pieces counts w =
      (walkOrder (level :: rest) remaining).foldl (Walk.visit limit effort (level :: rest) remaining pieces counts) w := by
  induction rest generalizing level remaining pieces counts w with
  | nil =>
    obtain ⟨v, u⟩ := level
    have leaf (w : Walk) (k : Nat) :
        w.tryCount (fun k w => w.leaf limit (k :: counts) (pieces + k) (remaining - k * v)) effort k =
          w.visit limit effort [(v, u)] remaining pieces counts [k] := by simp [Walk.tryCount, Walk.visit]
    simp only [walkLevels, walkOrder, tryDown_eq_foldl, List.foldl_flatMap, List.map_nil, List.foldl_cons, List.foldl_nil, leaf]
  | cons next rest ih =>
    obtain ⟨v, u⟩ := level
    have inner (w : Walk) (k : Nat) :
        w.tryCount (fun k w => walkLevels limit effort (next :: rest) (remaining - k * v) (pieces + k) (k :: counts) w) effort k =
          walkLevels limit effort (next :: rest) (remaining - k * v) (pieces + k) (k :: counts)
            (w.visit limit effort (next :: rest) (remaining - k * v) (pieces + k) (k :: counts) []) := by
      simp only [Walk.tryCount, Walk.visit]
      split
      next ended => rw [ih, foldl_visit_ended ended]
      · split
        · rw [ih, foldl_visit_ended rfl]
        · simp
    rw [walkLevels, walkOrder, tryDown_eq_foldl, List.foldl_flatMap]
    simp only [inner]
    simp only [List.foldl_cons, List.foldl_map, visit_cons, ih]

/-- The walk over the values of `walkOrder`, from nothing chosen. -/
def walkFold (levels : List (Nat × Nat)) (c limit effort : Nat) (ts : List (List Nat)) : Walk :=
  ts.foldl (Walk.visit limit effort levels c 0 []) { steps := 0, best := none, ended := false }

/-- What a finished walk gives: its best leaf, or the empty vector with remainder C (R59). -/
def Walk.result (w : Walk) (c : Nat) : SearchResult :=
  match w.best with
  | some b => { counts := b.1, remainder := b.2, steps := w.steps }
  | none => { counts := [], remainder := c, steps := w.steps }

theorem search_eq_fold (levels : List (Nat × Nat)) (c limit effort : Nat) :
    search levels c limit effort = (walkFold levels c limit effort (walkOrder levels c)).result c := by
  cases levels with
  | nil => by_cases zero : c = 0 <;> simp [search, walkLevels, Walk.leaf, walkFold, walkOrder, Walk.result, zero]
  | cons level rest =>
    have unfolded : search (level :: rest) c limit effort =
        (walkLevels limit effort (level :: rest) c 0 [] { steps := 0, best := none, ended := false }).result c := rfl
    rw [unfolded, walkFold, walkLevels_eq_foldl]

/-! ### What the fold finds -/

section Fold
variable (levels : List (Nat × Nat)) (c limit effort : Nat)

/-- An eligible leaf: a count for every level, and no more pieces than the piece limit (R58). -/
def EligibleLeaf (ks : List Nat) : Prop := ks.length = levels.length ∧ ks.sum ≤ limit

/-- The first of the eligible leaves with the smallest remainder is `ks`, at place `i` (R58). -/
def FirstBest (ts : List (List Nat)) (i : Nat) (ks : List Nat) : Prop :=
  ts[i]? = some ks ∧ EligibleLeaf levels limit ks ∧
    ∀ (j : Nat) (ms : List Nat), ts[j]? = some ms → EligibleLeaf levels limit ms →
      c - spent levels ks ≤ c - spent levels ms ∧ (j < i → c - spent levels ks < c - spent levels ms)

/-- What the walk keeps: the first best leaf, or none where no leaf is eligible. -/
def Keeps (ts : List (List Nat)) : Option (List Nat × Nat) → Prop
  | some b => b.2 = c - spent levels b.1 ∧ ∃ i, FirstBest levels c limit ts i b.1
  | none => ∀ ks ∈ ts, ¬ EligibleLeaf levels limit ks

end Fold

section
variable {levels : List (Nat × Nat)} {c limit effort : Nat}

theorem FirstBest.unique {ts : List (List Nat)} {i j : Nat} {ks ms : List Nat} (h : FirstBest levels c limit ts i ks)
    (k : FirstBest levels c limit ts j ms) : ks = ms := by
  obtain ⟨at_i, leaf_i, best_i⟩ := h
  obtain ⟨at_j, leaf_j, best_j⟩ := k
  obtain ⟨le_j, lt_j⟩ := best_i j ms at_j leaf_j
  obtain ⟨le_i, lt_i⟩ := best_j i ks at_i leaf_i
  have same : i = j := by
    rcases Nat.lt_trichotomy i j with lt | same | lt
    · have := lt_i lt
      omega
    · exact same
    · have := lt_j lt
      omega
  rw [same, at_j] at at_i
  exact (Option.some.inj at_i).symm

/-- A value that is not an eligible leaf changes nothing of what is best. -/
theorem FirstBest.snoc_other {ts : List (List Nat)} {i : Nat} {ks x : List Nat} (h : FirstBest levels c limit ts i ks)
    (worse : EligibleLeaf levels limit x → c - spent levels ks ≤ c - spent levels x) :
    FirstBest levels c limit (ts ++ [x]) i ks := by
  obtain ⟨place, leaf, best⟩ := h
  have low : i < ts.length := (List.getElem?_eq_some_iff.mp place).1
  refine ⟨by rwa [List.getElem?_append_left low], leaf, fun j ms at_j leaf_j => ?_⟩
  rcases Nat.lt_or_ge j ts.length with old | new
  · exact best j ms (by rwa [List.getElem?_append_left old] at at_j) leaf_j
  · rw [List.getElem?_append_right new] at at_j
    obtain ⟨-, rfl⟩ : j - ts.length = 0 ∧ x = ms := by
      cases gap : j - ts.length <;> simp_all
    exact ⟨worse leaf_j, fun before => by omega⟩

/-- A leaf that leaves less than every eligible one before it is the first best. -/
theorem FirstBest.snoc_new {ts : List (List Nat)} {x : List Nat} (leaf : EligibleLeaf levels limit x)
    (better : ∀ ms ∈ ts, EligibleLeaf levels limit ms → c - spent levels x < c - spent levels ms) :
    FirstBest levels c limit (ts ++ [x]) ts.length x := by
  refine ⟨by simp, leaf, fun j ms at_j leaf_j => ?_⟩
  rcases Nat.lt_or_ge j ts.length with old | new
  · rw [List.getElem?_append_left old] at at_j
    have less := better ms (List.mem_of_getElem? at_j) leaf_j
    exact ⟨less.le, fun _ => less⟩
  · rw [List.getElem?_append_right new] at at_j
    obtain ⟨-, rfl⟩ : j - ts.length = 0 ∧ x = ms := by
      cases gap : j - ts.length <;> simp_all
    exact ⟨le_rfl, fun before => by omega⟩

theorem FirstBest.least {ts : List (List Nat)} {i : Nat} {ks ms : List Nat} (h : FirstBest levels c limit ts i ks)
    (mem : ms ∈ ts) (leaf : EligibleLeaf levels limit ms) : c - spent levels ks ≤ c - spent levels ms := by
  obtain ⟨j, at_j⟩ := List.mem_iff_getElem?.mp mem
  exact (h.2.2 j ms at_j leaf).1

/-- No eligible leaf of the list leaves nothing. -/
def NoExact (levels : List (Nat × Nat)) (c limit : Nat) (ts : List (List Nat)) : Prop :=
  ∀ ks ∈ ts, EligibleLeaf levels limit ks → c - spent levels ks ≠ 0

/-- A walk that has not ended judges a leaf and keeps it where it leaves less than the best one (R58). -/
theorem leaf_of_ne_zero {w : Walk} {ks : List Nat} {pieces remainder : Nat} (fits : pieces ≤ limit) (short : remainder ≠ 0)
    (better : ∀ b, w.best = some b → remainder < b.2) :
    w.leaf limit ks pieces remainder = { w with best := some (ks.reverse, remainder) } := by
  rw [Walk.leaf, if_neg (by omega), if_neg short]
  split
  · rfl
  next b best => exact if_pos (better b best)

theorem leaf_of_not_better {w : Walk} {ks : List Nat} {pieces remainder : Nat} {b : List Nat × Nat}
    (short : remainder ≠ 0) (best : w.best = some b) (worse : b.2 ≤ remainder) : w.leaf limit ks pieces remainder = w := by
  simp only [Walk.leaf, if_neg short, best, if_neg (Nat.not_lt.mpr worse), ite_self]

/-- A value that is no eligible leaf takes a step and changes nothing else. -/
theorem visit_of_not_leaf {w : Walk} {ks : List Nat} (going : w.ended = false) (room : w.steps < effort)
    (other : ¬ EligibleLeaf levels limit ks) :
    w.visit limit effort levels c 0 [] ks = { w with steps := w.steps + 1 } := by
  rw [Walk.visit, if_neg (by simp [going]), if_neg (by omega)]
  split
  next full => rw [Walk.leaf, if_pos (by simp only [EligibleLeaf, full, true_and] at other; omega)]
  · rfl

theorem visit_of_leaf {w : Walk} {ks : List Nat} (going : w.ended = false) (room : w.steps < effort)
    (full : EligibleLeaf levels limit ks) :
    w.visit limit effort levels c 0 [] ks =
      { w with steps := w.steps + 1 }.leaf limit ks.reverse ks.sum (c - spent levels ks) := by
  rw [Walk.visit, if_neg (by simp [going]), if_neg (by omega), if_pos full.1, List.append_nil, Nat.zero_add]

/-- A step past a leaf that leaves something keeps the first best leaf of the values tried. -/
theorem Keeps.visit {w : Walk} {ts : List (List Nat)} {x : List Nat} (keeps : Keeps levels c limit ts w.best)
    (going : w.ended = false) (room : w.steps < effort) (short : EligibleLeaf levels limit x → c - spent levels x ≠ 0) :
    ∃ b, w.visit limit effort levels c 0 [] x = { steps := w.steps + 1, best := b, ended := false } ∧
      Keeps levels c limit (ts ++ [x]) b := by
  obtain ⟨steps, best, ended⟩ := w
  obtain rfl : ended = false := going
  by_cases leaf : EligibleLeaf levels limit x
  · have taken (better : ∀ b, best = some b → c - spent levels x < b.2) := by
      exact leaf_of_ne_zero (w := { steps := steps + 1, best := best, ended := false }) (ks := x.reverse) leaf.2
        (short leaf) better
    rw [visit_of_leaf rfl room leaf]
    cases best with
    | none =>
      refine ⟨_, taken (by simp), ?_⟩
      rw [List.reverse_reverse]
      exact ⟨rfl, _, .snoc_new leaf fun ms mem full => absurd full (keeps ms mem)⟩
    | some b =>
      obtain ⟨left, i, first⟩ := keeps
      by_cases better : c - spent levels x < b.2
      · refine ⟨_, taken (by simpa using better), ?_⟩
        rw [List.reverse_reverse]
        exact ⟨rfl, _, .snoc_new leaf fun ms mem full => by
          have := first.least mem full
          omega⟩
      · refine ⟨some b, leaf_of_not_better (short leaf) rfl (by omega), left, i, first.snoc_other fun _ => by omega⟩
  · rw [visit_of_not_leaf rfl room leaf]
    refine ⟨best, rfl, ?_⟩
    cases best with
    | none =>
      intro ks mem
      rcases List.mem_append.mp mem with old | new
      · exact keeps ks old
      · rwa [List.mem_singleton.mp new]
    | some b =>
      obtain ⟨left, i, first⟩ := keeps
      exact ⟨left, i, first.snoc_other fun full => absurd full leaf⟩

theorem walkFold_append (ts rest : List (List Nat)) :
    walkFold levels c limit effort (ts ++ rest) =
      rest.foldl (Walk.visit limit effort levels c 0 []) (walkFold levels c limit effort ts) := List.foldl_append

/-- Without an exact leaf and within the effort limit the walk takes a step for every value and keeps the first best
leaf (R58, R59). -/
theorem walkFold_short {ts : List (List Nat)} (room : ts.length ≤ effort) (short : NoExact levels c limit ts) :
    ∃ b, walkFold levels c limit effort ts = { steps := ts.length, best := b, ended := false } ∧ Keeps levels c limit ts b := by
  induction ts using List.reverseRecOn with
  | nil => exact ⟨none, rfl, by simp [Keeps]⟩
  | append_singleton ts x ih =>
    rw [List.length_append, List.length_singleton] at room
    obtain ⟨b, folded, keeps⟩ := ih (by omega) fun ks mem => short ks (List.mem_append_left _ mem)
    rw [walkFold_append, folded, List.length_append, List.length_singleton]
    exact Keeps.visit (w := { steps := ts.length, best := b, ended := false }) keeps rfl room (short x (by simp))

/-- The step that would pass the effort limit is not taken, and none after it (R59). -/
theorem foldl_visit_spent {w : Walk} (spent : effort ≤ w.steps) (ts : List (List Nat)) :
    (ts.foldl (Walk.visit limit effort levels c 0 []) w).best = w.best ∧
      (ts.foldl (Walk.visit limit effort levels c 0 []) w).steps = w.steps := by
  have stopped (w : Walk) : effort ≤ w.steps → (w.visit limit effort levels c 0 [] = fun _ => w) ∨
      (w.visit limit effort levels c 0 [] = fun _ => { w with ended := true }) := by
    intro spent
    by_cases ended : w.ended = true
    · exact .inl (funext fun ks => by rw [Walk.visit, if_pos ended])
    · exact .inr (funext fun ks => by rw [Walk.visit, if_neg ended, if_pos spent])
  induction ts generalizing w with
  | nil => exact ⟨rfl, rfl⟩
  | cons ks ts ih =>
    rw [List.foldl_cons]
    rcases stopped w spent with same | same
    · rw [same]
      exact ih spent
    · rw [same]
      exact ih (w := { w with ended := true }) spent

/-- Without an exact leaf among the values allowed the walk takes a step for each of these (R59). -/
theorem walkFold_noExact (ts : List (List Nat)) (short : NoExact levels c limit (ts.take effort)) :
    (walkFold levels c limit effort ts).steps = (ts.take effort).length ∧
      Keeps levels c limit (ts.take effort) (walkFold levels c limit effort ts).best := by
  obtain ⟨b, folded, keeps⟩ := walkFold_short (ts.length_take_le effort) short
  have whole : walkFold levels c limit effort ts =
      (ts.drop effort).foldl (Walk.visit limit effort levels c 0 []) (walkFold levels c limit effort (ts.take effort)) := by
    rw [← walkFold_append, List.take_append_drop]
  rcases Nat.lt_or_ge ts.length effort with within | past
  · rw [List.take_of_length_le within.le] at folded keeps ⊢
    rw [folded]
    exact ⟨rfl, keeps⟩
  · rw [whole, folded]
    obtain ⟨best, steps⟩ := foldl_visit_spent (levels := levels) (c := c) (limit := limit) (effort := effort)
      (w := { steps := (ts.take effort).length, best := b, ended := false }) (by simp [past]) (ts.drop effort)
    rw [best, steps]
    exact ⟨rfl, keeps⟩

/-- The first exact leaf ends the walk (R58). -/
theorem walkFold_exact {ts : List (List Nat)} {i : Nat} {ks : List Nat} (place : ts[i]? = some ks) (room : i < effort)
    (leaf : EligibleLeaf levels limit ks) (exact : c - spent levels ks = 0) (short : NoExact levels c limit (ts.take i)) :
    walkFold levels c limit effort ts = { steps := i + 1, best := some (ks, 0), ended := true } := by
  obtain ⟨low, rfl⟩ := List.getElem?_eq_some_iff.mp place
  have length : (ts.take i).length = i := by simp; omega
  obtain ⟨b, folded, -⟩ := walkFold_short (effort := effort) (by omega) short
  have split : ts = ts.take i ++ ts[i] :: ts.drop (i + 1) := by simp
  rw [length] at folded
  have ends : Walk.visit limit effort levels c 0 [] { steps := i, best := b, ended := false } ts[i] =
      { steps := i + 1, best := some (ts[i], 0), ended := true } := by
    rw [visit_of_leaf rfl room leaf, exact, Walk.leaf, if_neg (by have := leaf.2; omega), if_pos rfl, List.reverse_reverse]
  calc walkFold levels c limit effort ts
      = (ts.drop (i + 1)).foldl (Walk.visit limit effort levels c 0 [])
          (Walk.visit limit effort levels c 0 [] (walkFold levels c limit effort (ts.take i)) ts[i]) := by
        rw [← List.foldl_cons (a := ts[i]), ← walkFold_append, ← split]
    _ = { steps := i + 1, best := some (ts[i], 0), ended := true } := by
        rw [folded, ends, foldl_visit_ended rfl]

/-! ### What a search gives -/

/-- A search ends at its first exact leaf within the effort limit; without one it takes a step for every value it may
try and gives the first best leaf (R58, R59). -/
theorem search_exact {i : Nat} {ks : List Nat} (place : ((walkOrder levels c).take effort)[i]? = some ks)
    (leaf : EligibleLeaf levels limit ks) (exact : c - spent levels ks = 0)
    (short : NoExact levels c limit ((walkOrder levels c).take i)) :
    search levels c limit effort = { counts := ks, remainder := 0, steps := i + 1 } := by
  rw [List.getElem?_take] at place
  split at place
  next room => rw [search_eq_fold, walkFold_exact place room leaf exact short]; rfl
  · cases place

theorem search_noExact (short : NoExact levels c limit ((walkOrder levels c).take effort)) :
    (search levels c limit effort).steps = ((walkOrder levels c).take effort).length ∧
      ((∀ ks ∈ (walkOrder levels c).take effort, ¬ EligibleLeaf levels limit ks) ∧
          (search levels c limit effort).counts = [] ∧ (search levels c limit effort).remainder = c ∨
        ∃ i, FirstBest levels c limit ((walkOrder levels c).take effort) i (search levels c limit effort).counts ∧
          (search levels c limit effort).remainder = c - spent levels (search levels c limit effort).counts) := by
  obtain ⟨steps, keeps⟩ := walkFold_noExact (walkOrder levels c) short
  rw [search_eq_fold]
  generalize walkFold levels c limit effort (walkOrder levels c) = w at steps keeps
  simp only [Walk.result]
  cases best : w.best with
  | none => exact ⟨steps, .inl ⟨by rwa [best] at keeps, rfl, rfl⟩⟩
  | some b =>
    rw [best] at keeps
    obtain ⟨left, i, first⟩ := keeps
    exact ⟨steps, .inr ⟨i, first, left⟩⟩

/-- Either the values a search may try hold a first exact leaf, or they hold none. -/
theorem exact_or_noExact (ts : List (List Nat)) :
    (∃ i ks, ts[i]? = some ks ∧ EligibleLeaf levels limit ks ∧ c - spent levels ks = 0 ∧ NoExact levels c limit (ts.take i)) ∨
      NoExact levels c limit ts := by
  induction ts using List.reverseRecOn with
  | nil => exact .inr (by simp [NoExact])
  | append_singleton ts x ih =>
    rcases ih with ⟨i, ks, place, found⟩ | none
    · have low := (List.getElem?_eq_some_iff.mp place).1
      rw [← List.take_append_of_le_length (l₂ := [x]) low.le] at found
      exact .inl ⟨i, ks, by rwa [List.getElem?_append_left low], found⟩
    · by_cases exact : EligibleLeaf levels limit x ∧ c - spent levels x = 0
      · exact .inl ⟨ts.length, x, by simp, exact.1, exact.2, by simpa using none⟩
      · refine .inr fun ks mem full => ?_
        rcases List.mem_append.mp mem with old | new
        · exact none ks old full
        · rw [List.mem_singleton.mp new] at full ⊢
          exact fun zero => exact ⟨full, zero⟩

end

/-! ### The values of the walk -/

theorem mem_walkOrder_cons {v u c : Nat} {rest : List (Nat × Nat)} {ks : List Nat} :
    ks ∈ walkOrder ((v, u) :: rest) c ↔
      ∃ k ms, ks = k :: ms ∧ k ≤ min (c / v) u ∧ (ms = [] ∨ ms ∈ walkOrder rest (c - k * v)) := by
  simp only [walkOrder, List.mem_flatMap, List.mem_reverse, List.mem_range, List.mem_cons, List.mem_map, Nat.lt_succ_iff]
  constructor
  · rintro ⟨k, low, rfl | ⟨ms, mem, rfl⟩⟩
    · exact ⟨k, [], rfl, low, .inl rfl⟩
    · exact ⟨k, ms, rfl, low, .inr mem⟩
  · rintro ⟨k, ms, rfl, low, rfl | mem⟩
    · exact ⟨k, low, .inl rfl⟩
    · exact ⟨k, low, .inr ⟨ms, mem, rfl⟩⟩

/-- The values tried spend no more than the planned amount. -/
theorem spent_le_of_mem_walkOrder {levels : List (Nat × Nat)} {c : Nat} {ks : List Nat} (mem : ks ∈ walkOrder levels c) :
    spent levels ks ≤ c := by
  induction levels generalizing c ks with
  | nil => cases mem
  | cons level rest ih =>
    obtain ⟨v, u⟩ := level
    obtain ⟨k, ms, rfl, low, below⟩ := mem_walkOrder_cons.mp mem
    have first : k * v ≤ c :=
      (Nat.mul_le_mul_right v (low.trans (min_le_left ..))).trans (Nat.div_mul_le_self c v)
    rw [spent_cons]
    rcases below with rfl | deeper
    · simpa using first
    · have := ih deeper
      omega

/-- Every choice of counts for all levels, within the usable counts and the planned amount, is tried. -/
theorem mem_walkOrder {levels : List (Nat × Nat)} {c : Nat} {ks : List Nat} (some : levels ≠ [])
    (values : ∀ e ∈ levels, 0 < e.1) (full : ks.length = levels.length) (usable : ∀ e ∈ levels.zip ks, e.2 ≤ e.1.2)
    (within : spent levels ks ≤ c) : ks ∈ walkOrder levels c := by
  induction levels generalizing c ks with
  | nil => exact absurd rfl some
  | cons level rest ih =>
    obtain ⟨v, u⟩ := level
    cases ks with
    | nil => cases full
    | cons k ms =>
      rw [List.zip_cons_cons, List.forall_mem_cons] at usable
      obtain ⟨value, values⟩ := List.forall_mem_cons.mp values
      rw [spent_cons] at within
      have most : k ≤ c / v := (Nat.le_div_iff_mul_le value).mpr ((Nat.le_add_right ..).trans within)
      refine mem_walkOrder_cons.mpr ⟨k, ms, rfl, le_min most usable.1, ?_⟩
      by_cases last : rest = []
      · exact .inl (by simpa [last] using full)
      · exact .inr (ih last values (by simpa using full) usable.2 (by omega))

/-! ### The best there is -/

/-- A search that was not cut by the effort limit leaves no more than any choice would (R58, R59). -/
theorem search_least {levels : List (Nat × Nat)} {c limit effort : Nat} {ks : List Nat} (values : ∀ e ∈ levels, 0 < e.1)
    (uncut : (search levels c limit effort).steps < effort) (leaf : EligibleLeaf levels limit ks)
    (usable : ∀ e ∈ levels.zip ks, e.2 ≤ e.1.2) (within : spent levels ks ≤ c) :
    (search levels c limit effort).remainder + spent levels ks ≤ c := by
  rcases exact_or_noExact (levels := levels) (c := c) (limit := limit) ((walkOrder levels c).take effort) with
    ⟨i, ms, place, full, exact, short⟩ | short
  · have low := (List.getElem?_eq_some_iff.mp place).1
    rw [List.take_take, min_eq_left (by rw [List.length_take] at low; omega)] at short
    rw [search_exact place full exact short]
    simpa using within
  · obtain ⟨steps, found⟩ := search_noExact short
    have whole : (walkOrder levels c).take effort = walkOrder levels c :=
      List.take_of_length_le (by rw [steps, List.length_take] at uncut; omega)
    rw [whole] at found
    by_cases none : levels = []
    · subst none
      rcases found with ⟨-, -, remainder⟩ | ⟨i, -, remainder⟩ <;> simp [remainder]
    have mem := mem_walkOrder none values leaf.1 usable within
    rcases found with ⟨noLeaf, -⟩ | ⟨i, first, remainder⟩
    · exact absurd leaf (noLeaf ks mem)
    · have := first.least mem leaf
      omega

/-- Settles O46: a search is a fold over the values in their order; it stops at the first exact leaf, and else keeps the
first best one of those it may try. -/
theorem searchFindsBest : Obligations.SearchFindsBest := by
  refine ⟨fun levels c pieceLimit effortLimit ks values uncut full usable pieces within =>
    search_least values uncut ⟨full, pieces⟩ usable within, ?_⟩
  intro levels c pieceLimit effortLimit tried leaf left r
  refine ⟨fun i ks place full exact before => ?_, fun short => ?_⟩
  · refine search_exact place full exact fun ms mem leafMs => ?_
    obtain ⟨j, at_j⟩ := List.mem_iff_getElem?.mp mem
    rw [List.getElem?_take] at at_j
    split at at_j
    next low =>
      have room : i < effortLimit := by
        have := (List.getElem?_eq_some_iff.mp place).1
        rw [List.length_take] at this
        omega
      exact before j ms low (by rwa [List.getElem?_take, if_pos (by omega)]) leafMs
    · cases at_j
  · obtain ⟨steps, found⟩ := search_noExact (limit := pieceLimit) short
    refine ⟨steps, fun noLeaf => ?_, fun i ks place full best => ?_⟩
    · rcases found with ⟨-, empty⟩ | ⟨i, first, -⟩
      · exact empty
      · exact absurd first.2.1 (noLeaf _ (List.mem_of_getElem? first.1))
    · rcases found with ⟨noLeaf, -⟩ | ⟨j, first, remainder⟩
      · exact absurd full (noLeaf ks (List.mem_of_getElem? place))
      · have same : r.counts = ks := first.unique ⟨place, full, best⟩
        exact ⟨same, remainder.trans (by rw [same]; rfl)⟩

end Sys2Proof.Machine
end

section
/-! SUPPORT. What a search walks and gives, and the plan made of it (R55 to R60). -/

namespace Sys2Proof.Machine

-- One proof after the other: many short proofs at once take more threads than the check's memory limit has room for.
set_option Elab.async false

/-! ### What a search gives, whatever its levels -/

/-- A result within its levels' planned amount and piece limit (R58, R60). -/
structure SearchResult.Within (r : SearchResult) (levels : List (Nat × Nat)) (c limit effort : Nat) : Prop where
  length : r.counts = [] ∨ r.counts.length = levels.length
  pieces : r.counts.sum ≤ limit
  total : spent levels r.counts + r.remainder = c
  steps : r.steps ≤ effort

theorem search_bounds (levels : List (Nat × Nat)) (c limit effort : Nat) :
    (search levels c limit effort).Within levels c limit effort := by
  have ofLeaf {r : SearchResult} {ks : List Nat} (mem : ks ∈ (walkOrder levels c).take effort)
      (leaf : EligibleLeaf levels limit ks) (counts : r.counts = ks) (remainder : r.remainder = c - spent levels ks)
      (steps : r.steps ≤ effort) : r.Within levels c limit effort := by
    have within := spent_le_of_mem_walkOrder (List.mem_of_mem_take mem)
    subst counts
    exact ⟨.inr leaf.1, leaf.2, by omega, steps⟩
  rcases exact_or_noExact (levels := levels) (c := c) (limit := limit) ((walkOrder levels c).take effort) with
    ⟨i, ks, place, leaf, exact, short⟩ | short
  · have low := (List.getElem?_eq_some_iff.mp place).1
    rw [List.length_take] at low
    rw [List.take_take, min_eq_left (by omega)] at short
    have mem := List.mem_of_getElem? place
    rw [search_exact place leaf exact short]
    exact ofLeaf mem leaf rfl exact.symm (by simp only; omega)
  · obtain ⟨steps, found⟩ := search_noExact short
    have cut : (search levels c limit effort).steps ≤ effort := by
      rw [steps]
      exact List.length_take_le ..
    rcases found with ⟨-, counts, remainder⟩ | ⟨i, first, remainder⟩
    · exact ⟨.inl counts, by simp [counts], by simp [counts, remainder], cut⟩
    · exact ofLeaf (List.mem_of_getElem? first.1) first.2.1 rfl remainder cut

/-- No count of a search passes the usable count of its level (R58). -/
theorem search_usable (levels : List (Nat × Nat)) (c limit effort : Nat) :
    ∀ e ∈ levels.zip (search levels c limit effort).counts, e.2 ≤ e.1.2 := by
  rcases search_within levels c limit effort with none | bounded
  · simp [none]
  · intro e mem
    rw [← List.zip_swap, List.mem_map] at mem
    obtain ⟨⟨k, level⟩, mem, rfl⟩ := mem
    exact (List.forall₂_iff_zip.mp bounded).2 mem

/-! ### The walked slots -/

theorem State.insertByValue_perm (s : State) (d : Slot) (ds : List Slot) : (s.insertByValue d ds).Perm (d :: ds) := by
  induction ds with
  | nil => exact .refl _
  | cons x xs ih =>
    rw [State.insertByValue]
    split
    · exact .refl _
    · exact (ih.cons x).trans (.swap ..)

theorem State.foldr_insertByValue_perm (s : State) (ds : List Slot) : (ds.foldr s.insertByValue []).Perm ds := by
  induction ds with
  | nil => exact .refl _
  | cons d ds ih => exact (s.insertByValue_perm d _).trans (ih.cons d)

theorem State.walkedSlots_perm (s : State) :
    s.walkedSlots.Perm (allSlots.filter fun d => (s.denoms.get d).enabled && (s.denoms.get d).recycle) :=
  s.foldr_insertByValue_perm _

theorem State.mem_walkedSlots {s : State} {d : Slot} :
    d ∈ s.walkedSlots ↔ (s.denoms.get d).enabled = true ∧ (s.denoms.get d).recycle = true := by
  rw [s.walkedSlots_perm.mem_iff]
  simp

theorem State.walkedSlots_nodup (s : State) : s.walkedSlots.Nodup :=
  s.walkedSlots_perm.nodup_iff.mpr (List.Nodup.filter _ (by decide))

/-- The slots stand in descending value, those of one value side by side (R58). -/
def State.Descending (s : State) (ds : List Slot) : Prop := ds.Pairwise fun d e => s.slotValue e ≤ s.slotValue d

theorem State.Descending.insertByValue {s : State} {ds : List Slot} (h : s.Descending ds) (d : Slot) :
    s.Descending (s.insertByValue d ds) := by
  induction ds with
  | nil => exact List.pairwise_singleton ..
  | cons x xs ih =>
    obtain ⟨head, tail⟩ := List.pairwise_cons.mp h
    rw [State.insertByValue]
    split
    next less =>
      refine List.pairwise_cons.mpr ⟨fun e mem => ?_, h⟩
      rcases List.mem_cons.mp mem with rfl | mem
      · exact less.le
      · exact (head e mem).trans less.le
    next more =>
      refine List.pairwise_cons.mpr ⟨fun e mem => ?_, ih tail⟩
      rcases List.mem_cons.mp ((s.insertByValue_perm d xs).mem_iff.mp mem) with rfl | mem
      · exact Nat.not_lt.mp more
      · exact head e mem

theorem State.walkedSlots_descending (s : State) : s.Descending s.walkedSlots := by
  rw [State.walkedSlots]
  induction allSlots.filter fun d => (s.denoms.get d).enabled && (s.denoms.get d).recycle with
  | nil => exact .nil
  | cons d ds ih => exact ih.insertByValue d

/-- No two walked slots are of one value, so the order is strict (R1, R58). -/
theorem State.walkedSlots_strict {s : State} (law : s.DenomLaw) :
    s.walkedSlots.Pairwise fun d e => (s.denoms.get e).value < (s.denoms.get d).value := by
  have both := s.walkedSlots_descending.and s.walkedSlots_nodup
  refine List.Pairwise.imp_of_mem (fun {d e} memD memE h => ?_) both
  obtain ⟨order, ne⟩ := h
  obtain ⟨enabledD, -⟩ := State.mem_walkedSlots.mp memD
  obtain ⟨enabledE, -⟩ := State.mem_walkedSlots.mp memE
  exact lt_of_le_of_ne order ((distinctValues_iff _).mp law e d ne.symm enabledE enabledD)

/-! ### The plan of a result -/

theorem fst_zip_sublist {α β : Type} (xs : List α) (ys : List β) : ((xs.zip ys).map Prod.fst).Sublist xs := by
  induction xs generalizing ys with
  | nil => simp
  | cons x xs ih =>
    cases ys with
    | nil => simp
    | cons y ys => exact (ih ys).cons_cons x

theorem snd_zip_sublist {α β : Type} (xs : List α) (ys : List β) : ((xs.zip ys).map Prod.snd).Sublist ys := by
  induction xs generalizing ys with
  | nil => simp
  | cons x xs ih =>
    cases ys with
    | nil => simp
    | cons y ys => exact (ih ys).cons_cons y

theorem State.mem_planOf {s : State} {r : SearchResult} {d : Slot} {n : Nat} :
    (d, n) ∈ s.planOf r ↔ 0 < n ∧ ∃ i : Nat, s.walkedSlots[i]? = some d ∧ r.counts[i]? = some n := by
  rw [State.planOf, List.mem_filter, List.mem_iff_getElem?]
  simp [List.getElem?_zip_eq_some, and_comm]

theorem State.planOf_sublist (s : State) (r : SearchResult) : ((s.planOf r).map Prod.fst).Sublist s.walkedSlots := by
  have zipped : ((s.walkedSlots.zip r.counts).map Prod.fst).Sublist s.walkedSlots :=
    fst_zip_sublist ..
  exact (List.filter_sublist.map _).trans zipped

/-- Entries without pieces add nothing to a sum. -/
theorem sum_filter_pos {α : Type} (f : α → Nat) (p : α → Bool) (zero : ∀ e, p e = false → f e = 0) (es : List α) :
    ((es.filter p).map f).sum = (es.map f).sum := by
  induction es with
  | nil => rfl
  | cons e es ih =>
    cases h : p e
    · simp [h, ih, zero e h]
    · simp [h, ih]

theorem State.planOf_pieces (s : State) (r : SearchResult) : ((s.planOf r).map Prod.snd).sum ≤ r.counts.sum := by
  rw [State.planOf, sum_filter_pos _ _ (by simp)]
  exact (snd_zip_sublist ..).sum_le_sum (by simp)

theorem State.planOf_value (s : State) (r : SearchResult) (usable : Slot → Nat) :
    ((s.planOf r).map fun e => e.2 * (s.denoms.get e.1).value).sum =
      spent (s.walkedSlots.map fun d => (s.slotValue d, usable d)) r.counts := by
  rw [State.planOf, sum_filter_pos _ _ (by simp), spent, List.zip_map_left, List.map_map]
  rfl

theorem State.planOf_usable (s : State) (l : Lane) (tag amount : Nat) (shielded : Bool) :
    ∀ e ∈ s.planOf (s.searchFor l tag amount shielded), e.2 ≤ s.usable l tag shielded e.1 := by
  intro e mem
  have level := search_usable (s.walkedSlots.map fun d => (s.slotValue d, s.usable l tag shielded d))
    (s.plannedAmount amount) s.limits.piece s.limits.effort
  rw [List.zip_map_left, List.forall_mem_map] at level
  exact level e (List.mem_of_mem_filter mem)

/-- The usable count of a slot, written out: M - Q - H (R55, R56). -/
theorem State.usable_eq (s : State) (l : Lane) (tag : Nat) (shielded : Bool) (d : Slot) :
    s.usable l tag shielded d =
      ((allUnits.filter fun u => decide ((s.units.get u).slot = some d) && decide ((s.units.get u).state = .active) &&
          (s.units.get u).mask.has l && !(s.mechs.get (unitKind u)).phase.isFault).map fun u =>
        (s.units.get u).count - (s.units.get u).committed).sum -
      ((s.reservations.filter fun r => decide (¬ (r.lane = l ∧ r.tag = tag))).map fun r => planCount r.counts d).sum -
      (if shielded = true ∧ (s.lanes.get l.other).opened = true ∧ (s.lanes.get l.other).holding = true then
        (s.floors.get l.other).get d -
          ((s.reservations.filter fun r => decide (r.lane = l.other)).map fun r => planCount r.counts d).sum
      else 0) := by
  simp [State.usable, State.served, State.sumUnits, State.serves, State.unitOfSlot, State.unitActive, State.mechFault,
    UnitRec.free, State.reservedByOthers, reservedIn, State.shield, State.reservedLane, Bool.and_assoc]

/-- Settles O45: what a search gives is a leaf of its walk, and the plan takes its counts above 0. -/
theorem searchSound : Obligations.SearchSound := by
  refine ⟨fun l tag amount shielded s => ?_, fun levels c pieceLimit effortLimit => ?_⟩
  · intro found plan o
    have bounds := search_bounds (s.walkedSlots.map fun d => (s.slotValue d, s.usable l tag shielded d))
      (s.plannedAmount amount) s.limits.piece s.limits.effort
    refine ⟨rfl, fun d => State.mem_walkedSlots, s.walkedSlots_nodup, State.walkedSlots_strict, s.usable_eq l tag shielded,
      fun d n => State.mem_planOf, s.planOf_sublist found, fun e mem => ?_, (s.planOf_pieces found).trans bounds.pieces, ?_⟩
    · exact s.planOf_usable l tag amount shielded e mem
    · rw [s.planOf_value found (s.usable l tag shielded)]
      exact bounds.total
  · have bounds := search_bounds levels c pieceLimit effortLimit
    exact ⟨bounds.length, search_usable levels c pieceLimit effortLimit, bounds.pieces, bounds.total, bounds.steps⟩

end Sys2Proof.Machine
end

section
/-! SUPPORT. PLAN_REQUEST_TAKEN for a QUOTE (R53, R61 to R65). -/

namespace Sys2Proof.Machine

-- One proof after the other: many short proofs at once take more threads than the check's memory limit has room for.
set_option Elab.async false

/-! ### The taking -/

theorem exec_planRequestTaken {s : State} (running : s.Running) {r : PlanReq} {rest : List PlanReq}
    (reqs : s.planReqs = r :: rest) : exec .planRequestTaken s = .next ({ s with planReqs := rest }.plan r) := by
  have taken : exec .planRequestTaken s = .next (takePlanRequestTaken s.firstEvent) := rfl
  rw [taken, State.firstEvent_running running, takePlanRequestTaken, State.whenPowered, if_pos running.1, reqs]

theorem exec_planRequestTaken_none {s : State} (running : s.Running) (reqs : s.planReqs = []) :
    exec .planRequestTaken s = .next s := by
  have taken : exec .planRequestTaken s = .next (takePlanRequestTaken s.firstEvent) := rfl
  rw [taken, State.firstEvent_running running, takePlanRequestTaken, State.whenPowered, if_pos running.1, reqs]

/-! ### What a search reads is not the request list -/

section
variable (s : State) (rest : List PlanReq)

theorem State.insertByValue_withReqs : ({ s with planReqs := rest } : State).insertByValue = s.insertByValue := by
  funext d ds
  induction ds with
  | nil => rfl
  | cons x xs ih => exact congrArg (fun ys => if s.slotValue x < s.slotValue d then d :: x :: xs else x :: ys) ih

@[simp] theorem State.walkedSlots_withReqs : ({ s with planReqs := rest } : State).walkedSlots = s.walkedSlots := by
  rw [State.walkedSlots, State.insertByValue_withReqs, State.walkedSlots]

@[simp] theorem State.searchFor_withReqs :
    ({ s with planReqs := rest } : State).searchFor = s.searchFor := by
  funext l tag amount shielded
  rw [State.searchFor, State.walkedSlots_withReqs]
  rfl

@[simp] theorem State.planOf_withReqs : ({ s with planReqs := rest } : State).planOf = s.planOf := by
  funext found
  rw [State.planOf, State.walkedSlots_withReqs, State.planOf]

@[simp] theorem State.shieldedSlots_withReqs : ({ s with planReqs := rest } : State).shieldedSlots = s.shieldedSlots := by
  funext l shielded
  rw [State.shieldedSlots, State.walkedSlots_withReqs]
  rfl

@[simp] theorem State.secondSearch_withReqs : ({ s with planReqs := rest } : State).secondSearch = s.secondSearch := by
  funext r first
  rw [State.secondSearch, State.shieldedSlots_withReqs, State.secondSearch]

end

/-! ### When a second search runs, and what it says (R62) -/

theorem State.secondSearch_iff (s : State) (r : PlanReq) (first : SearchResult) :
    s.secondSearch r first = true ↔ 0 < first.remainder ∧ r.amount ≤ s.limits.payout ∧
      ∃ d ∈ s.walkedSlots, 0 < s.shield r.lane d r.shielded := by
  simp [State.secondSearch, State.shieldedSlots, and_assoc, Nat.pos_iff_ne_zero]

/-- The quote is floor-blocked (R62). -/
def State.quoteBlocked (s : State) (r : PlanReq) : Bool :=
  floorBlockedBy (s.liftedSearch r (s.searchFor r.lane r.tag r.amount r.shielded))

@[simp] theorem State.quoteBlocked_withReqs (s : State) (rest : List PlanReq) (r : PlanReq) :
    ({ s with planReqs := rest } : State).quoteBlocked r = s.quoteBlocked r := by
  simp only [State.quoteBlocked, State.liftedSearch, State.secondSearch_withReqs, State.searchFor_withReqs]

theorem State.quoteBlocked_iff (s : State) (r : PlanReq) :
    s.quoteBlocked r = true ↔ s.secondSearch r (s.searchFor r.lane r.tag r.amount r.shielded) = true ∧
      (s.searchFor r.lane r.tag r.amount false).remainder = 0 := by
  rw [State.quoteBlocked, State.liftedSearch]
  split <;> simp_all [floorBlockedBy]

/-! ### The completion (R61 to R65) -/

section
variable (s : State) (r : PlanReq) (x : Sale)

/-- What the completion makes of the sale (R61, R64). -/
def State.quotedSale (y : Sale) : Sale :=
  y.quoted (s.plannedAmount r.amount) (s.planOf (s.searchFor r.lane r.tag r.amount r.shielded))
    (s.shortfallOf r.amount (s.searchFor r.lane r.tag r.amount r.shielded)) (s.quoteBlocked r)

theorem State.completeQuote_findSale (found : s.findSale r.lane r.tag = some x) :
    (s.completeQuote r x).findSale r.lane r.tag = some (s.quotedSale r x) := by
  refine (?_ : _ = (s.modSale r.lane r.tag (s.quotedSale r)).findSale r.lane r.tag).trans
    (State.modSale_found found fun _ => rfl)
  have sales : (s.completeQuote r x).sales = (s.modSale r.lane r.tag (s.quotedSale r)).sales := by
    simp only [State.completeQuote]
    split <;> split <;> simp [State.reserve] <;> rfl
  simp only [State.findSale, sales]

theorem State.completeQuote_otherSales : (s.completeQuote r x).sales.get r.lane.other = s.sales.get r.lane.other := by
  have other : r.lane.other ≠ r.lane := by cases r.lane <;> decide
  simp only [State.completeQuote]
  split <;> split <;> simp [State.reserve, State.modSale, PerLane.get_modify, other]

theorem State.completeQuote_lanes :
    (s.completeQuote r x).lanes =
      if s.quoteBlocked r then
        s.lanes.set r.lane { s.lanes.get r.lane with
          blockedSale := some r.tag, asked := slotsMask (s.shieldedSlots r.lane r.shielded) }
      else s.lanes := by
  rw [State.quoteBlocked]
  simp only [State.completeQuote]
  generalize s.liftedSearch r (s.searchFor r.lane r.tag r.amount r.shielded) = second
  generalize floorBlockedBy second = blocked
  cases blocked <;> cases second <;> simp [State.reserve, State.setNeed, State.sampleBlocked, PerLane.modify]

theorem State.completeQuote_ports :
    (s.completeQuote r x).ports = (s.answer r.lane.port .quote
      (quoteFields x (s.planOf (s.searchFor r.lane r.tag r.amount r.shielded)) (s.plannedAmount r.amount)
        (s.shortfallOf r.amount (s.searchFor r.lane r.tag r.amount r.shielded)) (s.quoteBlocked r))).ports := by
  simp only [State.completeQuote, State.quoteBlocked, State.answer, State.pushFrame_ports]
  generalize s.liftedSearch r (s.searchFor r.lane r.tag r.amount r.shielded) = second
  generalize floorBlockedBy second = blocked
  cases blocked <;> cases second <;> simp [State.reserve]

theorem State.completeQuote_saw :
    Saw s (s.completeQuote r x)
      (planSamples r.lane (outcomeOf (s.shortfallOf r.amount (s.searchFor r.lane r.tag r.amount r.shielded)))
          (s.planOf (s.searchFor r.lane r.tag r.amount r.shielded))
          (s.searchFor r.lane r.tag r.amount r.shielded).steps ++
        (if s.secondSearch r (s.searchFor r.lane r.tag r.amount r.shielded) then
          [{ kind := .planSteps, lane := .lane r.lane, slots := none
             value := (s.searchFor r.lane r.tag r.amount false).steps }]
        else []) ++
        if s.quoteBlocked r then
          [{ kind := .floorBlocked, lane := .lane r.lane, value := 1
             slots := some (slotsMask (s.shieldedSlots r.lane r.shielded)) }]
        else []) := by
  intro n
  simp only [State.completeQuote, State.quoteBlocked, State.liftedSearch]
  generalize outcomeOf _ = o
  cases o <;> split <;> split <;>
    simp_all [State.reserve, State.sampleOutcome, State.sampleSteps, State.sampleBlocked, State.setNeed, planSamples]

end

/-- Settles O43: the parts of the completion, each on its own, read from the state as it is taken. -/
theorem quoteCompletion : Obligations.QuoteCompletion := by
  intro r rest x s running reqs quote found
  let left : State := { s with planReqs := rest }
  have sale : left.findSale r.lane r.tag = some x := found
  have next : exec .planRequestTaken s = .next (left.completeQuote r x) := by
    rw [exec_planRequestTaken running reqs, State.plan, sale]
    simp only [quote]
    rfl
  have blocked := s.quoteBlocked_iff r
  rw [State.secondSearch_iff] at blocked
  have findSale := left.completeQuote_findSale r x sale
  have lanes := left.completeQuote_lanes r x
  have ports := left.completeQuote_ports r x
  have saw := left.completeQuote_saw r x
  obtain ⟨-, planReqs, reservations⟩ := left.completeQuote_parts r x
  simp only [left, State.quotedSale, State.searchFor_withReqs, State.planOf_withReqs, State.shieldedSlots_withReqs, State.quoteBlocked_withReqs,
    State.secondSearch_withReqs, State.secondSearch_iff] at findSale lanes ports saw reservations
  refine ⟨_, s.quoteBlocked r, next, by simpa [and_assoc] using blocked, planReqs, saw, findSale, reservations, lanes,
    ports, left.completeQuote_otherSales r x, ?_⟩
  simp [left]

end Sys2Proof.Machine
end

section
/-! SUPPORT. PLAN_REQUEST_TAKEN for a REFUND or a REPLAN (R53, R66 to R68, R124). -/

namespace Sys2Proof.Machine

-- One proof after the other: many short proofs at once take more threads than the check's memory limit has room for.
set_option Elab.async false

/-! ### Where the jobs of a REPLAN stand (R124) -/

theorem behindLast_none {l : Lane} {tag : Nat} {q : List Job} (none : ∀ j ∈ q, j.ofSale l tag = false) (js : List Job) :
    behindLast l tag q js = js ++ q := by
  have whole : q.reverse.takeWhile (fun j => !j.ofSale l tag) = q.reverse :=
    List.takeWhile_eq_self_iff.mpr fun j mem => by simp [none j (List.mem_reverse.mp mem)]
  simp [behindLast, lastOf, whole]

theorem behindLast_last {l : Lane} {tag : Nat} {j : Job} {back : List Job} (own : j.ofSale l tag = true)
    (last : ∀ i ∈ back, i.ofSale l tag = false) (front js : List Job) :
    behindLast l tag (front ++ j :: back) js = front ++ j :: (js ++ back) := by
  have behind : (front ++ j :: back).reverse.takeWhile (fun i => !i.ofSale l tag) = back.reverse := by
    rw [List.reverse_append, List.reverse_cons, List.append_assoc,
      List.takeWhile_append_of_pos fun i mem => by simp [last i (List.mem_reverse.mp mem)]]
    simp [own]
  have place : lastOf l tag (front ++ j :: back) = (front ++ [j]).length := by
    rw [lastOf, behind]
    simp only [List.length_append, List.length_cons, List.length_reverse, List.length_nil]
    omega
  rw [behindLast, place, List.append_cons front j back, List.take_left, List.drop_left]
  simp

/-! ### What a split reads is not the request list -/

section
variable (s : State) (rest : List PlanReq)

theorem splitEntry_withReqs (l : Lane) (d : Slot) (n k : Nat) :
    splitEntry l d n k { s with planReqs := rest } =
      ((splitEntry l d n k s).1, (splitEntry l d n k s).2.1, { (splitEntry l d n k s).2.2 with planReqs := rest }) := by
  induction n generalizing k s with
  | zero => rfl
  | succ n ih =>
    have same : ({ s with planReqs := rest } : State).roomiest l d = s.roomiest l d := rfl
    by_cases zero : k = 0
    · subst zero
      simp only [splitEntry_zero]
    cases best : s.roomiest l d with
    | none => simp only [splitEntry, if_neg zero, same, best]
    | some u =>
      have deeper := ih (s.commit u (min (s.units.get u).free k)) (k - min (s.units.get u).free k)
      have commit : ({ s with planReqs := rest } : State).commit u (min (s.units.get u).free k) =
          { s.commit u (min (s.units.get u).free k) with planReqs := rest } := rfl
      simp only [splitEntry, if_neg zero, same, best, commit, deeper]

theorem splitPlan_withReqs (l : Lane) (plan : Plan) : splitPlan l plan { s with planReqs := rest } = splitPlan l plan s := by
  induction plan generalizing s with
  | nil => rfl
  | cons e plan ih =>
    obtain ⟨d, k⟩ := e
    simp only [splitPlan, splitEntry_withReqs, ih]
    rfl

theorem State.jobsOf_withReqs (l : Lane) (tag n : Nat) (xs : List Share) :
    ({ s with planReqs := rest } : State).jobsOf l tag n xs = s.jobsOf l tag n xs := by
  induction xs generalizing n with
  | nil => rfl
  | cons x xs ih => rw [State.jobsOf, ih, State.jobsOf]; rfl

theorem State.commitAll_withReqs (xs : List Share) :
    ({ s with planReqs := rest } : State).commitAll xs = { s.commitAll xs with planReqs := rest } := by
  induction xs generalizing s with
  | nil => rfl
  | cons x xs ih => exact ih (s.commit x.unit x.pieces)

end

/-! ### The completion before its settlement test (R66, R67, R69) -/

section
variable (s : State) (r : PlanReq)

/-- The plan's split over the units. -/
def State.completionSplit : List Share × Nat :=
  splitPlan r.lane (s.planOf (s.searchFor r.lane r.tag r.amount r.shielded)) s

/-- The part of the amount that becomes no job (R67). -/
def State.completionUnplanned : Nat :=
  s.shortfallOf r.amount (s.searchFor r.lane r.tag r.amount r.shielded) + (s.completionSplit r).2 +
    s.sharesValue ((s.completionSplit r).1.drop (Config.laneQueueRoom - (s.laneJobs.get r.lane).length))

/-- The jobs placed, the part without jobs recorded, and the samples taken. -/
def State.completed : State :=
  (((s.placeShares r.lane r.tag (s.completionShares r) (r.kind.place r.lane r.tag)).recordUnplanned r.lane r.tag
    (s.completionUnplanned r)).sampleOutcome r.lane
      (outcomeOf (s.shortfallOf r.amount (s.searchFor r.lane r.tag r.amount r.shielded)))
      (s.planOf (s.searchFor r.lane r.tag r.amount r.shielded))).sampleSteps r.lane
    (s.searchFor r.lane r.tag r.amount r.shielded).steps

theorem State.completeJobs_eq : s.completeJobs r = (s.completed r).settleTest r.lane r.tag := rfl

/-- What the record of the part without jobs makes of a sale (R67). -/
def Sale.unplanned (x : Sale) (v : Nat) : Sale :=
  match x.state with
  | .paying => { x with shortfall := satAdd x.shortfall v }
  | .refunding => { x with refundShortfall := x.refundShortfall.map fun r => satAdd r v }
  | _ => x

theorem Sale.unplanned_same (x : Sale) (v : Nat) :
    (x.unplanned v).tag = x.tag ∧ (x.unplanned v).state = x.state ∧ (x.unplanned v).plan = x.plan ∧
      (x.unplanned v).planned = x.planned ∧ (x.unplanned v).outcome = x.outcome ∧
      (x.unplanned v).floorBlocked = x.floorBlocked := by
  cases state : x.state <;> simp [Sale.unplanned, state]

theorem State.recordUnplanned_eq (l : Lane) (tag v : Nat) :
    s.recordUnplanned l tag v = s.modSale l tag fun x => x.unplanned v := rfl

theorem State.completed_findSale {x : Sale} (found : s.findSale r.lane r.tag = some x) :
    (s.completed r).findSale r.lane r.tag = some (x.unplanned (s.completionUnplanned r)) := by
  have placed : (s.placeShares r.lane r.tag (s.completionShares r) (r.kind.place r.lane r.tag)).findSale r.lane r.tag =
      some x := by simpa [State.findSale] using found
  have recorded := State.modSale_found placed (f := fun x => x.unplanned (s.completionUnplanned r))
    fun y => (y.unplanned_same _).1
  rw [← State.recordUnplanned_eq] at recorded
  simpa [State.completed, State.sampleOutcome, State.sampleSteps, State.findSale] using recorded

theorem State.completed_events : (s.completed r).events.get r.lane.port = s.events.get r.lane.port := by
  simp [State.completed, State.sampleOutcome, State.sampleSteps, State.sample_events _ _ (lanePort_ne_sp r.lane)]

theorem State.completeJobs_saw :
    Saw s (s.completeJobs r)
      (planSamples r.lane (outcomeOf (s.shortfallOf r.amount (s.searchFor r.lane r.tag r.amount r.shielded)))
        (s.planOf (s.searchFor r.lane r.tag r.amount r.shielded)) (s.searchFor r.lane r.tag r.amount r.shielded).steps) := by
  intro n
  rw [State.completeJobs_eq]
  simp only [State.completed]
  generalize outcomeOf _ = o
  cases o <;> simp [State.sampleOutcome, State.sampleSteps, planSamples]

/-- The jobs that the completion makes. -/
def State.completionJobs : List Job := s.jobsOf r.lane r.tag s.nextJob (s.completionShares r)

theorem State.completeJobs_laneJobs :
    (s.completeJobs r).laneJobs = s.laneJobs.set r.lane
      (r.kind.place r.lane r.tag (s.laneJobs.get r.lane) (s.completionJobs r)) := by
  rw [(s.completeJobs_placed r).2]
  simp [State.placeShares, State.completionJobs, PerLane.modify]

theorem State.completeJobs_units : (s.completeJobs r).units = (s.commitAll (s.completionShares r)).units :=
  (s.completeJobs_placed r).1

/-- The state of the sale after the completion (R68, R109, R110). -/
def State.completedState (x : Sale) : SaleState :=
  endState x.state (x.unplanned (s.completionUnplanned r)).shortfall ((s.completeJobs r).busy r.lane r.tag)
    (decide ((s.escrows.get r.lane).owner = .sale r.tag))

/-- The settlement test after the completion reads the sale's state, its jobs and requests, and its escrow's owner. -/
theorem State.completedState_eq (x : Sale) :
    s.completedState r x = endState (x.unplanned (s.completionUnplanned r)).state
      (x.unplanned (s.completionUnplanned r)).shortfall ((s.completed r).busy r.lane r.tag)
      (decide (((s.completed r).escrows.get r.lane).owner = .sale r.tag)) := by
  have busy : (s.completeJobs r).busy r.lane r.tag = (s.completed r).busy r.lane r.tag :=
    State.busy_congr (by simp [State.completeJobs_eq]) (by simp [State.completeJobs_eq]) ..
  have escrows : (s.completed r).escrows = s.escrows := by
    simp [State.completed, State.sampleOutcome, State.sampleSteps]
  rw [State.completedState, busy, escrows, (x.unplanned_same _).2.1]

theorem State.completeJobs_findSale {x : Sale} (found : s.findSale r.lane r.tag = some x) :
    (s.completeJobs r).findSale r.lane r.tag =
      some { x.unplanned (s.completionUnplanned r) with state := s.completedState r x } := by
  rw [State.completedState_eq]
  exact State.settleTest_findSale (s.completed_findSale r found)

/-- SALE_FINISHED is raised where the completion ends the sale (R68, R109, R110). -/
theorem State.completeJobs_events {x : Sale} (found : s.findSale r.lane r.tag = some x) :
    (s.completeJobs r).events.get r.lane.port = { s.events.get r.lane.port with
      finished := if s.completedState r x = x.state then (s.events.get r.lane.port).finished
        else pushLast (s.events.get r.lane.port).finished (r.tag, s.completedState r x) } := by
  have events := State.settleTest_events (s.completed_findSale r found) (s.completedState_eq r x)
  rw [(x.unplanned_same _).2.1] at events
  rw [State.completeJobs_eq, events]
  by_cases same : s.completedState r x = x.state
  · rw [if_pos same, if_pos same, State.completed_events]
  · rw [if_neg same, if_neg same, PerPort.get_set_same, State.completed_events]

end

/-! ### The completion reads nothing of the request list but the entry taken -/

section
variable (s : State) (rest : List PlanReq) (r : PlanReq)

theorem State.completionSplit_withReqs : ({ s with planReqs := rest } : State).completionSplit r = s.completionSplit r := by
  rw [State.completionSplit, State.planOf_withReqs, State.searchFor_withReqs, splitPlan_withReqs, State.completionSplit]

theorem State.completionShares_withReqs :
    ({ s with planReqs := rest } : State).completionShares r = s.completionShares r :=
  congrArg (fun split => split.1.take (Config.laneQueueRoom - (s.laneJobs.get r.lane).length))
    (s.completionSplit_withReqs rest r)

theorem State.completionUnplanned_withReqs :
    ({ s with planReqs := rest } : State).completionUnplanned r = s.completionUnplanned r := by
  rw [State.completionUnplanned, State.completionSplit_withReqs, State.searchFor_withReqs]
  rfl

theorem State.completionJobs_withReqs :
    ({ s with planReqs := rest } : State).completionJobs r = s.completionJobs r := by
  rw [State.completionJobs, State.jobsOf_withReqs, State.completionShares_withReqs, State.completionJobs]

end

/-- Settles O44: the jobs, the sale and the samples of the completion, each on its own, read from the state as the
entry is taken. -/
theorem jobsCompletion : Obligations.JobsCompletion := by
  intro s running
  refine ⟨exec_planRequestTaken_none running, ?_⟩
  intro r rest x reqs kind found
  let left : State := { s with planReqs := rest }
  have sale : left.findSale r.lane r.tag = some x := found
  have next : exec .planRequestTaken s = .next ((left.completeJobs r).conclude true [] []) := by
    rw [exec_planRequestTaken running reqs, State.plan, sale]
    cases same : r.kind with
    | quote => exact absurd same kind
    | refund | replan => rfl
  have laneJobs := left.completeJobs_laneJobs r
  have units := left.completeJobs_units r
  have saw := left.completeJobs_saw r
  have findSale := left.completeJobs_findSale r sale
  simp only [left, State.completionJobs_withReqs, State.completionShares_withReqs, State.commitAll_withReqs,
    State.searchFor_withReqs, State.planOf_withReqs, State.completionUnplanned_withReqs] at laneJobs units saw findSale
  have state : left.completedState r x =
      endState x.state (x.unplanned (s.completionUnplanned r)).shortfall ((left.completeJobs r).busy r.lane r.tag)
        (decide ((s.escrows.get r.lane).owner = .sale r.tag)) :=
    congrArg (fun v => endState x.state (x.unplanned v).shortfall ((left.completeJobs r).busy r.lane r.tag)
      (decide ((s.escrows.get r.lane).owner = .sale r.tag))) (s.completionUnplanned_withReqs rest r)
  obtain ⟨-, -, plan, planned, outcome, floorBlocked⟩ := x.unplanned_same (s.completionUnplanned r)
  intro found split made js missing q
  refine ⟨left.completeJobs r, next, by simp [left], by simp [left], units, saw, fun refund => ?_, fun replan => ?_,
    ⟨_, findSale, fun paying => ?_, fun refunding f short => ?_, plan, planned, outcome, floorBlocked, state,
      left.completeJobs_events r sale⟩, ?_⟩
  · rw [laneJobs, refund]
    rfl
  · rw [laneJobs, replan]
    refine ⟨fun none => ?_, fun front j back parts own last => ?_⟩
    · exact congrArg _ (behindLast_none none _)
    · rw [RequestKind.place, show s.laneJobs.get r.lane = front ++ j :: back from parts, behindLast_last own last]
      rfl
  · simp only [Sale.unplanned, paying]
    rfl
  · simp only [Sale.unplanned, refunding, short]
    rfl
  · simp [left]

end Sys2Proof.Machine
end

section
/-! SUPPORT. SET_FLOOR and SET_LIMITS (R56, R80, R104, R140, R141). -/

namespace Sys2Proof.Machine

-- One proof after the other: many short proofs at once take more threads than the check's memory limit has room for.
set_option Elab.async false

/-! ### SET_FLOOR (R140) -/

theorem exec_setFloor {s : State} (h : Ready s .sp) (laneNo slotNo count : Nat) :
    exec (.setFloor .sp laneNo slotNo count) s =
      .next ((s.setOutstanding .sp Command.setFloor.byte).ranged .sp .setFloor (laneOf laneNo) fun l s =>
        s.ranged .sp .setFloor (slotOf slotNo) fun d s =>
          if 255 < count then s.refuse .sp .setFloor .range
          else ((s.writeFloor l d count).answer .sp .setFloor []).flush) := by
  have taken : exec (.setFloor .sp laneNo slotNo count) s = execSetFloor .sp laneNo slotNo count s := rfl
  rw [taken, execSetFloor, h.firstEvent, takeSetFloor, State.request_ready h _ rfl]

theorem exec_setFloor_refuses {s : State} (h : Ready s .sp) {laneNo slotNo count : Nat}
    (out : 1 < laneNo ∨ 11 < slotNo ∨ 255 < count) :
    exec (.setFloor .sp laneNo slotNo count) s = .next (s.refusedWith .sp .setFloor .range) := by
  rw [exec_setFloor h]
  cases lane : laneOf laneNo with
  | none => rfl
  | some l =>
    cases slot : slotOf slotNo with
    | none => rfl
    | some d =>
      rcases out with out | out | out
      · rw [laneOf_of_ge out] at lane
        cases lane
      · rw [slotOf_of_ge out] at slot
        cases slot
      · rw [State.ranged_some, State.ranged_some, if_pos out]
        rfl

/-- The shield of a slot against the other lane, after a floor of the lane was written (R56, R80). -/
theorem State.shield_floor {s t : State} {l : Lane} {d : Slot} {count : Nat} (lanes : t.lanes = s.lanes)
    (reservations : t.reservations = s.reservations) (floors : t.floors = s.floors.set l ((s.floors.get l).set d count))
    (m : Lane) (e : Slot) :
    t.shield m e true = if m = l.other ∧ e = d then
        (if (s.lanes.get l).opened = true ∧ (s.lanes.get l).holding = true then count - s.reservedLane l d else 0)
      else s.shield m e true := by
  have floor : (t.floors.get m.other).get e = if m.other = l ∧ e = d then count else (s.floors.get m.other).get e := by
    rw [floors, PerLane.get_set]
    by_cases lane : m.other = l
    · simp [lane, Twelve.get_set]
    · simp [lane]
  have same : m = l.other ↔ m.other = l := ⟨fun h => by simp [h], fun h => by simp [← h]⟩
  simp only [State.shield, State.reservedLane, lanes, reservations, floor, same, Bool.true_and, Bool.and_eq_true]
  by_cases new : m.other = l ∧ e = d
  · obtain ⟨rfl, rfl⟩ := new
    simp
  · simp [new]

/-! ### SET_LIMITS (R104, R141) -/

/-- PAUSE for a lane whose delivery place a new limit pauses (R180). -/
def pauseSample (l : Lane) : Sample := { kind := .pause, lane := .lane l, slots := some 0, value := 1 }

section
variable (s : State) (v : Nat) (l : Lane)

@[simp] theorem State.lowerCup_lanes :
    (s.lowerCup v l).lanes = s.lanes.modify l fun r => { r with cup := min r.cup v } := by
  rw [State.lowerCup]
  split <;> simp [State.samplePauseByLimit]

@[simp] theorem State.lowerOutlet_lanes :
    (s.lowerOutlet v l).lanes = s.lanes.modify l fun r => { r with outlet := min r.outlet v } := by
  rw [State.lowerOutlet]
  split <;> simp [State.samplePauseByLimit]

@[simp] theorem State.lowerCup_keeps : (s.lowerCup v l).limits = s.limits ∧ (s.lowerCup v l).boxes = s.boxes := by
  rw [State.lowerCup]
  split <;> simp [State.samplePauseByLimit]

@[simp] theorem State.lowerOutlet_keeps :
    (s.lowerOutlet v l).limits = s.limits ∧ (s.lowerOutlet v l).boxes = s.boxes := by
  rw [State.lowerOutlet]
  split <;> simp [State.samplePauseByLimit]

/-- A place whose count is at least the new limit is paused by it where it was not paused before (R104, R180). -/
theorem State.lowerCup_saw :
    Saw s (s.lowerCup v l)
      (if v ≤ (s.lanes.get l).cup ∧ (s.lanes.get l).cup ≠ s.limits.cup then [pauseSample l] else []) := by
  intro n
  have paused : (decide (((s.modLane l fun r => { r with cup := min r.cup v }).lanes.get l).cup = v) && !s.cupPaused l) = true ↔
      v ≤ (s.lanes.get l).cup ∧ (s.lanes.get l).cup ≠ s.limits.cup := by
    simp [State.cupPaused]
  rw [State.lowerCup]
  split
  next lowered => simp [if_pos (paused.mp lowered), State.samplePauseByLimit, pauseSample]
  next kept => simp [if_neg (mt paused.mpr kept)]

theorem State.lowerOutlet_saw :
    Saw s (s.lowerOutlet v l)
      (if v ≤ (s.lanes.get l).outlet ∧ (s.lanes.get l).outlet ≠ s.limits.outlet then [pauseSample l] else []) := by
  intro n
  have paused : (decide (((s.modLane l fun r => { r with outlet := min r.outlet v }).lanes.get l).outlet = v) &&
      !s.outletPaused l) = true ↔ v ≤ (s.lanes.get l).outlet ∧ (s.lanes.get l).outlet ≠ s.limits.outlet := by
    simp [State.outletPaused]
  rw [State.lowerOutlet]
  split
  next lowered => simp [if_pos (paused.mp lowered), State.samplePauseByLimit, pauseSample]
  next kept => simp [if_neg (mt paused.mpr kept)]

end

theorem Saw.trans {s t u : State} {xs ys : List Sample} (h : Saw s t xs) (k : Saw t u ys) : Saw s u (xs ++ ys) := fun n => by
  rw [k n, h n, List.foldl_append]

section
variable (s : State) (x : Setting) (v : Nat)

/-- A lane's record after a setting took a value (R104, R141). -/
def Setting.writeLane (l : Lane) (r : LaneRec) : LaneRec :=
  match x with
  | .cupLimit => { r with cup := min r.cup v }
  | .outletLimit => { r with outlet := min r.outlet v }
  | .weight m => if l = m then { r with weight := v } else r
  | _ => r

theorem State.writeSetting_lane (l : Lane) :
    (s.writeSetting x v).lanes.get l = x.writeLane v l (s.lanes.get l) := by
  cases x with
  | cupLimit => cases l <;> simp [State.writeSetting, State.writeCupLimit_eq, Setting.writeLane, PerLane.get_modify]
  | outletLimit => cases l <;> simp [State.writeSetting, State.writeOutletLimit_eq, Setting.writeLane, PerLane.get_modify]
  | weight m =>
    simp only [State.writeSetting, State.modLane_lanes, PerLane.get_modify, Setting.writeLane]
    split <;> simp_all
  | _ => simp [State.writeSetting, Setting.writeLane]

theorem State.writeSetting_box (k : Kind) :
    (s.writeSetting x v).boxes.get k = if x = .cashboxCapacity k then { s.boxes.get k with capacity := v } else s.boxes.get k := by
  cases x with
  | cupLimit => simp [State.writeSetting, State.writeCupLimit_eq]
  | outletLimit => simp [State.writeSetting, State.writeOutletLimit_eq]
  | cashboxCapacity i =>
    simp only [State.writeSetting, State.modBox_boxes, PerKind.get_modify, Setting.cashboxCapacity.injEq, eq_comm]
    split <;> simp_all
  | _ => simp [State.writeSetting]

/-- A setting takes its value, and every other one stays (R141). -/
theorem State.writeSetting_value (y : Setting) :
    (s.writeSetting x v).settingValue y = if y = x then v else s.settingValue y := by
  cases y with
  | weight l =>
    simp only [State.settingValue, State.writeSetting_lane]
    cases x with
    | weight m => by_cases same : l = m <;> simp [Setting.writeLane, same]
    | _ => simp [Setting.writeLane]
  | cashboxCapacity k =>
    simp only [State.settingValue, State.writeSetting_box, eq_comm]
    split <;> simp_all
  | _ => cases x <;> simp [State.settingValue, State.writeSetting, State.writeCupLimit_eq, State.writeOutletLimit_eq]

/-- PAUSE is seen for each lane whose cup or outlet the new limit pauses (R104, R180). -/
theorem State.writeSetting_saw :
    Saw s (s.writeSetting x v) ([Lane.a, Lane.b].flatMap fun l =>
      if x = .cupLimit ∧ v ≤ (s.lanes.get l).cup ∧ (s.lanes.get l).cup ≠ s.limits.cup ∨
          x = .outletLimit ∧ v ≤ (s.lanes.get l).outlet ∧ (s.lanes.get l).outlet ≠ s.limits.outlet then
        [pauseSample l]
      else []) := by
  have other : Lane.b ≠ Lane.a := by decide
  cases x with
  | cupLimit =>
    have both := (s.lowerCup_saw v .a).trans ((s.lowerCup v .a).lowerCup_saw v .b)
    refine fun n => (both n).trans ?_
    simp [PerLane.get_modify_other _ other]
  | outletLimit =>
    have both := (s.lowerOutlet_saw v .a).trans ((s.lowerOutlet v .a).lowerOutlet_saw v .b)
    refine fun n => (both n).trans ?_
    simp [PerLane.get_modify_other _ other]
  | _ => exact fun n => by simp [State.writeSetting]

end

theorem settingOf_of_ge {n : Nat} (h : 9 < n) : settingOf n = none := by
  obtain ⟨n, rfl⟩ := Nat.exists_eq_add_of_le' h
  rfl

theorem exec_setLimits {s : State} (h : Ready s .sp) (settingNo v : Nat) :
    exec (.setLimits .sp settingNo v) s =
      .next ((s.setOutstanding .sp Command.setLimits.byte).ranged .sp .setLimits (settingOf settingNo) fun x s =>
        if !x.inRange v then s.refuse .sp .setLimits .range
        else if s.settingValue x = v then s.answer .sp .setLimits []
        else (((s.writeSetting x v).markDirty x.record).answer .sp .setLimits []).settleEvent) := by
  have taken : exec (.setLimits .sp settingNo v) s = execSetLimits .sp settingNo v s := rfl
  rw [taken, execSetLimits, h.firstEvent, takeSetLimits, State.request_ready h _ rfl]

/-- What SET_LIMITS writes, before its reply and the closing of its event (R104, R141). -/
def State.limited (s : State) (x : Setting) (v : Nat) : State :=
  ((s.setOutstanding .sp Command.setLimits.byte).writeSetting x v).markDirty x.record

theorem State.limited_value (s : State) (x : Setting) (v : Nat) (y : Setting) :
    (s.limited x v).settingValue y = if y = x then v else s.settingValue y := by
  have value (t : State) : (t.markDirty x.record).settingValue y = t.settingValue y := by cases y <;> rfl
  have outstanding : (s.setOutstanding .sp Command.setLimits.byte).settingValue y = s.settingValue y := by cases y <;> rfl
  rw [State.limited, value, State.writeSetting_value, outstanding]

theorem State.limited_lane (s : State) (x : Setting) (v : Nat) (l : Lane) :
    (s.limited x v).lanes.get l = x.writeLane v l (s.lanes.get l) :=
  (s.setOutstanding .sp Command.setLimits.byte).writeSetting_lane x v l

theorem Setting.writeLane_fields (x : Setting) (v : Nat) (l : Lane) (r : LaneRec) :
    (x.writeLane v l r).cup = (if x = .cupLimit then min r.cup v else r.cup) ∧
      (x.writeLane v l r).outlet = (if x = .outletLimit then min r.outlet v else r.outlet) ∧
      (x.writeLane v l r).binding = r.binding ∧ (x.writeLane v l r).stray = r.stray ∧
      (x.writeLane v l r).opened = r.opened ∧ (x.writeLane v l r).holding = r.holding := by
  cases x with
  | weight m => by_cases same : l = m <;> simp [Setting.writeLane, same]
  | _ => simp [Setting.writeLane]

theorem setLimits_taken {s : State} (h : Ready s .sp) {settingNo v : Nat} {x : Setting} (setting : settingOf settingNo = some x)
    (range : x.inRange v = true) (new : s.settingValue x ≠ v) : ∃ t,
      exec (.setLimits .sp settingNo v) s = .next ((t.answer .sp .setLimits []).settleEvent) ∧ t = s.limited x v := by
  refine ⟨_, ?_, rfl⟩
  have value : (s.setOutstanding .sp Command.setLimits.byte).settingValue x = s.settingValue x := by cases x <;> rfl
  rw [exec_setLimits h, setting, State.ranged_some, if_neg (by simp [range]), if_neg (by rwa [value])]
  rfl

/-- Settles O19: the floor goes by the codes and the count; a setting by its range and the value it holds. -/
theorem settings : Obligations.Settings := by
  refine ⟨fun laneNo slotNo count s h => ⟨exec_setFloor_refuses h, ?_⟩, fun l d count s t lanes reservations floors => ?_,
    fun settingNo v s h => ⟨fun out => ?_, fun x setting => ⟨fun out => ?_, fun range held => ?_, fun range new => ?_⟩⟩,
    fun v => by simp [Setting.inRange]⟩
  · rintro l d rfl rfl small
    rw [exec_setFloor h, laneOf_code, slotOf_val, State.ranged_some, State.ranged_some, if_neg (by omega)]
    rfl
  · have shield := State.shield_floor lanes reservations floors
    refine ⟨by simp [shield], fun e ne => by simp [shield, ne], fun e => by simp [shield], fun m e => by simp [State.shield]⟩
  · rw [exec_setLimits h, settingOf_of_ge out]
    rfl
  · rw [exec_setLimits h, setting, State.ranged_some, if_pos (by simp [out])]
    rfl
  · have value : (s.setOutstanding .sp Command.setLimits.byte).settingValue x = s.settingValue x := by cases x <;> rfl
    rw [exec_setLimits h, setting, State.ranged_some, if_neg (by simp [range]), if_pos (by rwa [value])]
    rfl
  · obtain ⟨t, next, rfl⟩ := setLimits_taken h setting range new
    have fields (l : Lane) := x.writeLane_fields v l (s.lanes.get l)
    simp only [← State.limited_lane] at fields
    refine ⟨_, next, by simp [State.limited_value], fun y ne => by simp [State.limited_value, ne],
      by simp [State.limited, State.markDirty],
      fun l => (fields l).1, fun l => (fields l).2.1, fun l => (fields l).2.2, fun k => ?_,
      (s.setOutstanding .sp Command.setLimits.byte).writeSetting_saw x v, ?_⟩
    · have box := (s.setOutstanding .sp Command.setLimits.byte).writeSetting_box x v k
      simp only [State.limited, State.markDirty, box]
      split <;> rfl
    · simp [State.limited, State.setOutstanding, PerPort.modify]

end Sys2Proof.Machine
end

section
/-! SUPPORT. REPLAN requests placed one after the other (R49 to R51, R122). -/

namespace Sys2Proof.Machine

-- One proof after the other: many short proofs at once take more threads than the check's memory limit has room for.
set_option Elab.async false

/-! ### A request that is put into the list (R50) -/

theorem insertReq_find_other {r : PlanReq} {p : PlanReq → Bool} (other : p r = false) (rs : List PlanReq) :
    (insertReq r rs).find? p = rs.find? p := by
  induction rs with
  | nil => simp [insertReq, other]
  | cons x xs ih =>
    rw [insertReq]
    split
    · simp [other]
    · simp [List.find?_cons, ih]

theorem insertReq_find_own {r : PlanReq} {p : PlanReq → Bool} (own : p r = true) {rs : List PlanReq}
    (none : ∀ q ∈ rs, p q = false) : (insertReq r rs).find? p = some r := by
  induction rs with
  | nil => simp [insertReq, own]
  | cons x xs ih =>
    obtain ⟨away, none⟩ := List.forall_mem_cons.mp none
    rw [insertReq]
    split
    · simp [own]
    · rw [List.find?_cons, away, ih none]

/-- A REPLAN stands behind the REPLANs and before the rest (R50). -/
theorem insertReq_replan {r : PlanReq} (kind : r.kind = .replan) {replans others : List PlanReq}
    (own : ∀ q ∈ replans, q.kind = .replan) (rest : ∀ q ∈ others, q.kind ≠ .replan) :
    insertReq r (replans ++ others) = replans ++ r :: others := by
  induction replans with
  | nil =>
    cases others with
    | nil => rfl
    | cons x xs =>
      have behind : r.kind.rank < x.kind.rank := by
        have := rest x (.head _)
        cases other : x.kind <;> simp_all [RequestKind.rank]
      exact if_pos behind
  | cons x xs ih =>
    obtain ⟨first, own⟩ := List.forall_mem_cons.mp own
    rw [List.cons_append, insertReq, if_neg (by rw [kind, first]; exact Nat.lt_irrefl _), ih own, List.cons_append]

/-! ### A REPLAN that is placed (R49, R51) -/

/-- A sale's pending request with a REPLAN's amount merged into it (R51). -/
def PlanReq.replanned (q : PlanReq) (v : Nat) : PlanReq :=
  { q with amount := boundAmount (q.amount + v), kind := if q.kind = .refund then .replan else q.kind }

/-- A REPLAN of its own (R49). -/
def freshReplan (l : Lane) (tag v : Nat) : PlanReq :=
  { lane := l, tag := tag, kind := .replan, amount := boundAmount v, shielded := false }

section
variable {s : State} {l : Lane} {tag : Nat} {q : PlanReq}

theorem State.placeReplan_fresh (none : (s.planReqs.find? fun r => r.isOf l tag) = none) (v : Nat) :
    (s.placeRequest l tag .replan v).planReqs = insertReq (freshReplan l tag v) s.planReqs := by
  rw [State.placeRequest, none]
  rfl

theorem State.placeReplan_refund (found : (s.planReqs.find? fun r => r.isOf l tag) = some q) (refund : q.kind = .refund)
    (v : Nat) : (s.placeRequest l tag .replan v).planReqs =
      insertReq (q.replanned v) (s.planReqs.filter fun r => !r.isOf l tag) := by
  rw [State.placeRequest, found]
  simp [refund, PlanReq.replanned]

theorem State.placeReplan_stays (found : (s.planReqs.find? fun r => r.isOf l tag) = some q) (stays : q.kind ≠ .refund)
    (v : Nat) : (s.placeRequest l tag .replan v).planReqs =
      s.planReqs.map fun r => if r.isOf l tag then q.replanned v else r := by
  rw [State.placeRequest, found]
  simp [stays, PlanReq.replanned]

end

theorem PlanReq.isOf_of_find {rs : List PlanReq} {l : Lane} {tag : Nat} {q : PlanReq}
    (found : (rs.find? fun r => r.isOf l tag) = some q) : q.isOf l tag = true := by simpa using List.find?_some found

theorem PlanReq.isOf_other {q : PlanReq} {l m : Lane} {tag n : Nat} (own : q.isOf l tag = true) (other : (m, n) ≠ (l, tag)) :
    q.isOf m n = false := by
  obtain ⟨rfl, rfl⟩ := (q.isOf_iff l tag).mp own
  refine Bool.eq_false_iff.mpr fun both => other ?_
  obtain ⟨rfl, rfl⟩ := (q.isOf_iff m n).mp both
  rfl

/-- The sale's own request after a REPLAN was placed: a new one, or the pending one with the amount (R49, R51). -/
theorem State.placeReplan_find (s : State) (l : Lane) (tag v : Nat) :
    ((s.placeRequest l tag .replan v).planReqs.find? fun r => r.isOf l tag) =
      some (((s.planReqs.find? fun r => r.isOf l tag).map fun q => q.replanned v).getD (freshReplan l tag v)) := by
  cases found : s.planReqs.find? fun r => r.isOf l tag with
  | none =>
    rw [State.placeReplan_fresh found]
    exact insertReq_find_own (by simp [PlanReq.isOf, freshReplan]) fun q mem => by simpa using List.find?_eq_none.mp found q mem
  | some q =>
    have own : (q.replanned v).isOf l tag = true := (PlanReq.isOf_of_find found :)
    by_cases refund : q.kind = .refund
    · rw [State.placeReplan_refund found refund]
      exact insertReq_find_own own fun r mem => by simpa using (List.mem_filter.mp mem).2
    · rw [State.placeReplan_stays found refund, List.find?_map]
      have test : ((fun r : PlanReq => r.isOf l tag) ∘ fun r => if r.isOf l tag then q.replanned v else r) =
          fun r => r.isOf l tag := by
        funext r
        by_cases here : r.isOf l tag = true <;> simp [here, own]
      rw [test, found, Option.map_some, if_pos (PlanReq.isOf_of_find found)]
      rfl

/-- Another sale's request stays as it is. -/
theorem State.placeReplan_find_other (s : State) {l m : Lane} {tag n : Nat} (other : (m, n) ≠ (l, tag)) (v : Nat) :
    ((s.placeRequest l tag .replan v).planReqs.find? fun r => r.isOf m n) = s.planReqs.find? fun r => r.isOf m n := by
  cases found : s.planReqs.find? fun r => r.isOf l tag with
  | none =>
    rw [State.placeReplan_fresh found]
    exact insertReq_find_other (PlanReq.isOf_other (by simp [PlanReq.isOf, freshReplan]) other) _
  | some q =>
    have own : (q.replanned v).isOf l tag = true := (PlanReq.isOf_of_find found :)
    by_cases refund : q.kind = .refund
    · rw [State.placeReplan_refund found refund, insertReq_find_other (PlanReq.isOf_other own other), List.find?_filter]
      congr 1
      funext r
      by_cases here : r.isOf l tag = true
      · simp [here, PlanReq.isOf_other here other]
      · simp [here]
    · rw [State.placeReplan_stays found refund]
      induction s.planReqs with
      | nil => rfl
      | cons r rs ih =>
        rw [List.map_cons, List.find?_cons, List.find?_cons, ih]
        by_cases here : r.isOf l tag = true
        · rw [if_pos here, PlanReq.isOf_other own other, PlanReq.isOf_other here other]
        · rw [if_neg here]

/-! ### Where the REPLANs stand (R50) -/

/-- The sale that a request is of. -/
def PlanReq.name (r : PlanReq) : Lane × Nat := (r.lane, r.tag)

theorem PlanReq.isOf_iff_name {r : PlanReq} {l : Lane} {tag : Nat} : r.isOf l tag = true ↔ r.name = (l, tag) := by
  simp [PlanReq.isOf, PlanReq.name]

/-- A REPLAN of the sale joins the tail of its group: the sale has no request, or a REFUND (R50, R51). -/
def joinsTail (replans others : List PlanReq) (x : Lane × Nat) : Bool :=
  others.all (fun r => decide (r.name = x → r.kind = .refund)) && replans.all fun r => decide (r.name ≠ x)

theorem joinsTail_iff {replans others : List PlanReq} {x : Lane × Nat} :
    joinsTail replans others x = true ↔
      (∀ r ∈ others, r.name = x → r.kind = .refund) ∧ ∀ r ∈ replans, r.name ≠ x := by
  simp [joinsTail, imp_iff_not_or]

/-- The list after a REPLAN of a sale was placed: the REPLANs and the rest, the sale behind the REPLANs where it joins
(R50, R51). -/
structure Replanned (x : Lane × Nat) (replans others replans' others' : List PlanReq) : Prop where
  own : ∀ r ∈ replans', r.kind = .replan
  rest : ∀ r ∈ others', r.kind ≠ .replan
  names : replans'.map PlanReq.name = replans.map PlanReq.name ++ if joinsTail replans others x then [x] else []
  others : (others'.map fun r => (r.name, r.kind)) =
    ((others.filter fun r => !(joinsTail replans others x && decide (r.name = x))).map fun r => (r.name, r.kind))

theorem State.placeReplan_split {s : State} (law : s.RequestLaw) {replans others : List PlanReq}
    (parts : s.planReqs = replans ++ others) (own : ∀ r ∈ replans, r.kind = .replan) (rest : ∀ r ∈ others, r.kind ≠ .replan)
    (l : Lane) (tag v : Nat) :
    ∃ replans' others', (s.placeRequest l tag .replan v).planReqs = replans' ++ others' ∧
      Replanned (l, tag) replans others replans' others' := by
  cases found : s.planReqs.find? fun r => r.isOf l tag with
  | none =>
    have away (r : PlanReq) (mem : r ∈ s.planReqs) : r.name ≠ (l, tag) := fun same =>
      List.find?_eq_none.mp found r mem (PlanReq.isOf_iff_name.mpr same)
    rw [parts] at away
    have joins : joinsTail replans others (l, tag) = true :=
      joinsTail_iff.mpr ⟨fun r mem same => absurd same (away r (List.mem_append_right _ mem)),
        fun r mem => away r (List.mem_append_left _ mem)⟩
    refine ⟨replans ++ [freshReplan l tag v], others, ?_, ?_, rest, by simp [joins, freshReplan, PlanReq.name], ?_⟩
    · rw [State.placeReplan_fresh found, parts, insertReq_replan rfl own rest]
      simp
    · rw [List.forall_mem_append]
      exact ⟨own, by simp [freshReplan]⟩
    · rw [List.filter_eq_self.mpr fun r mem => by simp [away r (List.mem_append_right _ mem)]]
  | some q =>
    have same : q.name = (l, tag) := PlanReq.isOf_iff_name.mp (PlanReq.isOf_of_find found)
    have member : q ∈ s.planReqs := List.mem_of_find?_eq_some found
    have only (r : PlanReq) (mem : r ∈ s.planReqs) (named : r.name = (l, tag)) : r = q :=
      List.inj_on_of_nodup_map law mem member (named.trans same.symm)
    rw [parts] at only member
    have test (r : PlanReq) : r.isOf l tag = decide (r.name = (l, tag)) := by
      rw [Bool.eq_iff_iff, PlanReq.isOf_iff_name, decide_eq_true_iff]
    by_cases refund : q.kind = .refund
    · have away (r : PlanReq) (mem : r ∈ replans) : r.name ≠ (l, tag) := fun named => by
        have kind := own r mem
        rw [only r (List.mem_append_left _ mem) named, refund] at kind
        cases kind
      have joins : joinsTail replans others (l, tag) = true :=
        joinsTail_iff.mpr ⟨fun r mem named => by rw [only r (List.mem_append_right _ mem) named, refund], away⟩
      refine ⟨replans ++ [q.replanned v], others.filter fun r => !r.isOf l tag, ?_, ?_, ?_, ?_, ?_⟩
      · rw [State.placeReplan_refund found refund, parts, List.filter_append,
          List.filter_eq_self.mpr fun r mem => by simp [test, away r mem],
          insertReq_replan (by simp [PlanReq.replanned, refund]) own fun r mem => rest r (List.mem_of_mem_filter mem)]
        simp
      · rw [List.forall_mem_append]
        exact ⟨own, by simp [PlanReq.replanned, refund]⟩
      · exact fun r mem => rest r (List.mem_of_mem_filter mem)
      · have named : (q.replanned v).name = (l, tag) := same
        simp [joins, named]
      · simp [joins, test]
    · have stays : joinsTail replans others (l, tag) = false := by
        refine Bool.eq_false_iff.mpr fun joins => ?_
        obtain ⟨refunds, away⟩ := joinsTail_iff.mp joins
        rcases List.mem_append.mp member with old | other
        · exact away q old same
        · exact refund (refunds q other same)
      have kept (r : PlanReq) (mem : r ∈ replans ++ others) :
          (if r.isOf l tag then q.replanned v else r).name = r.name ∧
            (if r.isOf l tag then q.replanned v else r).kind = r.kind := by
        by_cases here : r.isOf l tag = true
        · rw [if_pos here, only r mem (PlanReq.isOf_iff_name.mp here)]
          exact ⟨rfl, if_neg refund⟩
        · rw [if_neg here]
          exact ⟨rfl, rfl⟩
      refine ⟨replans.map fun r => if r.isOf l tag then q.replanned v else r,
        others.map fun r => if r.isOf l tag then q.replanned v else r, ?_, ?_, ?_, ?_, ?_⟩
      · rw [State.placeReplan_stays found refund, parts, List.map_append]
      · rw [List.forall_mem_map]
        exact fun r mem => ((kept r (List.mem_append_left _ mem)).2).trans (own r mem)
      · rw [List.forall_mem_map]
        exact fun r mem => ((kept r (List.mem_append_right _ mem)).2).trans_ne (rest r mem)
      · rw [stays, List.map_map]
        simpa using fun r mem => (kept r (List.mem_append_left _ mem)).1
      · rw [stays, List.map_map, List.filter_eq_self.mpr fun r _ => by simp]
        refine List.map_congr_left fun r mem => ?_
        obtain ⟨name, kind⟩ := kept r (List.mem_append_right _ mem)
        simp only [Function.comp_apply, name, kind]

/-! ### Several sales, one after the other (R50, R122) -/

/-- A REPLAN of each sale is placed, in the order of the list. -/
def State.placeReplans (s : State) (xs : List (Lane × Nat)) (amount : Lane × Nat → Nat) : State :=
  xs.foldl (fun s x => s.placeRequest x.1 x.2 .replan (amount x)) s

theorem State.placeReplans_find_other {xs : List (Lane × Nat)} {l : Lane} {tag : Nat} (none : (l, tag) ∉ xs) (s : State)
    (amount : Lane × Nat → Nat) :
    ((s.placeReplans xs amount).planReqs.find? fun r => r.isOf l tag) = s.planReqs.find? fun r => r.isOf l tag := by
  induction xs generalizing s with
  | nil => rfl
  | cons x xs ih =>
    obtain ⟨first, none⟩ := not_or.mp (mt List.mem_cons.mpr none)
    exact (ih none _).trans (s.placeReplan_find_other first (amount x))

/-- Each sale of the list has its REPLAN, placed once (R49, R51). -/
theorem State.placeReplans_find {xs : List (Lane × Nat)} (distinct : xs.Nodup) {l : Lane} {tag : Nat} (mem : (l, tag) ∈ xs)
    (s : State) (amount : Lane × Nat → Nat) :
    ((s.placeReplans xs amount).planReqs.find? fun r => r.isOf l tag) =
      some (((s.planReqs.find? fun r => r.isOf l tag).map fun q => q.replanned (amount (l, tag))).getD
        (freshReplan l tag (amount (l, tag)))) := by
  induction xs generalizing s with
  | nil => cases mem
  | cons x xs ih =>
    obtain ⟨away, distinct⟩ := List.nodup_cons.mp distinct
    rcases List.mem_cons.mp mem with rfl | later
    · exact (State.placeReplans_find_other away _ amount).trans (s.placeReplan_find l tag (amount (l, tag)))
    · have other : (l, tag) ≠ x := fun same => away (same ▸ later)
      rw [← s.placeReplan_find_other other (amount x)]
      exact ih distinct later _

theorem Replanned.joinsTail_other {x y : Lane × Nat} {replans others replans' others' : List PlanReq}
    (h : Replanned x replans others replans' others') (other : y ≠ x) :
    joinsTail replans' others' y = joinsTail replans others y := by
  have first : (∀ r ∈ others', r.name = y → r.kind = .refund) ↔ ∀ r ∈ others, r.name = y → r.kind = .refund := by
    have pairs := h.others
    have lift (rs : List PlanReq) : (∀ r ∈ rs, r.name = y → r.kind = .refund) ↔
        ∀ p ∈ rs.map fun r => (r.name, r.kind), p.1 = y → p.2 = .refund := by simp
    rw [lift others', pairs, ← lift]
    refine ⟨fun all r mem named => all r (List.mem_filter.mpr ⟨mem, by simp [named, other]⟩) named,
      fun all r mem => all r (List.mem_of_mem_filter mem)⟩
  have second : (∀ r ∈ replans', r.name ≠ y) ↔ ∀ r ∈ replans, r.name ≠ y := by
    have lift (rs : List PlanReq) : (∀ r ∈ rs, r.name ≠ y) ↔ y ∉ rs.map PlanReq.name := by simp
    rw [lift, lift, h.names]
    cases joinsTail replans others x <;> simp [other]
  rw [Bool.eq_iff_iff, joinsTail_iff, joinsTail_iff, first, second]

/-- The sales of the list join the REPLANs in their order, and the rest stay as they stand (R50, R122). -/
theorem State.placeReplans_names {xs : List (Lane × Nat)} (distinct : xs.Nodup) {s : State} (law : s.RequestLaw)
    {replans others : List PlanReq} (parts : s.planReqs = replans ++ others) (own : ∀ r ∈ replans, r.kind = .replan)
    (rest : ∀ r ∈ others, r.kind ≠ .replan) (amount : Lane × Nat → Nat) :
    (s.placeReplans xs amount).planReqs.map PlanReq.name =
      replans.map PlanReq.name ++ xs.filter (joinsTail replans others) ++
        (others.map PlanReq.name).filter fun x => decide (x ∉ xs.filter (joinsTail replans others)) := by
  induction xs generalizing s replans others with
  | nil => simp [State.placeReplans, parts]
  | cons x xs ih =>
    obtain ⟨away, distinct⟩ := List.nodup_cons.mp distinct
    obtain ⟨replans', others', parts', placed⟩ := State.placeReplan_split law parts own rest x.1 x.2 (amount x)
    have later := ih distinct (State.placeRequest_requestLaw law x.1 x.2 .replan (amount x)) parts' placed.own placed.rest
    have joins : xs.filter (joinsTail replans' others') = xs.filter (joinsTail replans others) :=
      List.filter_congr fun y mem => placed.joinsTail_other fun (same : y = x) => away (same ▸ mem)
    have names : others'.map PlanReq.name =
        (others.map PlanReq.name).filter fun y => !(joinsTail replans others x && decide (y = x)) := by
      have firsts := congrArg (List.map Prod.fst) placed.others
      simpa [List.map_map, List.filter_map, Function.comp_def] using firsts
    rw [joins, placed.names, names] at later
    refine later.trans ?_
    cases joined : joinsTail replans others x with
    | true =>
      simp only [if_true, List.filter_cons_of_pos joined, List.filter_filter, List.append_assoc, List.singleton_append]
      congr 2
      refine List.filter_congr fun y _ => ?_
      rw [← Bool.and_comm]
      simp
    | false =>
      simp [List.filter_cons_of_neg (p := joinsTail replans others) (a := x) (by simp [joined])]

end Sys2Proof.Machine
end

section
/-! SUPPORT. The third miss (R121 to R123). -/

namespace Sys2Proof.Machine

-- One proof after the other: many short proofs at once take more threads than the check's memory limit has room for.
set_option Elab.async false

/-! ### The jobs that leave, and the sales they are of (R122) -/

theorem nodup_eraseDups {α : Type} [BEq α] [LawfulBEq α] (xs : List α) : xs.eraseDups.Nodup := by
  induction h : xs.length using Nat.strong_induction_on generalizing xs with
  | _ n ih =>
    cases xs with
    | nil => simp
    | cons x xs =>
      have shorter : (xs.filter fun y => !y == x).length < n := by
        rw [← h, List.length_cons]
        exact Nat.lt_succ_of_le (List.length_filter_le ..)
      rw [List.eraseDups_cons, List.nodup_cons]
      exact ⟨by simp [List.mem_eraseDups], ih _ shorter _ rfl⟩

theorem sortBySerial_le (js : List Job) : (sortBySerial js).Pairwise fun i x => i.serial ≤ x.serial := by
  have insert {j : Job} {js : List Job} (h : js.Pairwise fun i x => i.serial ≤ x.serial) :
      (insertBySerial j js).Pairwise fun i x => i.serial ≤ x.serial := by
    induction js with
    | nil => exact List.pairwise_singleton ..
    | cons x xs ih =>
      obtain ⟨head, tail⟩ := List.pairwise_cons.mp h
      rw [insertBySerial]
      split
      next less =>
        refine List.pairwise_cons.mpr ⟨fun i mem => ?_, h⟩
        rcases List.mem_cons.mp mem with rfl | mem
        · exact less.le
        · exact less.le.trans (head i mem)
      next more =>
        refine List.pairwise_cons.mpr ⟨fun i mem => ?_, ih tail⟩
        rcases List.mem_cons.mp ((insertBySerial_perm j xs).mem_iff.mp mem) with rfl | mem
        · exact Nat.not_lt.mp more
        · exact head i mem
  induction js with
  | nil => exact .nil
  | cons j js ih => exact insert ih

/-- Two lists of jobs in the order of creation with the same jobs are the same list. -/
theorem sorted_eq {is js : List Job} (si : is.Pairwise fun i x => i.serial < x.serial)
    (sj : js.Pairwise fun i x => i.serial < x.serial) (same : ∀ j, j ∈ is ↔ j ∈ js) : is = js := by
  have nodup {ks : List Job} (h : ks.Pairwise fun i x => i.serial < x.serial) : ks.Nodup :=
    h.imp fun less eq => by simp [eq] at less
  refine List.Perm.eq_of_pairwise (fun a b _ _ less more => ?_) si sj
    ((List.perm_ext_iff_of_nodup (nodup si) (nodup sj)).mpr same)
  omega

theorem Job.liveSale_iff (j : Job) (l : Lane) (tag : Nat) :
    j.liveSale = some (l, tag) ↔ j.origin = .sale l tag ∧ j.stopped = false := by
  rw [Job.liveSale]
  cases origin : j.origin <;> cases stopped : j.stopped <;> simp

/-- A job that its ejection no longer marks (R118). -/
def Job.landedIf (n : Nat) (j : Job) : Job := if j.serial = n then { j with inFlight := false } else j

@[simp] theorem Job.landedIf_fields (n : Nat) (j : Job) :
    (j.landedIf n).serial = j.serial ∧ (j.landedIf n).origin = j.origin ∧ (j.landedIf n).source = j.source ∧
      (j.landedIf n).stopped = j.stopped ∧ (j.landedIf n).undone = j.undone := by
  rw [Job.landedIf]
  split <;> simp [Job.undone]

@[simp] theorem Job.landedIf_onUnit (n : Nat) (j : Job) (u : UnitId) : (j.landedIf n).onUnit u = j.onUnit u := by
  simp [Job.onUnit]

@[simp] theorem Job.landedIf_liveSale (n : Nat) (j : Job) : (j.landedIf n).liveSale = j.liveSale := by
  simp [Job.liveSale]

theorem State.endEjection_allJobs (s : State) (k : Kind) (e : Ejection) (x : Phase) :
    (s.endEjection k e x).allJobs = s.allJobs.map (Job.landedIf e.job) :=
  (s.setPhase k x).modJob_allJobs e.job fun j => { j with inFlight := false }

/-- The jobs that leave with a unit's third miss, in the order of creation (R121). -/
def State.goneFrom (s : State) (u : UnitId) : List Job := sortBySerial (s.allJobs.filter fun j => j.onUnit u)

theorem State.mem_goneFrom {s : State} {u : UnitId} {j : Job} :
    j ∈ s.goneFrom u ↔ j ∈ s.allJobs ∧ j.onUnit u = true := by
  rw [State.goneFrom, (sortBySerial_perm _).mem_iff, List.mem_filter]

theorem State.mem_salesOf_goneFrom {s : State} {u : UnitId} {l : Lane} {tag : Nat} :
    (l, tag) ∈ salesOf (s.goneFrom u) ↔
      ∃ i ∈ s.allJobs, i.source = .unit u ∧ i.origin = .sale l tag ∧ i.stopped = false := by
  simp [salesOf, List.mem_eraseDups, List.mem_filterMap, Job.liveSale_iff, State.mem_goneFrom, Job.onUnit, and_assoc]

theorem State.replanRemoved_eq (s : State) (u : UnitId) (gone : List Job) :
    s.replanRemoved u gone = s.placeReplans (salesOf gone) fun x => undoneOf gone x.1 x.2 * s.unitValue u := by
  unfold State.replanRemoved State.placeReplans
  generalize salesOf gone = xs
  have value (t : State) (h : t.units = s.units ∧ t.denoms = s.denoms) : t.unitValue u = s.unitValue u := by
    simp only [State.unitValue, State.slotValue, h]
  suffices h : ∀ t : State, t.units = s.units ∧ t.denoms = s.denoms →
      xs.foldl (fun s x => s.placeRequest x.1 x.2 .replan (undoneOf gone x.1 x.2 * s.unitValue u)) t =
        xs.foldl (fun t x => t.placeRequest x.1 x.2 .replan (undoneOf gone x.1 x.2 * s.unitValue u)) t from h s ⟨rfl, rfl⟩
  induction xs with
  | nil => exact fun _ _ => rfl
  | cons x xs ih =>
    intro t same
    rw [List.foldl_cons, List.foldl_cons, value t same]
    exact ih _ (by simpa using same)

/-- The undone value of a sale's jobs on the unit (R122). -/
theorem undoneOf_goneFrom (s : State) (u : UnitId) (l : Lane) (tag v : Nat) :
    undoneOf (s.goneFrom u) l tag * v =
      ((s.allJobs.filter fun i => i.onUnit u && decide (i.origin = .sale l tag) && !i.stopped).map fun i => i.undone * v).sum := by
  have perm := ((sortBySerial_perm (s.allJobs.filter fun j => j.onUnit u)).filter fun j => j.ofSale l tag).map Job.undone
  rw [undoneOf, State.goneFrom, perm.sum_eq, List.filter_filter, ← List.sum_map_mul_right]
  congr 3
  funext i
  rw [Job.ofSale, Bool.and_comm, Bool.and_assoc]

theorem salesOf_nodup (gone : List Job) : (salesOf gone).Nodup := nodup_eraseDups _

theorem State.any_transfer_goneFrom {s : State} {u : UnitId} :
    (s.goneFrom u).any Job.isTransfer = true ↔
      ∃ i ∈ s.allJobs, i.source = .unit u ∧ (i.origin = .sweep ∨ i.origin = .empty) := by
  have transfer (i : Job) : i.isTransfer = true ↔ i.origin = .sweep ∨ i.origin = .empty := by
    cases origin : i.origin <;> simp [Job.isTransfer, Origin.cls, origin]
  simp [List.any_eq_true, State.mem_goneFrom, transfer, Job.onUnit, and_assoc]

/-- The live sales of the jobs that leave, in the order of creation, read off any list of the live jobs in that order. -/
theorem State.liveSales_goneFrom {s : State} {u : UnitId} {gone : List Job} (distinct : (s.allJobs.map Job.serial).Nodup)
    (order : gone.Pairwise fun i x => i.serial < x.serial)
    (live : ∀ i, i ∈ gone ↔ i ∈ s.allJobs ∧ i.source = .unit u ∧ i.stopped = false) :
    (s.goneFrom u).filterMap Job.liveSale = gone.filterMap Job.liveSale := by
  have strict : (s.goneFrom u).Pairwise fun i x => i.serial < x.serial := by
    have serials : ((s.goneFrom u).map Job.serial).Nodup :=
      ((sortBySerial_perm _).map Job.serial).nodup_iff.mpr ((List.filter_sublist.map _).nodup distinct)
    exact ((sortBySerial_le _).and (List.pairwise_map.mp serials)).imp fun h => lt_of_le_of_ne h.1 h.2
  have same : (s.goneFrom u).filter (fun i => !i.stopped) = gone := by
    refine sorted_eq (strict.sublist List.filter_sublist) order fun i => ?_
    simp [live, State.mem_goneFrom, Job.onUnit, and_assoc]
  have stopped (i : Job) : i.stopped = true → i.liveSale = none := by
    intro stopped
    rw [Job.liveSale]
    split <;> simp [stopped]
  rw [← same, List.filterMap_filter]
  refine List.filterMap_congr fun i _ => ?_
  cases h : i.stopped <;> simp [stopped, h]

/-! ### What a third miss leaves (R121 to R123) -/

theorem State.placeRequest_congr {s t : State} (same : t.planReqs = s.planReqs) (l : Lane) (tag : Nat) (kind : RequestKind)
    (v : Nat) : (t.placeRequest l tag kind v).planReqs = (s.placeRequest l tag kind v).planReqs := by
  have only (r : State) : (r.placeRequest l tag kind v).planReqs =
      (({ s with planReqs := r.planReqs } : State).placeRequest l tag kind v).planReqs := by
    simp only [State.placeRequest]
    split
    · rfl
    · split <;> rfl
  rw [only t, only s, same]

theorem State.placeReplans_congr {s t : State} (same : t.planReqs = s.planReqs) (xs : List (Lane × Nat))
    (amount : Lane × Nat → Nat) : (t.placeReplans xs amount).planReqs = (s.placeReplans xs amount).planReqs := by
  induction xs generalizing s t with
  | nil => exact same
  | cons x xs ih => exact ih (State.placeRequest_congr same ..)

section
variable (s : State) (k : Kind) (e : Ejection) (u : UnitId)

/-- The ejection has ended, and the unit is jammed where it jams (R121, R123). -/
def State.missed : State :=
  let s := s.endEjection k e .ready
  if (s.units.get u).state.jams then s.setUnitState u .jammed else s

theorem State.thirdMiss_eq (j : Job) : s.thirdMiss k e j u = ((s.missed k e u).dismissJobs u).sampleJam j u := rfl

theorem State.missed_allJobs : (s.missed k e u).allJobs = s.allJobs.map (Job.landedIf e.job) := by
  rw [← State.endEjection_allJobs s k e .ready, State.missed]
  split
  · exact State.allJobs_congr (by simp) (by simp) (by simp)
  · rfl

theorem twelve_set_get {α : Type} (t : Twelve α) (i : Fin 12) : t.set i (t.get i) = t :=
  Twelve.ext_get fun j => by
    rw [Twelve.get_set]
    split <;> simp_all

theorem twelve_modify_set {α : Type} (t : Twelve α) (i : Fin 12) (x : α) (f : α → α) :
    (t.set i x).modify i f = t.set i (f x) :=
  Twelve.ext_get fun j => by
    rw [Twelve.get_modify, Twelve.get_set_same, Twelve.get_set, Twelve.get_set]
    split <;> rfl

theorem State.missed_units : (s.missed k e u).units =
    s.units.set u { s.units.get u with state := if (s.units.get u).state.jams then .jammed else (s.units.get u).state } := by
  have kept : (s.endEjection k e .ready).units = s.units := by simp
  simp only [State.missed, kept]
  split
  · simp [State.setUnitState, Twelve.modify]
  · exact (twelve_set_get ..).symm

@[simp] theorem State.missed_keeps :
    SameConfig s (s.missed k e u) ∧ (s.missed k e u).boxes = s.boxes ∧ SameLanes s (s.missed k e u) ∧
      SamePlans s (s.missed k e u) ∧ SameService s (s.missed k e u) ∧ SameLinks s (s.missed k e u) ∧
      SameEvents s (s.missed k e u) ∧
      (s.missed k e u).mechs = s.mechs.set k { s.mechs.get k with phase := .ready } := by
  simp only [State.missed]
  split <;> simp [State.endEjection, State.setPhase, PerKind.modify]

theorem State.missed_liveSales {gone : List Job} (distinct : (s.allJobs.map Job.serial).Nodup)
    (order : gone.Pairwise fun i x => i.serial < x.serial)
    (live : ∀ i, i ∈ gone ↔ i ∈ s.allJobs ∧ i.source = .unit u ∧ i.stopped = false) :
    ((s.missed k e u).goneFrom u).filterMap Job.liveSale = gone.filterMap Job.liveSale := by
  have jobs := s.missed_allJobs k e u
  have names : (gone.map (Job.landedIf e.job)).filterMap Job.liveSale = gone.filterMap Job.liveSale := by
    rw [List.filterMap_map]
    exact List.filterMap_congr fun i _ => i.landedIf_liveSale e.job
  rw [← names]
  refine State.liveSales_goneFrom ?_ ?_ fun i => ?_
  · rwa [jobs, List.map_map, show Job.serial ∘ Job.landedIf e.job = Job.serial by funext i; simp]
  · exact List.pairwise_map.mpr (by simpa using order)
  · rw [jobs, List.mem_map, List.mem_map]
    refine ⟨?_, ?_⟩
    · rintro ⟨x, mem, rfl⟩
      obtain ⟨mem, source, running⟩ := (live x).mp mem
      exact ⟨⟨x, mem, rfl⟩, by simpa using source, by simpa using running⟩
    · rintro ⟨⟨x, mem, rfl⟩, source, running⟩
      exact ⟨x, (live x).mpr ⟨mem, by simpa using source, by simpa using running⟩, rfl⟩

theorem State.missed_unitValue : (s.missed k e u).unitValue u = s.unitValue u := by
  simp [State.unitValue, State.slotValue, State.missed_units]

theorem State.missed_sales (l : Lane) (tag : Nat) :
    (l, tag) ∈ salesOf ((s.missed k e u).goneFrom u) ↔
      ∃ i ∈ s.allJobs, i.source = .unit u ∧ i.origin = .sale l tag ∧ i.stopped = false := by
  simp [State.mem_salesOf_goneFrom, State.missed_allJobs]

/-- The undone value of a sale's jobs on the unit, job by job (R122). -/
def State.lostOf (l : Lane) (tag : Nat) : List Nat :=
  (s.allJobs.filter fun i => i.onUnit u && decide (i.origin = .sale l tag) && !i.stopped).map fun i => i.undone * s.unitValue u

theorem State.lostOf_eq_nil {l : Lane} {tag : Nat} :
    s.lostOf u l tag = [] ↔ ¬ ∃ i ∈ s.allJobs, i.source = .unit u ∧ i.origin = .sale l tag ∧ i.stopped = false := by
  simp [State.lostOf, List.filter_eq_nil_iff, Job.onUnit, and_assoc]

theorem State.missed_lost (l : Lane) (tag : Nat) :
    undoneOf ((s.missed k e u).goneFrom u) l tag * s.unitValue u = (s.lostOf u l tag).sum := by
  rw [undoneOf_goneFrom, State.missed_allJobs, List.filter_map, List.map_map, State.lostOf]
  simp [Function.comp_def]

theorem State.dismissJobs_planReqs : (s.dismissJobs u).planReqs =
    (s.placeReplans (salesOf (s.goneFrom u)) fun x => undoneOf (s.goneFrom u) x.1 x.2 * s.unitValue u).planReqs := by
  have value : ((s.dropJobs fun j => j.onUnit u).modUnit u fun r => { r with committed := 0 }).unitValue u = s.unitValue u := by
    simp [State.unitValue, State.slotValue]
  have removed : (s.dismissJobs u).planReqs =
      (((s.dropJobs fun j => j.onUnit u).modUnit u fun r => { r with committed := 0 }).replanRemoved u (s.goneFrom u)).planReqs := by
    simp [State.dismissJobs, State.goneFrom]
  rw [removed, State.replanRemoved_eq, value]
  exact State.placeReplans_congr (by simp) ..

theorem State.dismissJobs_allJobs : (s.dismissJobs u).allJobs = s.allJobs.filter fun j => !j.onUnit u := by
  rw [← State.dropJobs_allJobs]
  obtain ⟨laneJobs, serviceJobs, stackJobs, -⟩ := s.dismissJobs_jobs u
  exact State.allJobs_congr laneJobs serviceJobs stackJobs

/-- The transfer of a removed job ends early; TRANSFER_DONE is its only event (R122, R149). -/
theorem State.dismissJobs_transfer : (s.dismissJobs u).transfers = (s.endRemoved u (s.goneFrom u)).transfers ∧
    (s.dismissJobs u).events = (s.endRemoved u (s.goneFrom u)).events := by
  have transfers (t : State) (same : t.transfers = s.transfers ∧ t.events = s.events) :
      (t.endRemoved u (s.goneFrom u)).transfers = (s.endRemoved u (s.goneFrom u)).transfers ∧
        (t.endRemoved u (s.goneFrom u)).events = (s.endRemoved u (s.goneFrom u)).events := by
    obtain ⟨transfers, events⟩ := same
    simp only [State.endRemoved, State.endTransfer, transfers]
    split
    · split <;> simp [State.modTransfer, State.raiseTransferDone, State.modEvents, transfers, events]
    · exact ⟨transfers, events⟩
  exact transfers (((s.dropJobs fun j => j.onUnit u).modUnit u fun r => { r with committed := 0 }).replanRemoved u (s.goneFrom u))
    (by simp)

end

/-! ### EJECT_TIMEOUT at the third attempt -/

theorem State.unitMiss_third {s : State} {k : Kind} {e : Ejection} {u : UnitId} {j : Job} (found : s.findJob e.job = some j)
    (sound : e.faultPending = false) (live : j.stopped = false) (third : 3 ≤ e.attempt) :
    s.unitMiss k e u = (s.thirdMiss k e j u).conclude (s.units.get u).state.jams [] [] := by
  simp only [State.unitMiss, found]
  rw [if_neg (by simp [sound, live]), if_neg (by simpa [Config.maxAttempts] using third)]

theorem exec_thirdMiss {k : Kind} {e : Ejection} {u : UnitId} {j : Job} {s : State} (running : s.Running)
    (ejecting : (s.mechs.get k).phase = .ejecting e) (source : e.source = .unit u) (found : s.findJob e.job = some j)
    (sound : e.faultPending = false) (live : j.stopped = false) (third : 3 ≤ e.attempt) :
    exec (.ejectTimeout k) s =
      .next (((s.advanceTo e.ends).thirdMiss k e j u).conclude (s.units.get u).state.jams [] []) := by
  have taken : exec (.ejectTimeout k) s = .next (takeEjectTimeout k s.firstEvent) := rfl
  have ejection : s.ejection k = some e := by rw [State.ejection, ejecting]
  have found' : (s.advanceTo e.ends).findJob e.job = some j := found
  have missed := State.unitMiss_third (k := k) (u := u) found' sound live third
  rw [taken, State.firstEvent_running running, takeEjectTimeout, State.whenPowered, if_pos running.1, ejection]
  simp only [source, missed]
  rfl

theorem State.sampleJam_transferDone (s : State) (j : Job) (u : UnitId) :
    ((s.sampleJam j u).events.get .sp).transferDone = (s.events.get .sp).transferDone := by
  simp only [State.sampleJam, State.sample]
  split
  · simp [State.raiseWrapped]
  · rfl

section
variable (s : State) (k : Kind) (e : Ejection) (j : Job) (u : UnitId)

theorem State.thirdMiss_units : (s.thirdMiss k e j u).units = s.units.set u { s.units.get u with
    committed := 0, state := if (s.units.get u).state.jams then .jammed else (s.units.get u).state } := by
  have units : (s.thirdMiss k e j u).units = ((s.missed k e u).dismissJobs u).units := by simp [State.thirdMiss_eq]
  rw [units, ((s.missed k e u).dismissJobs_jobs u).2.2.2, State.missed_units, twelve_modify_set]

theorem State.thirdMiss_allJobs : (s.thirdMiss k e j u).allJobs =
    (s.allJobs.map (Job.landedIf e.job)).filter fun i => !i.onUnit u := by
  rw [← State.missed_allJobs s k e u, ← State.dismissJobs_allJobs]
  exact State.allJobs_congr (by simp [State.thirdMiss_eq]) (by simp [State.thirdMiss_eq]) (by simp [State.thirdMiss_eq])

theorem State.thirdMiss_planReqs : (s.thirdMiss k e j u).planReqs =
    (s.placeReplans (salesOf ((s.missed k e u).goneFrom u)) fun x => (s.lostOf u x.1 x.2).sum).planReqs := by
  have planReqs : (s.thirdMiss k e j u).planReqs = ((s.missed k e u).dismissJobs u).planReqs := by simp [State.thirdMiss_eq]
  have lost : (fun x : Lane × Nat =>
      undoneOf ((s.missed k e u).goneFrom u) x.1 x.2 * (s.missed k e u).unitValue u) = fun x => (s.lostOf u x.1 x.2).sum := by
    funext x
    rw [State.missed_unitValue, State.missed_lost]
  rw [planReqs, State.dismissJobs_planReqs, lost]
  exact State.placeReplans_congr (by simp) ..

theorem State.thirdMiss_saw : ∀ n, (s.thirdMiss k e j u).counters.get n = (s.counters.get n).after
    { kind := .jam, lane := j.origin.sampleLane, slots := some (s.unitSlotMask u), value := 1 } := by
  intro n
  have slots : ((s.missed k e u).dismissJobs u).unitSlotMask u = s.unitSlotMask u := by
    simp [State.unitSlotMask, ((s.missed k e u).dismissJobs_jobs u).2.2.2, State.missed_units]
  simp [State.thirdMiss_eq, State.sampleJam, slots]

/-- A transfer whose job leaves ends early with TRANSFER_DONE; no other transfer does (R122, R149). -/
theorem State.thirdMiss_transfer :
    (∀ x, s.transfers.get u = some x → (∃ i ∈ s.allJobs, i.source = .unit u ∧ (i.origin = .sweep ∨ i.origin = .empty)) →
        (s.thirdMiss k e j u).transfers = s.transfers.set u (some { x with ended := .jam }) ∧
          ((s.thirdMiss k e j u).events.get .sp).transferDone = some (u, x.kind, x.moved)) ∧
      ((∀ i ∈ s.allJobs, i.source = .unit u → i.origin ≠ .sweep ∧ i.origin ≠ .empty) →
        (s.thirdMiss k e j u).transfers = s.transfers ∧
          ((s.thirdMiss k e j u).events.get .sp).transferDone = (s.events.get .sp).transferDone) := by
  obtain ⟨transfers, events⟩ := (s.missed k e u).dismissJobs_transfer u
  have sampled : (s.thirdMiss k e j u).transfers = ((s.missed k e u).dismissJobs u).transfers := by simp [State.thirdMiss_eq]
  have done : ((s.thirdMiss k e j u).events.get .sp).transferDone =
      (((s.missed k e u).dismissJobs u).events.get .sp).transferDone := by
    rw [State.thirdMiss_eq, State.sampleJam_transferDone]
  have class2 : ((s.missed k e u).goneFrom u).any Job.isTransfer = true ↔
      ∃ i ∈ s.allJobs, i.source = .unit u ∧ (i.origin = .sweep ∨ i.origin = .empty) := by
    rw [State.any_transfer_goneFrom]
    simp [State.missed_allJobs]
  rw [sampled, done, transfers, events, State.endRemoved]
  refine ⟨fun x held some => ?_, fun none => ?_⟩
  · have held' : (s.missed k e u).transfers.get u = .some x := by simpa using held
    rw [if_pos (class2.mpr some), State.endTransfer, held']
    simp [State.modTransfer, State.raiseTransferDone, State.modEvents, Twelve.modify]
  · rw [if_neg fun gone => ?_]
    · simp
    · obtain ⟨i, mem, source, origin⟩ := class2.mp gone
      obtain ⟨sweep, empty⟩ := none i mem source
      exact origin.elim sweep empty

end

/-- Settles O39: the jobs on the unit leave, and the REPLANs of their sales are placed one after the other. -/
theorem thirdMissJams : Obligations.ThirdMissJams := by
  intro k e u j s running ejecting source found sound live third state
  have jams : (s.units.get u).state.jams = decide ((s.units.get u).state ≠ .locked) := by
    rcases state with state | state | state <;> simp [state, UnitState.jams]
  have entered : (if (s.units.get u).state.jams then UnitState.jammed else (s.units.get u).state) =
      if (s.units.get u).state = .locked then .locked else .jammed := by
    rcases state with state | state | state <;> simp [state, UnitState.jams]
  let m := s.advanceTo e.ends
  have units := m.thirdMiss_units k e j u
  have allJobs := m.thirdMiss_allJobs k e j u
  have planReqs := m.thirdMiss_planReqs k e j u
  have mechs : (m.thirdMiss k e j u).mechs = s.mechs.set k { s.mechs.get k with phase := .ready } := by
    simp [State.thirdMiss_eq, m]
  have sales (l : Lane) (tag : Nat) := m.missed_sales k e u l tag
  have distinct := salesOf_nodup ((m.missed k e u).goneFrom u)
  have placed (l : Lane) (tag : Nat) (some : ∃ i ∈ s.allJobs, i.source = .unit u ∧ i.origin = .sale l tag ∧ i.stopped = false) :=
    State.placeReplans_find distinct ((sales l tag).mpr some) m fun x => (m.lostOf u x.1 x.2).sum
  obtain ⟨transferEnds, transferStays⟩ := m.thirdMiss_transfer k e j u
  refine ⟨m.thirdMiss k e j u, ?_, ?_, by simp [m], mechs, ?_, ?_, fun l tag some => ?_, fun l tag => ⟨fun none => ?_, fun some => ?_⟩,
    ?_, transferEnds, transferStays, ?_, ?_⟩
  · rw [exec_thirdMiss running ejecting source found sound live third, jams]
  · rw [← entered]
    exact units
  · intro i mem
    rw [allJobs] at mem
    simpa [Job.onUnit] using (List.mem_filter.mp mem).2
  · intro i away other
    rw [allJobs, List.mem_filter]
    refine ⟨fun ⟨mem, _⟩ => ?_, fun mem => ⟨?_, by simp [Job.onUnit, away]⟩⟩
    · obtain ⟨x, mem, rfl⟩ := List.mem_map.mp mem
      have same : x.landedIf e.job = x := if_neg (by simpa using other)
      rwa [same]
    · exact List.mem_map.mpr ⟨i, mem, if_neg other⟩
  · have own := PlanReq.isOf_of_find (planReqs ▸ placed l tag some)
    rw [State.hasRequest, List.any_eq_true]
    exact ⟨_, List.mem_of_find?_eq_some (planReqs ▸ placed l tag some), own⟩
  · rw [planReqs, State.placeReplans_find_other (mt (sales l tag).mp ((m.lostOf_eq_nil u).mp none))]
    rfl
  · have some' := not_not.mp (mt (m.lostOf_eq_nil u).mpr some)
    have request := placed l tag some'
    rw [planReqs]
    refine ⟨fun absent => ?_, fun q pending => ?_⟩
    · have none : (s.planReqs.find? fun r => r.isOf l tag) = none := by
        simpa [State.hasRequest, PlanReq.isOf] using absent
      have none' : (m.planReqs.find? fun r => r.isOf l tag) = .none := none
      rw [request, none']
      rfl
    · have pending' : (m.planReqs.find? fun r => r.isOf l tag) = .some q := pending
      rw [request, pending']
      rfl
  · intro gone replans others live order serials law parts own rest sales' name joining
    have live' (i : Job) : i ∈ gone → i.liveSale = match i.origin with
        | .sale l tag => some (l, tag)
        | _ => none := fun mem => by
      rw [Job.liveSale]
      cases i.origin <;> simp [((live i).mp mem).2.2]
    have names : salesOf ((m.missed k e u).goneFrom u) = sales' := by
      rw [salesOf, m.missed_liveSales k e u serials order live]
      exact congrArg List.eraseDups (List.filterMap_congr live')
    have split := State.placeReplans_names distinct (s := m) law parts own rest fun x => (m.lostOf u x.1 x.2).sum
    rw [planReqs]
    rw [names] at split ⊢
    exact split
  · intro n
    refine (m.thirdMiss_saw k e j u n).trans ?_
    cases origin : j.origin with
    | sale l tag => cases l <;> rfl
    | _ => rfl
  · simp [m]

end Sys2Proof.Machine
end

section
/-! SUPPORT. What an extra piece takes from another job (R127). -/

namespace Sys2Proof.Machine

-- One proof after the other: many short proofs at once take more threads than the check's memory limit has room for.
set_option Elab.async false

/-! ### The job that loses a piece -/

/-- No job on the unit was created after the last one. -/
theorem State.le_lastJobOn {s : State} {u : UnitId} {j i : Job} (last : s.lastJobOn u = some j) (mem : i ∈ s.allJobs)
    (source : i.source = .unit u) : i.serial ≤ j.serial := by
  have sorted := sortBySerial_le (s.allJobs.filter fun j => j.onUnit u)
  have mem' : i ∈ sortBySerial (s.allJobs.filter fun j => j.onUnit u) :=
    (sortBySerial_perm _).mem_iff.mpr (List.mem_filter.mpr ⟨mem, by simp [Job.onUnit, source]⟩)
  obtain ⟨front, parts⟩ := List.getLast?_eq_some_iff.mp (show _ = some j from last)
  rw [parts] at sorted mem'
  rcases List.mem_append.mp mem' with before | here
  · exact (List.pairwise_append.mp sorted).2.2 i before j (List.mem_singleton.mpr rfl)
  · rw [List.mem_singleton.mp here]

theorem State.shorten_none {s : State} {u : UnitId}
    (none : (s.units.get u).committed ≤ (s.units.get u).count ∨ ∀ i ∈ s.allJobs, i.source ≠ .unit u) : s.shorten u = s := by
  rw [State.shorten]
  split
  next short =>
    cases last : s.lastJobOn u with
    | none => rfl
    | some j =>
      obtain ⟨mem, source⟩ := State.lastJobOn_eq_some last
      rcases none with enough | away
      · omega
      · exact absurd source (away j mem)
  · rfl

theorem State.shorten_some {s : State} {u : UnitId} (short : (s.units.get u).count < (s.units.get u).committed)
    (some : ∃ i ∈ s.allJobs, i.source = .unit u) :
    ∃ j ∈ s.allJobs, j.source = .unit u ∧ (∀ i ∈ s.allJobs, i.source = .unit u → i.serial ≤ j.serial) ∧
      s.shorten u = s.shortenJob j u := by
  obtain ⟨i, mem, source⟩ := some
  obtain ⟨j, last⟩ := State.lastJobOn_isSome mem source
  obtain ⟨own, on⟩ := State.lastJobOn_eq_some last
  refine ⟨j, own, on, fun i mem source => State.le_lastJobOn last mem source, ?_⟩
  rw [State.shorten, if_pos short, last]

/-! ### What shortening a job does (R51, R127) -/

/-- A change of the jobs of one serial number is not seen where these are left out. -/
theorem filter_map_serial {f : Job → Job} (serial : ∀ i, (f i).serial = i.serial) (n : Nat) (js : List Job) :
    (js.map fun i => if i.serial = n then f i else i).filter (fun i => decide (i.serial ≠ n)) =
      js.filter fun i => decide (i.serial ≠ n) := by
  induction js with
  | nil => rfl
  | cons i js ih =>
    by_cases same : i.serial = n
    · simpa [same, serial] using ih
    · simpa [same] using ih

theorem State.endTransferOf_congr {s t : State} (transfers : t.transfers = s.transfers) (events : t.events = s.events) (j : Job)
    (u : UnitId) (x : TransferEnd) :
    (t.endTransferOf j u x).transfers = (s.endTransferOf j u x).transfers ∧
      (t.endTransferOf j u x).events = (s.endTransferOf j u x).events := by
  have ended : (t.endTransfer u x).transfers = (s.endTransfer u x).transfers ∧
      (t.endTransfer u x).events = (s.endTransfer u x).events := by
    simp only [State.endTransfer, transfers]
    split <;> simp [State.modTransfer, State.raiseTransferDone, State.modEvents, transfers, events]
  unfold State.endTransferOf
  cases j.origin with
  | sale | stackDown => exact ⟨transfers, events⟩
  | sweep | empty => exact ended

section
variable (s : State) (j : Job) (u : UnitId)

/-- The job one piece shorter, its piece released, and its sale's REPLAN placed. -/
def State.cutJob : State :=
  let s := (s.modJob j.serial fun j => { j with ordered := j.ordered - 1 }).release u 1
  match j.origin with
  | .sale l tag => s.placeRequest l tag .replan (s.unitValue u)
  | .stackDown => s
  | .sweep => s
  | .empty => s

theorem State.shortenJob_eq : s.shortenJob j u =
    if j.ordered - 1 ≤ j.done then ((s.cutJob j u).dropJob j.serial).endTransferOf j u .complete else s.cutJob j u := rfl

theorem State.cutJob_allJobs :
    (s.cutJob j u).allJobs = s.allJobs.map fun i => if i.serial = j.serial then i.shortened else i := by
  rw [← State.modJob_allJobs, State.cutJob]
  cases j.origin <;> exact State.allJobs_congr (by simp; rfl) (by simp; rfl) (by simp; rfl)

theorem State.shortenJob_allJobs : (s.shortenJob j u).allJobs =
    if j.ordered - 1 ≤ j.done then s.allJobs.filter fun i => decide (i.serial ≠ j.serial)
    else s.allJobs.map fun i => if i.serial = j.serial then i.shortened else i := by
  rw [State.shortenJob_eq]
  split
  · have jobs : (((s.cutJob j u).dropJob j.serial).endTransferOf j u .complete).allJobs = ((s.cutJob j u).dropJob j.serial).allJobs :=
      State.allJobs_congr (by simp) (by simp) (by simp)
    rw [jobs, State.dropJob_allJobs, State.cutJob_allJobs, filter_map_serial (f := Job.shortened) fun _ => rfl]
  · exact s.cutJob_allJobs j u

theorem State.shortenJob_units (v : UnitId) :
    (s.shortenJob j u).units.get v = if v = u then (s.units.get v).released 1 true else s.units.get v := by
  have cut : (s.cutJob j u).units.get v = if v = u then (s.units.get v).released 1 true else s.units.get v := by
    rw [State.cutJob]
    cases j.origin <;> simp [State.release_get]
  rw [State.shortenJob_eq]
  split
  · simpa using cut
  · exact cut

theorem State.shortenJob_planReqs :
    (∀ l tag, j.origin = .sale l tag →
        (s.shortenJob j u).planReqs = (s.placeRequest l tag .replan (s.unitValue u)).planReqs) ∧
      ((∀ l tag, j.origin ≠ .sale l tag) → (s.shortenJob j u).planReqs = s.planReqs) := by
  have cut : (s.shortenJob j u).planReqs = (s.cutJob j u).planReqs := by
    rw [State.shortenJob_eq]
    split <;> simp
  rw [cut, State.cutJob]
  refine ⟨fun l tag sale => ?_, fun other => ?_⟩
  · have value : ((s.modJob j.serial fun j => { j with ordered := j.ordered - 1 }).release u 1).unitValue u = s.unitValue u := by
      simp [State.unitValue, State.slotValue, State.release_get, UnitRec.released]
    rw [sale]
    simp only [value]
    exact State.placeRequest_congr (by simp) ..
  · cases origin : j.origin with
    | sale l tag => exact absurd origin (other l tag)
    | _ => simp

theorem State.shortenJob_transfer :
    (s.shortenJob j u).transfers = (if j.ordered - 1 ≤ j.done then s.endTransferOf j u .complete else s).transfers ∧
      (s.shortenJob j u).events = (if j.ordered - 1 ≤ j.done then s.endTransferOf j u .complete else s).events := by
  have cut : (s.cutJob j u).transfers = s.transfers ∧ (s.cutJob j u).events = s.events := by
    rw [State.cutJob]
    cases j.origin <;> simp
  rw [State.shortenJob_eq]
  split
  · exact State.endTransferOf_congr (by simpa using cut.1) (by simpa using cut.2) j u .complete
  · exact cut

end

/-- A class 2 job's transfer ends with TRANSFER_DONE (R149). -/
theorem State.endTransferOf_class2 {s : State} {j : Job} {u : UnitId} {x : Transfer} (class2 : j.origin = .sweep ∨ j.origin = .empty)
    (held : s.transfers.get u = some x) (e : TransferEnd) :
    (s.endTransferOf j u e).transfers.get u = some { x with ended := e } ∧
      ((s.endTransferOf j u e).events.get .sp).transferDone = some (u, x.kind, x.moved) := by
  have same : s.endTransferOf j u e = s.endTransfer u e := by
    rcases class2 with origin | origin <;> simp [State.endTransferOf, origin]
  rw [same, State.endTransfer, held]
  simp [State.raiseTransferDone]

/-- The jobs of other serial numbers stay, and the shortened job with them where pieces of it are left. -/
theorem State.shortenJob_jobs {s : State} {j : Job} (mem : j ∈ s.allJobs) (u : UnitId) :
    (j.ordered - 1 ≤ j.done → ∀ i ∈ (s.shortenJob j u).allJobs, i.serial ≠ j.serial) ∧
      (j.done < j.ordered - 1 → { j with ordered := j.ordered - 1 } ∈ (s.shortenJob j u).allJobs) ∧
      ∀ i, i.serial ≠ j.serial → (i ∈ (s.shortenJob j u).allJobs ↔ i ∈ s.allJobs) := by
  rw [State.shortenJob_allJobs]
  refine ⟨fun done i left => ?_, fun more => ?_, fun i other => ?_⟩
  · rw [if_pos done] at left
    simpa using (List.mem_filter.mp left).2
  · rw [if_neg (Nat.not_le.mpr more)]
    exact List.mem_map.mpr ⟨j, mem, if_pos rfl⟩
  · split
    · simp [other]
    · refine ⟨fun left => ?_, fun mem => List.mem_map.mpr ⟨i, mem, if_neg other⟩⟩
      obtain ⟨x, mem, rfl⟩ := List.mem_map.mp left
      have same : ¬ x.serial = j.serial := fun same => by simp [same, Job.shortened] at other
      rwa [if_neg same]

/-- The shortening by itself: the second part of O36. -/
theorem shorten_takes (u : UnitId) (s : State) (short : (s.units.get u).count < (s.units.get u).committed)
    (some : ∃ j ∈ s.allJobs, j.source = .unit u) :
    ∃ j ∈ s.allJobs, j.source = .unit u ∧ (∀ i ∈ s.allJobs, i.source = .unit u → i.serial ≤ j.serial) ∧
      ((s.shorten u).units.get u).committed = (s.units.get u).committed - 1 ∧
      ((s.shorten u).units.get u).count = (s.units.get u).count ∧
      (∀ l tag, j.origin = .sale l tag → (s.shorten u).hasRequest l tag = true ∧
        (s.hasRequest l tag = false → (s.shorten u).planReqs =
          insertReq { lane := l, tag := tag, kind := .replan, amount := boundAmount (s.unitValue u)
                      shielded := false } s.planReqs) ∧
        ∀ q, s.planReqs.find? (fun r => r.isOf l tag) = .some q →
          (s.shorten u).planReqs.find? (fun r => r.isOf l tag) =
            .some { q with
              amount := boundAmount (q.amount + s.unitValue u)
              kind := if q.kind = .refund then .replan else q.kind }) ∧
      (j.origin = .sweep ∨ j.origin = .empty → (s.shorten u).planReqs = s.planReqs ∧
        (j.ordered - 1 ≤ j.done → ∀ x, s.transfers.get u = .some x →
          (s.shorten u).transfers.get u = .some { x with ended := .complete } ∧
            ((s.shorten u).events.get .sp).transferDone = .some (u, x.kind, x.moved))) ∧
      (j.ordered - 1 ≤ j.done → ∀ i ∈ (s.shorten u).allJobs, i.serial ≠ j.serial) ∧
      (j.done < j.ordered - 1 → { j with ordered := j.ordered - 1 } ∈ (s.shorten u).allJobs) := by
  obtain ⟨j, mem, source, last, eq⟩ := State.shorten_some short some
  have units := s.shortenJob_units j u u
  obtain ⟨leaves, stays, -⟩ := State.shortenJob_jobs mem u
  obtain ⟨sale, other⟩ := s.shortenJob_planReqs j u
  obtain ⟨transfers, events⟩ := s.shortenJob_transfer j u
  rw [if_pos rfl] at units
  rw [eq, units]
  refine ⟨j, mem, source, last, rfl, rfl, fun l tag origin => ?_, fun class2 => ⟨?_, fun done x held => ?_⟩, leaves, stays⟩
  · have placed := sale l tag origin
    have request := s.placeReplan_find l tag (s.unitValue u)
    refine ⟨?_, fun none => ?_, fun q pending => ?_⟩
    · exact (congrArg (fun rs : List PlanReq => rs.any fun r => decide (r.lane = l) && decide (r.tag = tag)) placed).trans
        (s.placeRequest_hasRequest l tag .replan (s.unitValue u))
    · exact placed.trans (State.placeRequest_fresh none ..)
    · rw [placed, request, pending]
      rfl
  · exact other fun l tag origin => by simp [origin] at class2
  · rw [transfers, events, if_pos done]
    exact State.endTransferOf_class2 class2 held .complete

end Sys2Proof.Machine
end

section
/-! SUPPORT. A piece that reaches its destination (R115, R116, R126). -/

namespace Sys2Proof.Machine

-- One proof after the other: many short proofs at once take more threads than the check's memory limit has room for.
set_option Elab.async false

/-! ### The cup and the outlet (R103, R105, R116) -/

/-- A delivery count after one more piece: it rises up to its limit (R103). -/
def raised (limit n : Nat) : Nat := if n < limit then n + 1 else n

theorem raised_raised (limit n : Nat) : raised limit (raised limit n) = if n < limit then min limit (n + 2) else n := by
  unfold raised
  split_ifs <;> omega

/-- The lanes after one more piece at a destination. -/
def State.bumped (s : State) : Dest → PerLane LaneRec
  | .cup l => s.lanes.set l { s.lanes.get l with cup := raised s.limits.cup (s.lanes.get l).cup }
  | .outlet l => s.lanes.set l { s.lanes.get l with outlet := raised s.limits.outlet (s.lanes.get l).outlet }
  | _ => s.lanes

/-- The samples of a destination that a piece fills, `i` pieces of the same report before it (R105). -/
def State.bumpSamples (s : State) (x : Dest) (m : Mask12) (i : Nat) : List Sample :=
  match x with
  | .cup l =>
    if (s.lanes.get l).cup + i + 1 = s.limits.cup then [{ kind := .pause, lane := .lane l, slots := some m, value := 1 }] else []
  | .outlet l =>
    if (s.lanes.get l).outlet + i + 1 = s.limits.outlet then
      [{ kind := .pause, lane := .lane l, slots := some m, value := 1 }]
    else []
  | _ => []

theorem perLane_set_get {α : Type} (t : PerLane α) (l : Lane) : t.set l (t.get l) = t := by cases l <;> rfl

theorem State.bump_lanes (s : State) (x : Dest) (m : Mask12) : (s.bump x m).lanes = s.bumped x := by
  cases x with
  | cup l =>
    by_cases room : (s.lanes.get l).cup < s.limits.cup
    · simp only [State.bump, State.bumped, raised, if_pos room]
      split <;> simp [PerLane.modify]
    · simp only [State.bump, State.bumped, raised, if_neg room]
      exact (perLane_set_get ..).symm
  | outlet l =>
    by_cases room : (s.lanes.get l).outlet < s.limits.outlet
    · simp only [State.bump, State.bumped, raised, if_pos room]
      split <;> simp [PerLane.modify]
    · simp only [State.bump, State.bumped, raised, if_neg room]
      exact (perLane_set_get ..).symm
  | _ => rfl

theorem State.bump_saw (s : State) (x : Dest) (m : Mask12) : Saw s (s.bump x m) (s.bumpSamples x m 0) := by
  intro n
  cases x with
  | cup l =>
    by_cases room : (s.lanes.get l).cup < s.limits.cup
    · by_cases full : (s.lanes.get l).cup + 1 = s.limits.cup <;>
        simp [State.bump, State.bumpSamples, State.cupPaused, State.samplePause, room, full]
    · have more : (s.lanes.get l).cup + 1 ≠ s.limits.cup := by omega
      simp [State.bump, State.bumpSamples, room, more]
  | outlet l =>
    by_cases room : (s.lanes.get l).outlet < s.limits.outlet
    · by_cases full : (s.lanes.get l).outlet + 1 = s.limits.outlet <;>
        simp [State.bump, State.bumpSamples, State.outletPaused, State.samplePause, room, full]
    · have more : (s.lanes.get l).outlet + 1 ≠ s.limits.outlet := by omega
      simp [State.bump, State.bumpSamples, room, more]
  | _ => simp [State.bump, State.bumpSamples]

theorem State.bump_events (s : State) (x : Dest) (m : Mask12) {p : Port} (hp : p ≠ .sp) :
    (s.bump x m).events.get p = s.events.get p := by
  cases x <;> simp only [State.bump] <;> (repeat' split) <;> simp [State.samplePause, State.sample_events _ _ hp]

/-! ### The sale (R116, R126) -/

/-- A job's pieces count for the sale: a PAYING or REFUNDING one, or the STOPPED one of a stopped job (R108, R116). -/
def Sale.takesPieces (x : Sale) (stopped : Bool) : Prop :=
  if stopped then x.state = .stopped else x.state = .paying ∨ x.state = .refunding

theorem State.payPiece_findSale {s : State} {l : Lane} {tag : Nat} {x : Sale} (found : s.findSale l tag = some x)
    {stopped : Bool} (takes : x.takesPieces stopped) (paid extra : Nat) :
    (s.payPiece l tag stopped paid extra).findSale l tag =
      some { x with paid := satAdd x.paid paid, overpaid := satAdd x.overpaid extra } := by
  refine (State.modSale_found found ?_).trans ?_
  · intro y
    split <;> rfl
  · rw [if_pos]
    cases stopped <;> simpa [Sale.takesPieces] using takes

/-! ### The cashbox and the transfer (R115, R149) -/

/-- A transfer with one more piece moved (R149). -/
def Transfer.more (x : Transfer) : Transfer := { x with moved := x.moved + 1 }

theorem State.moveToCashbox_transfers (s : State) (u : UnitId) :
    (s.moveToCashbox u).transfers.get u = (s.transfers.get u).map Transfer.more := by
  have moved (t : State) : (t.transferMoved u).transfers.get u = (t.transfers.get u).map Transfer.more := by
    simp only [State.transferMoved, State.modTransfer, Twelve.get_modify_same]
    rfl
  simp only [State.moveToCashbox]
  split
  · exact moved s
  · simp [State.sampleToCashbox, moved]

theorem State.moveToCashbox_counts {s : State} {u : UnitId} {d : Slot} (slot : (s.units.get u).slot = some d) :
    ((s.moveToCashbox u).boxes.get (unitKind u)).counts.get d = raised 65535 ((s.boxes.get (unitKind u)).counts.get d) := by
  have boxes : (s.moveToCashbox u).boxes = (s.boxIn (unitKind u) d).boxes := by
    simp [State.moveToCashbox, slot, State.transferMoved, State.sampleToCashbox]
  rw [boxes, State.boxIn_counts, raised]
  by_cases room : (s.boxes.get (unitKind u)).counts.get d < 65535 <;> simp [room]

/-- The sample of a class 2 piece (R180). -/
def State.boxSamples (s : State) (u : UnitId) : List Sample :=
  match (s.units.get u).slot with
  | some d => [{ kind := .pieceToCashbox, lane := .service, slots := some (slotBit d), value := 1 }]
  | none => []

theorem State.moveToCashbox_saw (s : State) (u : UnitId) : Saw s (s.moveToCashbox u) (s.boxSamples u) := by
  intro n
  cases slot : (s.units.get u).slot <;>
    simp [State.moveToCashbox, State.boxSamples, slot, State.transferMoved, State.sampleToCashbox]

theorem State.moveToCashbox_events (s : State) (u : UnitId) {p : Port} (hp : p ≠ .sp) :
    (s.moveToCashbox u).events.get p = s.events.get p := by
  simp only [State.moveToCashbox]
  split <;> simp [State.transferMoved, State.sampleToCashbox, State.sample_events _ _ hp]

/-! ### A piece at its destination (R115, R116, R126) -/

section
variable (s : State) (j : Job) (u : UnitId)

/-- PIECE_OUT (R180). -/
def State.outSample : Sample :=
  { kind := .pieceOut, lane := j.origin.sampleLane, slots := some (s.unitSlotMask u), value := 1 }

theorem State.pieceSamples_sale {l : Lane} {tag : Nat} (origin : j.origin = .sale l tag) (i : Nat) :
    s.pieceSamples j u i = s.outSample j u :: s.bumpSamples j.dest (s.unitSlotMask u) i := by
  obtain ⟨serial, o, source, ordered, done, dest, inFlight, stopped⟩ := j
  obtain rfl : o = .sale l tag := origin
  cases dest <;> rfl

theorem State.pieceSamples_class2 (class2 : j.origin = .sweep ∨ j.origin = .empty) (i : Nat) :
    s.pieceSamples j u i = s.outSample j u :: s.boxSamples u := by
  obtain ⟨serial, o, source, ordered, done, dest, inFlight, stopped⟩ := j
  rcases class2 with rfl | rfl <;> rfl

theorem State.pieceSamples_stackDown (origin : j.origin = .stackDown) (i : Nat) :
    s.pieceSamples j u i = [s.outSample j u] := by
  obtain ⟨serial, o, source, ordered, done, dest, inFlight, stopped⟩ := j
  obtain rfl : o = .stackDown := origin
  rfl

theorem State.deliver_sale {l : Lane} {tag : Nat} (origin : j.origin = .sale l tag) (extra : Nat) :
    s.deliver j u extra =
      ((s.sample (s.outSample j u)).bump j.dest (s.unitSlotMask u)).payPiece l tag j.stopped (s.unitValue u) extra := by
  have mask : (s.sample (s.outSample j u)).unitSlotMask u = s.unitSlotMask u := by simp [State.unitSlotMask]
  have value : (s.sample (s.outSample j u)).unitValue u = s.unitValue u := by simp [State.unitValue, State.slotValue]
  have delivered : s.deliver j u extra =
      ((s.sample (s.outSample j u)).bump j.dest ((s.sample (s.outSample j u)).unitSlotMask u)).payPiece l tag j.stopped
        ((s.sample (s.outSample j u)).unitValue u) extra := by
    obtain ⟨serial, o, source, ordered, done, dest, inFlight, stopped⟩ := j
    obtain rfl : o = .sale l tag := origin
    rfl
  rw [delivered, mask, value]

theorem State.deliver_class2 (class2 : j.origin = .sweep ∨ j.origin = .empty) (extra : Nat) :
    s.deliver j u extra = (s.sample (s.outSample j u)).moveToCashbox u := by
  obtain ⟨serial, o, source, ordered, done, dest, inFlight, stopped⟩ := j
  rcases class2 with rfl | rfl <;> rfl

theorem State.deliver_stackDown (origin : j.origin = .stackDown) (extra : Nat) :
    s.deliver j u extra = s.sample (s.outSample j u) := by
  obtain ⟨serial, o, source, ordered, done, dest, inFlight, stopped⟩ := j
  obtain rfl : o = .stackDown := origin
  rfl

theorem Origin.cases (o : Origin) : (∃ l tag, o = .sale l tag) ∨ (o = .sweep ∨ o = .empty) ∨ o = .stackDown := by
  cases o <;> simp

theorem State.deliver_saw (extra : Nat) : Saw s (s.deliver j u extra) (s.pieceSamples j u 0) := by
  have out : Saw s (s.sample (s.outSample j u)) [s.outSample j u] := fun n => by simp
  rcases j.origin.cases with ⟨l, tag, origin⟩ | class2 | origin
  · rw [State.deliver_sale s j u origin, State.pieceSamples_sale s j u origin]
    have bumped := (s.sample (s.outSample j u)).bump_saw j.dest (s.unitSlotMask u)
    have same : (s.sample (s.outSample j u)).bumpSamples j.dest (s.unitSlotMask u) 0 =
        s.bumpSamples j.dest (s.unitSlotMask u) 0 := by
      cases j.dest <;> simp [State.bumpSamples]
    rw [same] at bumped
    exact fun n => (congrArg (fun c => Eight.get c n) (by simp)).trans ((out.trans bumped) n)
  · rw [State.deliver_class2 s j u class2, State.pieceSamples_class2 s j u class2]
    have boxed := (s.sample (s.outSample j u)).moveToCashbox_saw u
    have same : (s.sample (s.outSample j u)).boxSamples u = s.boxSamples u := by simp [State.boxSamples]
    rw [same] at boxed
    exact out.trans boxed
  · rw [State.deliver_stackDown s j u origin, State.pieceSamples_stackDown s j u origin]
    exact out

theorem State.deliver_events (extra : Nat) {p : Port} (hp : p ≠ .sp) :
    (s.deliver j u extra).events.get p = s.events.get p := by
  rcases j.origin.cases with ⟨l, tag, origin⟩ | class2 | origin
  · rw [State.deliver_sale s j u origin]
    simp [State.bump_events _ _ _ hp, State.sample_events _ _ hp]
  · rw [State.deliver_class2 s j u class2, State.moveToCashbox_events _ _ hp, State.sample_events _ _ hp]
  · rw [State.deliver_stackDown s j u origin, State.sample_events _ _ hp]

/-- What a class 1 piece leaves: the cup or outlet, and the stores (R116, R126). -/
theorem State.deliver_lanes {l : Lane} {tag : Nat} (origin : j.origin = .sale l tag) (extra : Nat) :
    (s.deliver j u extra).lanes = s.bumped j.dest ∧ (s.deliver j u extra).boxes = s.boxes ∧
      (s.deliver j u extra).transfers = s.transfers := by
  rw [State.deliver_sale s j u origin]
  have same : (s.sample (s.outSample j u)).bumped j.dest = s.bumped j.dest := by cases j.dest <;> simp [State.bumped]
  simp [State.bump_lanes, same]

theorem State.deliver_findSale {l : Lane} {tag : Nat} (origin : j.origin = .sale l tag) {x : Sale}
    (found : s.findSale l tag = some x) (takes : x.takesPieces j.stopped) (extra : Nat) :
    (s.deliver j u extra).findSale l tag =
      some { x with paid := satAdd x.paid (s.unitValue u), overpaid := satAdd x.overpaid extra } := by
  rw [State.deliver_sale s j u origin]
  exact State.payPiece_findSale (by simpa [State.findSale] using found) takes ..

/-- What a class 2 piece leaves: the cashbox and the transfer (R115, R149). -/
theorem State.deliver_box (class2 : j.origin = .sweep ∨ j.origin = .empty) (extra : Nat) :
    (s.deliver j u extra).sales = s.sales ∧ (s.deliver j u extra).lanes = s.lanes ∧
      (s.deliver j u extra).transfers.get u = (s.transfers.get u).map Transfer.more ∧
      ∀ d, (s.units.get u).slot = some d → ((s.deliver j u extra).boxes.get (unitKind u)).counts.get d =
        raised 65535 ((s.boxes.get (unitKind u)).counts.get d) := by
  rw [State.deliver_class2 s j u class2]
  refine ⟨by simp, by simp, by simp [State.moveToCashbox_transfers], fun d slot => ?_⟩
  rw [State.moveToCashbox_counts (by simpa using slot)]
  simp

/-- A piece leaves a transfer as it is, or moves it on (R149). -/
theorem State.deliver_transfer_ne (extra : Nat) (held : s.transfers.get u ≠ none) :
    (s.deliver j u extra).transfers.get u ≠ none := by
  rcases j.origin.cases with ⟨l, tag, origin⟩ | class2 | origin
  · rwa [(State.deliver_lanes s j u origin extra).2.2]
  · rw [(State.deliver_box s j u class2 extra).2.2.1]
    simpa using held
  · rw [State.deliver_stackDown s j u origin]
    simpa using held

end

end Sys2Proof.Machine
end

section
/-! SUPPORT. The two pieces of a report, and the job that completes with the first of them (R115, R126). -/

namespace Sys2Proof.Machine

-- One proof after the other: many short proofs at once take more threads than the check's memory limit has room for.
set_option Elab.async false

/-! ### One piece -/

/-- What a delivery reads of the state: the lanes, the limits and the unit's slot. -/
theorem State.pieceSamples_congr {s t : State} {j : Job} {u : UnitId} (lanes : t.lanes = s.lanes) (limits : t.limits = s.limits)
    (slot : (t.units.get u).slot = (s.units.get u).slot) (i : Nat) : t.pieceSamples j u i = s.pieceSamples j u i := by
  have out : t.outSample j u = s.outSample j u := by simp only [State.outSample, State.unitSlotMask, slot]
  have mask : t.unitSlotMask u = s.unitSlotMask u := by simp only [State.unitSlotMask, slot]
  have boxed : t.boxSamples u = s.boxSamples u := by simp only [State.boxSamples, slot]
  have bumped : t.bumpSamples j.dest (s.unitSlotMask u) i = s.bumpSamples j.dest (s.unitSlotMask u) i := by
    simp only [State.bumpSamples, lanes, limits]
  rcases j.origin.cases with ⟨l, tag, origin⟩ | class2 | origin
  · rw [State.pieceSamples_sale t j u origin, State.pieceSamples_sale s j u origin, out, mask, bumped]
  · rw [State.pieceSamples_class2 t j u class2, State.pieceSamples_class2 s j u class2, out, boxed]
  · rw [State.pieceSamples_stackDown t j u origin, State.pieceSamples_stackDown s j u origin, out]

theorem State.unitValue_congr {s t : State} {u : UnitId} (denoms : t.denoms = s.denoms)
    (slot : (t.units.get u).slot = (s.units.get u).slot) : t.unitValue u = s.unitValue u := by
  simp only [State.unitValue, State.slotValue, denoms, slot]

/-- One piece of a job is out: where it went, and what was seen of it (R115, R116, R126). -/
structure PieceOut (s t : State) (j : Job) (u : UnitId) (extra : Nat) : Prop where
  saw : Saw s t (s.pieceSamples j u 0)
  events : ∀ p, p ≠ .sp → t.events.get p = s.events.get p
  slot : (t.units.get u).slot = (s.units.get u).slot
  limits : t.limits = s.limits
  denoms : t.denoms = s.denoms
  lanes : ∀ l tag, j.origin = .sale l tag → t.lanes = s.bumped j.dest ∧ t.boxes = s.boxes ∧ t.transfers = s.transfers
  sale : ∀ l tag x, j.origin = .sale l tag → s.findSale l tag = some x → x.takesPieces j.stopped →
    t.findSale l tag = some { x with paid := satAdd x.paid (s.unitValue u), overpaid := satAdd x.overpaid extra }
  box : j.origin = .sweep ∨ j.origin = .empty → t.sales = s.sales ∧ t.lanes = s.lanes ∧
    t.transfers.get u = (s.transfers.get u).map Transfer.more ∧
    ∀ d, (s.units.get u).slot = some d → (t.boxes.get (unitKind u)).counts.get d =
      raised 65535 ((s.boxes.get (unitKind u)).counts.get d)
  transfer : s.transfers.get u ≠ none → t.transfers.get u ≠ none

/-- A delivery from a state that has counted the piece out of the unit and of the job. -/
theorem PieceOut.of_deliver {s a : State} {j : Job} {u : UnitId} (counters : a.counters = s.counters)
    (events : a.events = s.events) (slot : (a.units.get u).slot = (s.units.get u).slot) (limits : a.limits = s.limits)
    (denoms : a.denoms = s.denoms) (lanes : a.lanes = s.lanes) (sales : a.sales = s.sales) (boxes : a.boxes = s.boxes)
    (transfers : a.transfers = s.transfers) (extra : Nat) : PieceOut s (a.deliver j u extra) j u extra where
  saw n := by
    rw [a.deliver_saw j u extra n, State.pieceSamples_congr lanes limits slot, counters]
  events p hp := by rw [a.deliver_events j u extra hp, events]
  slot := by simpa using slot
  limits := by simpa using limits
  denoms := by simpa using denoms
  lanes l tag origin := by
    have bumped : a.bumped j.dest = s.bumped j.dest := by cases j.dest <;> simp only [State.bumped, lanes, limits]
    simpa only [bumped, boxes, transfers] using a.deliver_lanes j u origin extra
  sale l tag x origin found takes := by
    rw [← State.unitValue_congr denoms slot]
    exact a.deliver_findSale j u origin (by simpa only [State.findSale, sales] using found) takes extra
  box class2 := by simpa only [sales, lanes, transfers, slot, boxes] using a.deliver_box j u class2 extra
  transfer held := a.deliver_transfer_ne j u extra (by rwa [transfers])

theorem State.countPiece_out (s : State) (j : Job) (u : UnitId) : PieceOut s (s.countPiece j u) j u 0 :=
  .of_deliver (by simp) (by simp) (by simp [State.countOut]) (by simp) (by simp) (by simp) (by simp) (by simp) (by simp) 0

theorem State.countExtra_out (s : State) (j : Job) (u : UnitId) : PieceOut s (s.countExtra j u) j u (s.unitValue u) :=
  .of_deliver (by simp) (by simp) (by simp) (by simp) (by simp) (by simp) (by simp) (by simp) (by simp) _

/-! ### Two pieces -/

/-- The piece that completes the job, and the extra one (R126). -/
def State.twoOut (s : State) (j : Job) (u : UnitId) : State := (s.countPiece j u).countExtra j u

theorem State.countPieces_last (s : State) {j : Job} (last : j.done + 1 = j.ordered) (u : UnitId) :
    s.countPieces j u .two = s.twoOut j u := by
  have one : j.undone = 1 := by simp only [Job.undone]; omega
  simp [State.countPieces, ownPieces, extraPiece, one, State.twoOut]

section
variable (s : State) (j : Job) (u : UnitId)

/-- The second piece finds the cup or outlet as the first one left it. -/
theorem State.countPiece_samples : (s.countPiece j u).pieceSamples j u 0 = s.pieceSamples j u 1 := by
  have out := s.countPiece_out j u
  have mask : (s.countPiece j u).unitSlotMask u = s.unitSlotMask u := by simp only [State.unitSlotMask, out.slot]
  have first : (s.countPiece j u).outSample j u = s.outSample j u := by rw [State.outSample, mask, State.outSample]
  have boxed : (s.countPiece j u).boxSamples u = s.boxSamples u := by simp only [State.boxSamples, out.slot]
  have rises (limit n : Nat) : raised limit n + 0 + 1 = limit ↔ n + 1 + 1 = limit := by
    unfold raised
    split <;> omega
  rcases j.origin.cases with ⟨l, tag, origin⟩ | class2 | origin
  · rw [State.pieceSamples_sale _ j u origin, State.pieceSamples_sale _ j u origin, first, mask]
    obtain ⟨lanes, -, -⟩ := out.lanes l tag origin
    cases dest : j.dest <;> simp [State.bumpSamples, lanes, State.bumped, dest, rises]
  · rw [State.pieceSamples_class2 _ j u class2, State.pieceSamples_class2 _ j u class2, first, boxed]
  · rw [State.pieceSamples_stackDown _ j u origin, State.pieceSamples_stackDown _ j u origin, first]

theorem State.twoOut_saw : Saw s (s.twoOut j u) (s.pieceSamples j u 0 ++ s.pieceSamples j u 1) := by
  have second := ((s.countPiece j u).countExtra_out j u).saw
  rw [State.countPiece_samples] at second
  exact (s.countPiece_out j u).saw.trans second

theorem State.twoOut_events {p : Port} (hp : p ≠ .sp) : (s.twoOut j u).events.get p = s.events.get p :=
  (((s.countPiece j u).countExtra_out j u).events p hp).trans ((s.countPiece_out j u).events p hp)

theorem State.twoOut_units : (s.twoOut j u).units = s.units.modify u fun r => r.counted 1 1 := by
  rw [State.twoOut, State.countExtra_units, State.countPiece_units, Twelve.modify_modify]
  rfl

/-- The sale after both pieces: two paid, one of them overpaid (R126). -/
theorem State.twoOut_findSale {l : Lane} {tag : Nat} (origin : j.origin = .sale l tag) {x : Sale}
    (found : s.findSale l tag = some x) (takes : x.takesPieces j.stopped) :
    ∃ y, (s.twoOut j u).findSale l tag = some y ∧ y.state = x.state ∧ y.shortfall = x.shortfall ∧
      (x.paid ≤ 999999 → y.paid = min 999999 (x.paid + 2 * s.unitValue u)) ∧
      (x.overpaid ≤ 999999 → y.overpaid = min 999999 (x.overpaid + s.unitValue u)) := by
  have out := s.countPiece_out j u
  have first := out.sale l tag x origin found takes
  have second := ((s.countPiece j u).countExtra_out j u).sale l tag _ origin first takes
  rw [State.unitValue_congr out.denoms out.slot] at second
  refine ⟨_, second, rfl, rfl, fun _ => ?_, fun bound => ?_⟩
  · simp only [satAdd, Config.maxAmount]
    omega
  · simp only [satAdd, Config.maxAmount]
    omega

/-- The cup or the outlet after both pieces (R103, R126). -/
theorem State.twoOut_lanes {l : Lane} {tag : Nat} (origin : j.origin = .sale l tag) :
    (s.twoOut j u).boxes = s.boxes ∧
      (j.dest = .cup l → (s.twoOut j u).lanes = s.lanes.set l { s.lanes.get l with
        cup := if (s.lanes.get l).cup < s.limits.cup then min s.limits.cup ((s.lanes.get l).cup + 2)
          else (s.lanes.get l).cup }) ∧
      (j.dest = .outlet l → (s.twoOut j u).lanes = s.lanes.set l { s.lanes.get l with
        outlet := if (s.lanes.get l).outlet < s.limits.outlet then min s.limits.outlet ((s.lanes.get l).outlet + 2)
          else (s.lanes.get l).outlet }) := by
  have out := s.countPiece_out j u
  obtain ⟨lanes, boxes, -⟩ := out.lanes l tag origin
  obtain ⟨lanes', boxes', -⟩ := ((s.countPiece j u).countExtra_out j u).lanes l tag origin
  refine ⟨boxes'.trans boxes, fun dest => ?_, fun dest => ?_⟩
  · rw [State.twoOut, lanes', ← raised_raised]
    simp [State.bumped, dest, lanes]
  · rw [State.twoOut, lanes', ← raised_raised]
    simp [State.bumped, dest, lanes]

/-- The cashbox and the transfer after both pieces (R126, R149). -/
theorem State.twoOut_box (class2 : j.origin = .sweep ∨ j.origin = .empty) :
    (s.twoOut j u).sales = s.sales ∧ (s.twoOut j u).lanes = s.lanes ∧
      (s.twoOut j u).transfers.get u = (s.transfers.get u).map (fun x => { x with moved := x.moved + 2 }) ∧
      ∀ d, (s.units.get u).slot = some d → (s.boxes.get (unitKind u)).counts.get d + 2 ≤ 65535 →
        ((s.twoOut j u).boxes.get (unitKind u)).counts.get d = (s.boxes.get (unitKind u)).counts.get d + 2 := by
  have out := s.countPiece_out j u
  obtain ⟨sales, lanes, transfers, counts⟩ := out.box class2
  obtain ⟨sales', lanes', transfers', counts'⟩ := ((s.countPiece j u).countExtra_out j u).box class2
  refine ⟨sales'.trans sales, lanes'.trans lanes, ?_, fun d slot room => ?_⟩
  · rw [State.twoOut, transfers', transfers, Option.map_map]
    rfl
  · rw [State.twoOut, counts' d (out.slot.trans slot), counts d slot, raised_raised, if_pos (by omega)]
    omega

theorem State.twoOut_transfer (held : s.transfers.get u ≠ none) : (s.twoOut j u).transfers.get u ≠ none :=
  ((s.countPiece j u).countExtra_out j u).transfer ((s.countPiece_out j u).transfer held)

end

end Sys2Proof.Machine
end

section
/-! SUPPORT. EXIT_SENSOR_REPORT of a piece too many (R126, R127). -/

namespace Sys2Proof.Machine

-- One proof after the other: many short proofs at once take more threads than the check's memory limit has room for.
set_option Elab.async false

/-! ### The job has completed, and nothing is shortened yet (R91, R115) -/

section
variable (s : State) (k : Kind) (e : Ejection) (j : Job) (u : UnitId)

/-- The job has left its queue, and its transfer has ended. -/
def State.completedOut : State :=
  (((((s.twoOut j u).endEjection k e e.after).dropJob j.serial).sampleDepth j.origin).endTransferOf j u .complete).lockIfDone u

theorem State.detect_last (last : j.done + 1 = j.ordered) :
    s.detect k e j u .two = ((s.completedOut k e j u).shorten u).settleJob j := by
  have one : j.undone = 1 := by simp only [Job.undone]; omega
  have extra : extraPiece j .two = true := by simp [extraPiece, one]
  have own : ownPieces j .two = 1 := by simp [ownPieces, one]
  have closed : s.detectOwn k e j u .two = s.completedOut k e j u := by
    rw [State.detectOwn, s.countPieces_last last, own, State.closeJob, if_pos (by simp [Job.counted, last])]
    rfl
  rw [State.detect_eq, if_pos extra, closed]

theorem State.lockIfDone_unit (v : UnitId) :
    ((s.lockIfDone u).units.get v).count = (s.units.get v).count ∧
      ((s.lockIfDone u).units.get v).committed = (s.units.get v).committed ∧
      ((s.lockIfDone u).units.get v).slot = (s.units.get v).slot ∧
      (v ≠ u → (s.lockIfDone u).units.get v = s.units.get v) := by
  rw [State.lockIfDone]
  split
  · simp only [State.setUnitState, State.markDirty, State.modUnit, Twelve.get_modify]
    by_cases same : v = u
    · simp [same]
    · simp [same]
  · simp

theorem State.completedOut_units (v : UnitId) : let t := s.completedOut k e j u
    (v ≠ u → t.units.get v = s.units.get v) ∧ (t.units.get u).count = (s.units.get u).count - 2 ∧
      (t.units.get u).committed = (s.units.get u).committed - 1 ∧ (t.units.get u).slot = (s.units.get u).slot := by
  intro t
  have before : ((((((s.twoOut j u).endEjection k e e.after).dropJob j.serial).sampleDepth j.origin).endTransferOf j u
      .complete)).units = s.units.modify u fun r => r.counted 1 1 := by
    simp [State.twoOut_units]
  obtain ⟨-, -, -, other⟩ := State.lockIfDone_unit ((((((s.twoOut j u).endEjection k e e.after).dropJob j.serial).sampleDepth
    j.origin).endTransferOf j u .complete)) u v
  obtain ⟨count, committed, slot, -⟩ := State.lockIfDone_unit ((((((s.twoOut j u).endEjection k e e.after).dropJob
    j.serial).sampleDepth j.origin).endTransferOf j u .complete)) u u
  rw [before, Twelve.get_modify_same] at count committed slot
  refine ⟨fun ne => ?_, count, committed, slot⟩
  rw [show t.units.get v = _ from other ne, before, Twelve.get_modify_other _ ne]

theorem State.twoOut_allJobs :
    (s.twoOut j u).allJobs = s.allJobs.map fun i => if i.serial = j.serial then i.counted 1 else i := by
  obtain ⟨laneJobs, serviceJobs, stackJobs⟩ := s.countPiece_jobs j u
  rw [← State.modJob_allJobs]
  exact State.allJobs_congr (by simpa [State.twoOut] using laneJobs) (by simpa [State.twoOut] using serviceJobs)
    (by simpa [State.twoOut] using stackJobs)

theorem State.completedOut_allJobs (job : j.serial = e.job) :
    (s.completedOut k e j u).allJobs = s.allJobs.filter fun i => decide (i.serial ≠ e.job) := by
  have dropped : (s.completedOut k e j u).allJobs = (((s.twoOut j u).endEjection k e e.after).dropJob j.serial).allJobs :=
    State.allJobs_congr (by simp [State.completedOut]) (by simp [State.completedOut]) (by simp [State.completedOut])
  have landed : ((s.twoOut j u).endEjection k e e.after).allJobs =
      (s.twoOut j u).allJobs.map fun i => if i.serial = e.job then i.landed else i :=
    ((s.twoOut j u).setPhase k e.after).modJob_allJobs e.job Job.landed
  rw [dropped, State.dropJob_allJobs, landed, job, filter_map_serial (f := Job.landed) fun _ => rfl, State.twoOut_allJobs, job,
    filter_map_serial (f := fun i => i.counted 1) fun _ => rfl]

/-- What one queue keeps of a completed job: nothing of its serial number, and the others as they are (R91). -/
theorem queue_without (n : Nat) (js : List Job) :
    (((js.map fun i => if i.serial = n then i.counted 1 else i).map fun i => if i.serial = n then i.landed else i).filter
      fun i => !decide (i.serial = n)) = js.filter fun i => decide (i.serial ≠ n) := by
  have landed := filter_map_serial (f := Job.landed) (fun _ => rfl) n (js.map fun i => if i.serial = n then i.counted 1 else i)
  have counted := filter_map_serial (f := fun i => i.counted 1) (fun _ => rfl) n js
  simpa using landed.trans counted

theorem State.completed_queues (job : j.serial = e.job) :
    let t := ((s.twoOut j u).endEjection k e e.after).dropJob j.serial
    (∀ l, t.laneJobs.get l = (s.laneJobs.get l).filter fun i => decide (i.serial ≠ j.serial)) ∧
      t.serviceJobs = (s.serviceJobs.filter fun i => decide (i.serial ≠ j.serial)) ∧
      t.stackJobs = s.stackJobs.filter fun i => decide (i.serial ≠ j.serial) := by
  intro t
  obtain ⟨laneJobs, serviceJobs, stackJobs⟩ := s.countPiece_jobs j u
  simp only [State.modJob_eq] at laneJobs serviceJobs stackJobs
  refine ⟨fun l => ?_, ?_, ?_⟩
  · rw [← queue_without]
    simp [t, State.dropJob, State.dropJobs_eq, State.endEjection, State.landJob, State.modJob_eq, State.twoOut, laneJobs, ← job,
      Job.landed]
  · rw [← queue_without]
    simp [t, State.dropJob, State.dropJobs_eq, State.endEjection, State.landJob, State.modJob_eq, State.twoOut, serviceJobs, ← job,
      Job.landed]
  · rw [← queue_without]
    simp [t, State.dropJob, State.dropJobs_eq, State.endEjection, State.landJob, State.modJob_eq, State.twoOut, stackJobs, ← job,
      Job.landed]

theorem State.completedOut_saw (job : j.serial = e.job) :
    Saw s (s.completedOut k e j u) (s.pieceSamples j u 0 ++ s.pieceSamples j u 1 ++ [s.depthSample j]) := by
  obtain ⟨laneJobs, serviceJobs, stackJobs⟩ := s.completed_queues k e j u job
  have depth : (((s.twoOut j u).endEjection k e e.after).dropJob j.serial).queueLength j.origin = (s.depthSample j).value := by
    obtain ⟨serial, o, source, ordered, done, dest, inFlight, stopped⟩ := j
    cases o with
    | sale l tag => exact congrArg List.length (laneJobs l)
    | stackDown => exact congrArg List.length stackJobs
    | sweep | empty => exact congrArg List.length serviceJobs
  refine (s.twoOut_saw j u).trans fun n => ?_
  simp only [State.completedOut, State.lockIfDone_keeps, State.endTransferOf_keeps, State.sampleDepth, depth]
  simp [State.depthSample]

theorem State.completedOut_events {p : Port} (hp : p ≠ .sp) : (s.completedOut k e j u).events.get p = s.events.get p := by
  have ended (t : State) : (t.endTransferOf j u .complete).events.get p = t.events.get p := by
    simp only [State.endTransferOf, State.endTransfer]
    (repeat' split) <;> simp [State.modTransfer, State.raiseTransferDone, PerPort.get_modify_other _ hp]
  simp only [State.completedOut, State.lockIfDone_keeps, ended]
  simp [State.sampleDepth, State.sample_events _ _ hp, State.twoOut_events s j u hp]

/-- The sale, the lanes, the boxes and the transfers are as both pieces left them, but for the transfer that ends. -/
theorem State.completedOut_keeps : (s.completedOut k e j u).sales = (s.twoOut j u).sales ∧
    (s.completedOut k e j u).lanes = (s.twoOut j u).lanes ∧ (s.completedOut k e j u).boxes = (s.twoOut j u).boxes := by
  simp [State.completedOut]

theorem State.completedOut_transfer (class2 : j.origin = .sweep ∨ j.origin = .empty) {x : Transfer}
    (held : s.transfers.get u = some x) : let t := s.completedOut k e j u
    t.transfers.get u = some { x with moved := x.moved + 2, ended := .complete } ∧
      (t.events.get .sp).transferDone = some (u, x.kind, x.moved + 2) := by
  obtain ⟨-, -, transfers, -⟩ := s.twoOut_box j u class2
  rw [held, Option.map_some] at transfers
  have before : ((((s.twoOut j u).endEjection k e e.after).dropJob j.serial).sampleDepth j.origin).transfers.get u =
      some { x with moved := x.moved + 2 } := by simpa using transfers
  simpa [State.completedOut] using State.endTransferOf_class2 class2 before .complete

theorem State.endTransferOf_ne {s : State} {j : Job} {u : UnitId} (held : s.transfers.get u ≠ none) (x : TransferEnd) :
    (s.endTransferOf j u x).transfers.get u ≠ none := by
  simp only [State.endTransferOf, State.endTransfer]
  (repeat' split) <;> simp_all [State.modTransfer, State.raiseTransferDone]

theorem State.completedOut_transfer_ne (held : s.transfers.get u ≠ none) :
    (s.completedOut k e j u).transfers.get u ≠ none := by
  have before : ((((s.twoOut j u).endEjection k e e.after).dropJob j.serial).sampleDepth j.origin).transfers.get u ≠ none := by
    simpa using s.twoOut_transfer j u held
  simpa [State.completedOut] using State.endTransferOf_ne (j := j) before .complete

end

end Sys2Proof.Machine
end

section
/-! SUPPORT. EXIT_SENSOR_REPORT of a piece too many, with what it takes from another job (R126, R127). -/

namespace Sys2Proof.Machine

-- One proof after the other: many short proofs at once take more threads than the check's memory limit has room for.
set_option Elab.async false

/-! ### What the shortening leaves (R127) -/

theorem State.shorten_cases (s : State) (u : UnitId) : s.shorten u = s ∨ ∃ j, s.shorten u = s.shortenJob j u := by
  rw [State.shorten]
  split
  · split
    next j _ => exact .inr ⟨j, rfl⟩
    · exact .inl rfl
  · exact .inl rfl

/-- The shortening brings no new serial number. -/
theorem State.shorten_serial {s : State} {u : UnitId} {i : Job} (mem : i ∈ (s.shorten u).allJobs) :
    ∃ x ∈ s.allJobs, x.serial = i.serial := by
  rcases s.shorten_cases u with same | ⟨j, eq⟩
  · exact ⟨i, same ▸ mem, rfl⟩
  · rw [eq, State.shortenJob_allJobs] at mem
    split at mem
    · exact ⟨i, List.mem_of_mem_filter mem, rfl⟩
    · obtain ⟨x, old, rfl⟩ := List.mem_map.mp mem
      refine ⟨x, old, ?_⟩
      split <;> rfl

theorem State.endTransferOf_events (s : State) (j : Job) (u : UnitId) (x : TransferEnd) {p : Port} (hp : p ≠ .sp) :
    (s.endTransferOf j u x).events.get p = s.events.get p := by
  simp only [State.endTransferOf, State.endTransfer]
  (repeat' split) <;> simp [State.modTransfer, State.raiseTransferDone, PerPort.get_modify_other _ hp]

/-- The shortening takes committed pieces of the unit only, and raises no event at a lane's port (R127). -/
theorem State.shorten_leaves (s : State) (u : UnitId) :
    (∀ v, v ≠ u → (s.shorten u).units.get v = s.units.get v) ∧
      ((s.shorten u).units.get u).count = (s.units.get u).count ∧
      ∀ p, p ≠ .sp → (s.shorten u).events.get p = s.events.get p := by
  rcases s.shorten_cases u with same | ⟨j, eq⟩
  · rw [same]
    exact ⟨fun _ _ => rfl, rfl, fun _ _ => rfl⟩
  · rw [eq]
    refine ⟨fun v other => by rw [State.shortenJob_units, if_neg other], ?_, fun p hp => ?_⟩
    · rw [State.shortenJob_units, if_pos rfl]
      rfl
    · rw [(s.shortenJob_transfer j u).2]
      split
      · exact s.endTransferOf_events j u .complete hp
      · rfl

/-- A transfer that has ended COMPLETE with TRANSFER_DONE stays so (R127, R149). -/
theorem State.shorten_transfer {s : State} {u : UnitId} {x : Transfer} (held : s.transfers.get u = some x)
    (ended : x.ended = .complete) (done : (s.events.get .sp).transferDone = some (u, x.kind, x.moved)) :
    (s.shorten u).transfers.get u = some x ∧ ((s.shorten u).events.get .sp).transferDone = some (u, x.kind, x.moved) := by
  rcases s.shorten_cases u with same | ⟨j, eq⟩
  · rw [same]
    exact ⟨held, done⟩
  · obtain ⟨transfers, events⟩ := s.shortenJob_transfer j u
    rw [eq, transfers, events]
    split
    · have again : { x with ended := .complete } = x := by rw [← ended]
      rcases j.origin.cases with ⟨l, tag, origin⟩ | class2 | origin
      · simpa [State.endTransferOf, origin] using ⟨held, done⟩
      · simpa only [again] using State.endTransferOf_class2 class2 held .complete
      · simpa [State.endTransferOf, origin] using ⟨held, done⟩
    · exact ⟨held, done⟩

/-- The request list after one piece's REPLAN of a sale (R49, R51). -/
theorem State.placeReplan_list (s : State) (l : Lane) (tag v : Nat) :
    (s.hasRequest l tag = false → (s.placeRequest l tag .replan v).planReqs =
        insertReq { lane := l, tag := tag, kind := .replan, amount := boundAmount v, shielded := false } s.planReqs) ∧
      ∀ q, s.planReqs.find? (fun r => r.isOf l tag) = some q → (s.placeRequest l tag .replan v).planReqs =
        if q.kind = .refund then
          insertReq { q with amount := boundAmount (q.amount + v), kind := .replan } (s.planReqs.filter fun r => !r.isOf l tag)
        else s.planReqs.map fun r => if r.isOf l tag then { q with amount := boundAmount (q.amount + v) } else r := by
  refine ⟨fun none => State.placeRequest_fresh none .., fun q found => ?_⟩
  by_cases refund : q.kind = .refund
  · rw [State.placeReplan_refund found refund, if_pos refund, PlanReq.replanned, if_pos refund]
  · rw [State.placeReplan_stays found refund, if_neg refund, PlanReq.replanned, if_neg refund]

/-! ### The report -/

section
variable {k : Kind} {e : Ejection} {u : UnitId} {j : Job} {s : State}

theorem exec_exitSensorReport_two (running : s.Running) (ejecting : (s.mechs.get k).phase = .ejecting e)
    (source : e.source = .unit u) (found : s.findJob e.job = some j) (last : j.done + 1 = j.ordered) :
    exec (.exitSensorReport k .two) s = .next ((s.detect k e j u .two).conclude true [] []) := by
  have taken : exec (.exitSensorReport k .two) s = .next (takeExitSensorReport k .two s.firstEvent) := rfl
  have ejection : s.ejection k = some e := by rw [State.ejection, ejecting]
  have one : j.undone = 1 := by simp only [Job.undone]; omega
  have extra : extraPiece j .two = true := by simp [extraPiece, one]
  rw [taken, State.firstEvent_running running, takeExitSensorReport, State.whenPowered, if_pos running.1, ejection]
  simp only [source, found, extra, Bool.true_or]

/-- The sale once both pieces are paid and the job has left: it ends where nothing of it is left (R109, R126). -/
theorem State.detect_sale {l : Lane} {tag : Nat} (origin : j.origin = .sale l tag) (last : j.done + 1 = j.ordered) {x : Sale}
    (found : s.findSale l tag = some x) (takes : x.takesPieces j.stopped) : let t := s.detect k e j u .two
    ∃ y, t.findSale l tag = some y ∧
      (x.paid ≤ 999999 → y.paid = min 999999 (x.paid + 2 * s.unitValue u)) ∧
      (x.overpaid ≤ 999999 → y.overpaid = min 999999 (x.overpaid + s.unitValue u)) ∧ y.shortfall = x.shortfall ∧
      y.state = (if j.stopped then .stopped
        else endState x.state x.shortfall (t.busy l tag) (decide ((s.escrows.get l).owner = .sale tag))) ∧
      t.events.get l.port = { s.events.get l.port with
        finished := if y.state = x.state then (s.events.get l.port).finished
          else pushLast (s.events.get l.port).finished (tag, y.state) } := by
  intro t
  obtain ⟨y, paid, state, shortfall, value, overpaid⟩ := s.twoOut_findSale j u origin found takes
  have sale : ((s.completedOut k e j u).shorten u).findSale l tag = some y := by
    simpa [State.findSale, (s.completedOut_keeps k e j u).1] using paid
  have events : ((s.completedOut k e j u).shorten u).events.get l.port = s.events.get l.port :=
    (((s.completedOut k e j u).shorten_leaves u).2.2 _ (lanePort_ne_sp l)).trans (s.completedOut_events k e j u (lanePort_ne_sp l))
  have escrows : ((s.completedOut k e j u).shorten u).escrows = s.escrows := by simp [State.completedOut, State.twoOut]
  have detected : t = ((s.completedOut k e j u).shorten u).settleJob j := s.detect_last k e j u last
  cases stopped : j.stopped with
  | true =>
    have kept : t = (s.completedOut k e j u).shorten u := by simp [detected, State.settleJob, origin, stopped]
    have before : x.state = .stopped := by simpa [Sale.takesPieces, stopped] using takes
    refine ⟨y, kept ▸ sale, value, overpaid, shortfall, by simp [state, before], ?_⟩
    rw [kept, events, if_pos state]
  | false =>
    have settled : t = ((s.completedOut k e j u).shorten u).settleTest l tag := by
      simp [detected, State.settleJob, origin, stopped]
    have busy : t.busy l tag = ((s.completedOut k e j u).shorten u).busy l tag :=
      State.busy_congr (by simp [settled]) (by simp [settled]) ..
    have findSale := State.settleTest_findSale sale
    have finished := State.settleTest_events sale rfl
    rw [← settled, ← busy, escrows, state, shortfall] at findSale finished
    refine ⟨_, findSale, value, overpaid, rfl, rfl, ?_⟩
    simp only [finished]
    split
    · exact events
    · rw [PerPort.get_set_same, events]

/-- The shortening after the report: the job created last, of those that are left on the unit (R127). -/
theorem State.detect_shortens (last : j.done + 1 = j.ordered) (job : j.serial = e.job)
    (short : (s.units.get u).count - 2 < (s.units.get u).committed - 1)
    (some : ∃ i ∈ s.allJobs, i.source = .unit u ∧ i.serial ≠ e.job) : let t := s.detect k e j u .two
    ∃ i ∈ s.allJobs, i.source = .unit u ∧ i.serial ≠ e.job ∧
      (∀ x ∈ s.allJobs, x.source = .unit u → x.serial ≠ e.job → x.serial ≤ i.serial) ∧
      (t.units.get u).committed = (s.units.get u).committed - 2 ∧
      (∀ l tag, i.origin = .sale l tag → t.planReqs = (s.placeRequest l tag .replan (s.unitValue u)).planReqs) ∧
      (i.origin = .sweep ∨ i.origin = .empty → t.planReqs = s.planReqs ∧
        (i.ordered - 1 ≤ i.done → s.transfers.get u ≠ none → (t.transfers.get u).map Transfer.ended = .some .complete)) ∧
      (i.ordered - 1 ≤ i.done → ∀ x ∈ t.allJobs, x.serial ≠ i.serial) ∧
      (i.done < i.ordered - 1 → { i with ordered := i.ordered - 1 } ∈ t.allJobs) ∧
      ∀ x, x.serial ≠ e.job → x.serial ≠ i.serial → (x ∈ t.allJobs ↔ x ∈ s.allJobs) := by
  intro t
  obtain ⟨-, count, committed, slot⟩ := s.completedOut_units k e j u u
  have jobs := s.completedOut_allJobs k e j u job
  have planReqs : (s.completedOut k e j u).planReqs = s.planReqs := by simp [State.completedOut, State.twoOut]
  have denoms : (s.completedOut k e j u).denoms = s.denoms := by simp [State.completedOut, State.twoOut]
  have value := State.unitValue_congr denoms slot
  have listed (x : Job) : x ∈ (s.completedOut k e j u).allJobs ↔ x ∈ s.allJobs ∧ x.serial ≠ e.job := by
    simp [jobs, List.mem_filter]
  have held := s.completedOut_transfer_ne k e j u
  have detected : t = ((s.completedOut k e j u).shorten u).settleJob j := s.detect_last k e j u last
  generalize s.completedOut k e j u = w at *
  obtain ⟨i, mem, source, latest, eq⟩ := State.shorten_some (by rwa [count, committed])
    (some.imp fun i h => ⟨(listed i).mpr ⟨h.1, h.2.2⟩, h.2.1⟩)
  obtain ⟨leaves, stays, others⟩ := State.shortenJob_jobs mem u
  obtain ⟨sale, other⟩ := w.shortenJob_planReqs i u
  have units := w.shortenJob_units i u u
  obtain ⟨transfers, -⟩ := w.shortenJob_transfer i u
  have kept : t.planReqs = (w.shortenJob i u).planReqs ∧ t.units = (w.shortenJob i u).units ∧
      t.transfers = (w.shortenJob i u).transfers := by simp [detected, eq]
  have keptJobs : t.allJobs = (w.shortenJob i u).allJobs := by
    rw [detected, eq]
    exact State.allJobs_congr (by simp) (by simp) (by simp)
  rw [kept.1, kept.2.1, kept.2.2, keptJobs]
  refine ⟨i, ((listed i).mp mem).1, source, ((listed i).mp mem).2, fun x hx on ne => latest x ((listed x).mpr ⟨hx, ne⟩) on, ?_,
    fun l tag origin => ?_, fun class2 => ⟨?_, fun done before => ?_⟩, leaves, stays, fun x ne ne' => ?_⟩
  · rw [units, if_pos rfl, UnitRec.released, committed]
    exact Nat.sub_sub _ 1 1
  · rw [sale l tag origin, value]
    exact State.placeRequest_congr planReqs ..
  · rw [other fun l tag origin => by simp [origin] at class2, planReqs]
  · obtain ⟨x, here⟩ := Option.ne_none_iff_exists'.mp (held before)
    rw [transfers, if_pos done, (State.endTransferOf_class2 class2 here .complete).1]
    rfl
  · rw [others x ne', listed]
    exact and_iff_left ne

/-- Without a shortening the request list and the other jobs stay as they are (R126). -/
theorem State.detect_quiet (last : j.done + 1 = j.ordered) (job : j.serial = e.job)
    (enough : (s.units.get u).committed - 1 ≤ (s.units.get u).count - 2 ∨ ∀ i ∈ s.allJobs, i.source = .unit u → i.serial = e.job) :
    let t := s.detect k e j u .two
    (t.units.get u).committed = (s.units.get u).committed - 1 ∧ t.planReqs = s.planReqs ∧
      ∀ x, x.serial ≠ e.job → (x ∈ t.allJobs ↔ x ∈ s.allJobs) := by
  intro t
  obtain ⟨-, count, committed, -⟩ := s.completedOut_units k e j u u
  have jobs := s.completedOut_allJobs k e j u job
  have none : (s.completedOut k e j u).shorten u = s.completedOut k e j u := by
    refine State.shorten_none (enough.imp (fun h => by rwa [count, committed]) fun away i mem source => ?_)
    rw [jobs, List.mem_filter] at mem
    exact (by simpa using mem.2 : i.serial ≠ e.job) (away i mem.1 source)
  have detected : t = (s.completedOut k e j u).settleJob j := by rw [← none]; exact s.detect_last k e j u last
  have keptJobs : t.allJobs = (s.completedOut k e j u).allJobs := by
    rw [detected]
    exact State.allJobs_congr (by simp) (by simp) (by simp)
  refine ⟨?_, ?_, fun x other => ?_⟩
  · have units : t.units = (s.completedOut k e j u).units := by simp [detected]
    rw [units, committed]
  · simp [detected, State.completedOut, State.twoOut]
  · simp [keptJobs, jobs, List.mem_filter, other]

end

/-- Settles O36: both pieces are counted and the job leaves; then one more job is shortened, and the sale is settled.
(`extraPiece` itself is the model's test for such a report.) -/
theorem extraPiece_holds : Obligations.ExtraPiece := by
  refine ⟨fun k e u j s running ejecting source found last => ?_, fun u s => ⟨fun enough => State.shorten_none (.inl enough),
    shorten_takes u s⟩⟩
  have job : j.serial = e.job := by simpa using List.find?_some found
  have detected := s.detect_last k e j u last
  obtain ⟨-, count, -, -⟩ := s.completedOut_units k e j u u
  obtain ⟨others, counted, -⟩ := (s.completedOut k e j u).shorten_leaves u
  obtain ⟨sales, lanes, boxes⟩ := s.completedOut_keeps k e j u
  have units : (s.detect k e j u .two).units = ((s.completedOut k e j u).shorten u).units := by simp [detected]
  refine ⟨s.detect k e j u .two, exec_exitSensorReport_two running ejecting source found last, ?_, ?_,
    State.detect_quiet last job, fun short some => ?_, fun v other => ?_, ?_, ?_, fun l tag x origin sale takes => ?_,
    fun l tag origin => ?_, fun d class2 slot => ?_, ?_⟩
  · simp [detected, State.completedOut, State.twoOut, State.endEjection, State.setPhase, PerKind.modify, Ejection.after]
  · rw [units, counted, count]
  · obtain ⟨i, mem, on, ne, latest, committed, sale, class2, leaves, stays, rest⟩ :=
      State.detect_shortens (k := k) last job short some
    refine ⟨i, mem, on, ne, latest, committed, fun l tag origin => ?_, class2, leaves, stays, rest⟩
    rw [sale l tag origin]
    exact s.placeReplan_list l tag (s.unitValue u)
  · rw [units, others v other]
    exact (s.completedOut_units k e j u v).1 other
  · have gone (i : Job) (mem : i ∈ (s.detect k e j u .two).allJobs) : i.serial ≠ e.job := by
      have same : (s.detect k e j u .two).allJobs = ((s.completedOut k e j u).shorten u).allJobs := by
        rw [detected]
        exact State.allJobs_congr (by simp) (by simp) (by simp)
      obtain ⟨x, old, serial⟩ := State.shorten_serial (same ▸ mem)
      rw [s.completedOut_allJobs k e j u job, List.mem_filter] at old
      rw [← serial]
      simpa using old.2
    exact List.find?_eq_none.mpr fun i mem => by simpa using gone i mem
  · intro n
    rw [← s.completedOut_saw k e j u job n, detected]
    simp
  · exact State.detect_sale origin last sale takes
  · obtain ⟨boxed, cup, outlet⟩ := s.twoOut_lanes j u origin
    have kept : (s.detect k e j u .two).boxes = (s.twoOut j u).boxes ∧ (s.detect k e j u .two).lanes = (s.twoOut j u).lanes := by
      simp [detected, lanes, boxes]
    rw [kept.1, kept.2]
    exact ⟨boxed, cup, outlet⟩
  · obtain ⟨sold, laned, -, counts⟩ := s.twoOut_box j u class2
    have settled : s.detect k e j u .two = (s.completedOut k e j u).shorten u := by
      rw [detected]
      rcases class2 with origin | origin <;> simp [State.settleJob, origin]
    rw [settled]
    refine ⟨by simp [sales, sold], by simp [lanes, laned], by simpa [boxes] using counts d slot, fun x held => ?_⟩
    obtain ⟨ended, done⟩ := s.completedOut_transfer k e j u class2 held
    exact State.shorten_transfer ended rfl done
  · simp

end Sys2Proof.Machine
end
